-- ==== Sys2Proof/Word.lean ====
section
/-! DEFINITION. The word types of the SX8 model: bytes, 16-, 32- and 64-bit words. -/
namespace Sys2Proof

/-- One byte. -/
abbrev Byte := BitVec 8
/-- A 16-bit field. -/
abbrev Half := BitVec 16
/-- A 32-bit register, count or sequence number (R44, R610). -/
abbrev Word := BitVec 32
/-- A 64-bit value: an address, a slot value, a Slag record. -/
abbrev DWord := BitVec 64

end Sys2Proof
end

