-- ==== Sys2Proof/Billet.lean ====
section
/-! DEFINITION. What commands carry: a billet's header fields and payload bytes (R39, R40), a datagram, a register
access, the identity of a strand, and the results that hardware reports. -/
namespace Sys2Proof

/-- The header fields of a billet whose opcode and length the command itself gives (R39). -/
structure BilletHdr where
  seq : Word
  tag : Word
  flags : Half
  group : Half
  deadline : Word
  check : Word
  deriving DecidableEq, Repr

/-- A billet of one slice, as a command names it: the opcode is the command's own. -/
structure Billet where
  slice : Fin 16
  hdr : BilletHdr
  payload : List Byte
  deriving DecidableEq, Repr

/-- A billet as Knaby reads it: every header field of R39 and the LENGTH payload bytes. -/
structure BilletMsg where
  opcode : Half
  length : Half
  seq : Word
  tag : Word
  flags : Half
  group : Half
  deadline : Word
  res14 : Word
  res18 : Word
  check : Word
  payload : List Byte
  deriving DecidableEq, Repr

/-- The source identity of a UDP datagram (R164). -/
structure NetId where
  mac : BitVec 48
  vlan : BitVec 12
  ipv4 : Word
  udp : Half
  deriving DecidableEq, Repr

/-- What the UDP checksum of a datagram shows (R50). -/
inductive UdpSum where
  | zero | good | bad
  deriving DecidableEq, Repr

/-- A datagram that reaches the billet or the quench port (R50, R159). -/
structure UdpIn where
  src : NetId
  fragment : Bool
  sum : UdpSum
  payload : List Byte
  deriving DecidableEq, Repr

/-- Who makes a register access: a host through a PCIe port, or a fabric master by its ID (R12, R610). -/
inductive Requester where
  | port (p : Fin 2)
  | master (id : Fin 32)
  deriving DecidableEq, Repr

/-- The request comes over the control fabric. -/
def Requester.isMaster : Requester → Bool
  | .master _ => true
  | .port _ => false

/-- One DW of a register write, or the byte enables of a read (R610). -/
structure Access where
  req : Requester
  be : BitVec 4
  data : Word
  deriving DecidableEq, Repr

/-- What hardware reports of an issued effect (R68): a completion code of R61, a value, and bytes read from host
memory. -/
structure EffResult where
  status : Half
  value : DWord
  data : List Byte
  deriving DecidableEq, Repr

/-- The device read that a completion answers (R568): the fetch of the entry at SLC_SQ_HEAD, the read of a SURF_UPLOAD, or
the data of an audio stream whose first mixer input this is. -/
inductive HostRead where
  | fetch
  | upload (seq : Word)
  | stream (first : Nat)
  deriving DecidableEq, Repr

/-- What a DRAM request addresses: a region of R467, or a page of a slice's surface. -/
inductive DramTarget where
  | training | objects | journal | flags
  | surface (slice : Fin 16) (handle : Nat)
  /-- Guest area that no surface or shadow holds, or beyond the usable space. -/
  | unassigned
  deriving DecidableEq, Repr

/-- A DRAM request as it reaches the controller (R468, R475). `port`: 0 CMP, 1 KNB, 2 HRT, 3 SCR, 4 + k SLCk, 20 PAIR. -/
structure DramReq where
  port : Fin 21
  master : Fin 32
  chan : Fin 4
  bank : Fin 32
  row : Nat
  write : Bool
  target : DramTarget
  /-- DFI cycle of its arrival. -/
  at_ : Nat
  deriving DecidableEq, Repr

/-- What a scrub or a read finds in a SECDED word (R465, R495). -/
inductive EccResult where
  | clean | dataBit | checkBit | uncorrectable
  deriving DecidableEq, Repr

/-- What port A of Hearth RAM does with the same word in the same cycle (R496). -/
inductive PortA where
  | idle | read | write
  deriving DecidableEq, Repr

/-- How a test window ends, or that it is still borrowed (R499-R502). -/
inductive WindowEnd where
  | pass | fail | preempt | running
  deriving DecidableEq, Repr

/-- The conditions of R566 that hold a port's requests. -/
inductive HoldCause where
  | linkDown | busMasterOff | pasidOff | d3hot
  deriving DecidableEq, Repr

/-- What a frame at a switch port needs or is (R572, R573, R577). -/
inductive FrameKind where
  /-- A bridged frame that no other row describes. -/
  | plain
  /-- gPTP on the link-local address, never forwarded. -/
  | gptp
  /-- Needs a function the switch does not support. -/
  | unsupported
  deriving DecidableEq, Repr

/-- A frame that arrives at an external switch port. -/
structure EthFrame where
  dst : BitVec 48
  src : BitVec 48
  vlan : BitVec 12
  pcp : BitVec 3
  kind : FrameKind
  /-- The internal port's stack has a row for it: ARP, UDP to a served port, ICMP echo, AVTP of an open stream. -/
  served : Bool
  len : Nat
  deriving DecidableEq, Repr

/-- What the audio pins deliver in one sample period: the decimated sample of each PDM microphone before the filters of
R551, and the slots received at each TDM port, MSB first (R550, R552). -/
structure AudioPins where
  mics : List (BitVec 24)
  tdm : List (List Word)
  deriving DecidableEq, Repr

/-- A HELLO frame (R432, R434). -/
structure Hello where
  prefer : Fin 3
  rank : Bool
  tier : Nat
  log2n : Nat
  dramMiB : Nat
  ecc : Bool
  stepping : Nat
  /-- The sender holds at least one enabled output. -/
  drives : Bool
  deriving DecidableEq, Repr

end Sys2Proof
end

