-- ==== Sys2Proof/Machine/StAudio.lean ====
section
/-! DEFINITION. What the audio block holds beside its registers (R541-R560): gains with their ramps, filters, envelopes and
delays, microphones, guest streams and chime players. Samples are whole numbers of 32 signed bits. -/
namespace Sys2Proof.Machine

/-- A ramp (R545): `k` counts the samples played, up to n + 1. -/
structure GainRamp where
  q0 : Int
  q1 : Int
  n : Nat
  k : Nat
  /-- It ends at off. -/
  toOff : Bool
  /-- A ramp from off that follows: its target and length. -/
  next : Option (Int × Nat)
  /-- The billet that ends with it. -/
  src : Option (Nat × Word)
  deriving DecidableEq, Repr

/-- A gain: its value in Q8.8 dB, none for off, and the ramp that runs. -/
structure Gain where
  q : Option Int
  ramp : Option GainRamp
  deriving DecidableEq, Repr

/-- 0.0 dB. -/
def Gain.unity : Gain := ⟨some 0, none⟩
/-- Off. -/
def Gain.off : Gain := ⟨none, none⟩

/-- A biquad section (R547). -/
structure Biquad where
  b0 : Int
  b1 : Int
  b2 : Int
  a1 : Int
  a2 : Int
  x1 : Int
  x2 : Int
  y1 : Int
  y2 : Int
  deriving DecidableEq, Repr

/-- The section that passes its input. -/
def Biquad.pass : Biquad := ⟨1073741824, 0, 0, 0, 0, 0, 0, 0, 0⟩

/-- A mixer output (R544-R549, R553, R558). -/
structure AudOut where
  owner : Nat
  gain : Gain
  duck : Gain
  eq : List Biquad
  limit : Int
  attackUs : Nat
  releaseMs : Nat
  delay : Nat
  env : Nat
  /-- Limiter outputs, newest first, at most 4800. -/
  line : List Int
  /-- The TDM mapping in effect, its ramp, and the mapping that is to follow. -/
  map : Word
  mapGain : Gain
  mapNext : Option Word
  deriving DecidableEq, Repr

/-- An output after power-on reset. -/
def AudOut.reset : AudOut where
  owner := 0
  gain := Gain.unity
  duck := Gain.unity
  eq := List.replicate 8 Biquad.pass
  limit := 0
  attackUs := 1000
  releaseMs := 100
  delay := 0
  env := 0
  line := []
  map := 0
  mapGain := Gain.unity
  mapNext := none

/-- The filters of a microphone (R551). -/
structure Mic where
  x1 : Int
  y1 : Int
  wind : Biquad
  deriving DecidableEq, Repr

/-- A microphone after reset: the wind filter's coefficients are those of R551. -/
def Mic.reset : Mic := ⟨0, 0, ⟨1058936991, -2117873982, 1058936991, -2117669842, 1044336297, 0, 0, 0, 0⟩⟩

/-- An open guest stream (R131, R554). -/
structure GuestStream where
  slice : Nat
  first : Nat
  channels : Nat
  format : Nat
  bytes : Nat
  addr : Nat
  posAddr : Nat
  /-- Consumed byte offset. -/
  off : Nat
  /-- Frames since the last position write. -/
  count : Nat
  /-- The billet that opened it, until the stream runs. -/
  src : Option (Nat × Word)
  deriving DecidableEq, Repr

/-- A chime on a player (R556-R558). -/
structure Chime where
  num : Nat
  safety : Bool
  /-- The FAULT_CHIME of R646, played on the bypass alone. -/
  fault : Bool
  outs : Nat
  gain : Int
  /-- Repeats asked for; 0 until stopped. -/
  times : Nat
  /-- Repeats started; 0 before the start. -/
  started : Nat
  /-- Sample within the present repeat. -/
  pos : Nat
  stop : Bool
  src : Option (Nat × Word)
  /-- Order of issue. -/
  no : Nat
  deriving DecidableEq, Repr

/-- A player: the chime it plays or is to start, and a safety chime that takes it at the next block. -/
structure Player where
  cur : Option Chime
  next : Option Chime
  deriving DecidableEq, Repr

/-- The audio block. -/
structure Audio where
  /-- Owner and gain of each mixer input. -/
  inOwner : List Nat
  inGain : List Gain
  outs : List AudOut
  /-- Cross-points that are not off, by 16 × input + output, rising. -/
  xp : List (Nat × Gain)
  mics : List Mic
  streams : List GuestStream
  players : List Player
  chimeNo : Nat
  /-- CAUSE bits, and the hardware cause, that FAULT_CHIME has seen. -/
  faultSeen : Nat
  hwSeen : Bool
  /-- Last frame of each TDM port; frames a slave port is to drop; output frames of a 44.1 kHz port in 160ths. -/
  lastTdm : List (List Word)
  tdmDrop : List Nat
  tdmPhase : List Nat
  /-- Input sample blocks forwarded by the ACTIVE device and not yet mixed (R439). -/
  fwd : List AudioPins
  deriving DecidableEq, Repr

/-- The audio block after power-on reset. -/
def Audio.reset : Audio where
  inOwner := List.replicate 32 0
  inGain := List.replicate 32 Gain.unity
  outs := List.replicate 16 AudOut.reset
  xp := []
  mics := List.replicate 8 Mic.reset
  streams := []
  players := List.replicate 4 ⟨none, none⟩
  chimeNo := 0
  faultSeen := 0
  hwSeen := false
  lastTdm := List.replicate 4 []
  tdmDrop := List.replicate 4 0
  tdmPhase := List.replicate 4 0
  fwd := []

end Sys2Proof.Machine
end

