-- ==== Sys2Proof/Machine/Bits.lean ====
section
/-! DEFINITION. Bit fields, sign, byte order (little-endian, R7), saturation and small list helpers.
Everything here is plain arithmetic; every meaning of the machine reads and forms fields through it. -/
namespace Sys2Proof.Machine

/-- The `w` bits of `x` from bit `lo` upwards. -/
def bits (x lo w : Nat) : Nat := (x >>> lo) % 2 ^ w

/-- Bit `i` of `x`. -/
def bit (x i : Nat) : Bool := x.testBit i

/-- `x` with the `w` bits from `lo` replaced by the low `w` bits of `v`. -/
def putBits (x lo w v : Nat) : Nat :=
  x % 2 ^ lo + (v % 2 ^ w) * 2 ^ lo + (x >>> (lo + w)) * 2 ^ (lo + w)

/-- 1 for true. -/
def b2n (b : Bool) : Nat := if b then 1 else 0

/-- `x` read as a two's-complement number of `w` bits. -/
def sgn (w x : Nat) : Int :=
  let y := x % 2 ^ w
  if 2 * y < 2 ^ w then (y : Int) else (y : Int) - (2 ^ w : Nat)

/-- The `w`-bit two's-complement code of `i`. -/
def unsgn (w : Nat) (i : Int) : Nat := (i % (2 ^ w : Nat)).toNat

/-- Saturation at the largest `w`-bit count. -/
def sat (w x : Nat) : Nat := min x (2 ^ w - 1)

/-- `n` divided by `d`, rounded up. -/
def ceilDiv (n d : Nat) : Nat := (n + d - 1) / d

/-- `n` rounded up to a multiple of `d`. -/
def roundUp (n d : Nat) : Nat := ceilDiv n d * d

/-- The bytes of `v`, `n` of them, lowest first (R7). -/
def leBytes : Nat → Nat → List Byte
  | 0, _ => []
  | n + 1, v => BitVec.ofNat 8 v :: leBytes n (v / 256)

/-- The number the bytes hold, lowest first (R7). -/
def leNat : List Byte → Nat
  | [] => 0
  | b :: bs => b.toNat + 256 * leNat bs

/-- `w` bytes of `l` from offset `o`, as a number; bytes past the end count as 0. -/
def rd (l : List Byte) (o w : Nat) : Nat := leNat ((l.drop o).take w)
/-- u8 at `o`. -/
def u8 (l : List Byte) (o : Nat) : Nat := rd l o 1
/-- u16 at `o`. -/
def u16 (l : List Byte) (o : Nat) : Nat := rd l o 2
/-- u32 at `o`. -/
def u32 (l : List Byte) (o : Nat) : Nat := rd l o 4
/-- u64 at `o`. -/
def u64 (l : List Byte) (o : Nat) : Nat := rd l o 8
/-- i16 at `o`. -/
def i16 (l : List Byte) (o : Nat) : Int := sgn 16 (u16 l o)

/-- Folds `f` over 0, 1, …, n − 1 in this order. -/
def foldN {α : Type} (n : Nat) (f : α → Nat → α) (a : α) : α := (List.range n).foldl f a

/-- Applies `f` to element `i` of `l`; nothing where there is none. -/
def modAt {α : Type} (l : List α) (i : Nat) (f : α → α) : List α :=
  match l, i with
  | [], _ => []
  | x :: xs, 0 => f x :: xs
  | x :: xs, n + 1 => x :: modAt xs n f

/-- Element `i` of `l` replaced. -/
def putAt {α : Type} (l : List α) (i : Nat) (x : α) : List α := modAt l i (fun _ => x)

/-- The numbers below `n` whose bit is set in `m`, ascending. -/
def maskList (n m : Nat) : List Nat := (List.range n).filter (fun i => m.testBit i)

/-- The mask with the bits of `l` set. -/
def maskOf (l : List Nat) : Nat := l.foldl (fun a i => a ||| 2 ^ i) 0

/-- The number of set bits among the low `n` of `m`. -/
def popCount (n m : Nat) : Nat := (maskList n m).length

/-- The first index `i < n` at which `p` holds. -/
def firstIdx (n : Nat) (p : Nat → Bool) : Option Nat := (List.range n).find? p

/-- Whether `n` is one of 1, 2, 4, 8, … -/
def isPow2 (n : Nat) : Bool := n != 0 && n &&& (n - 1) == 0

/-- Clamps to `lo`..`hi`. -/
def clampN (lo hi x : Nat) : Nat := max lo (min hi x)
/-- Clamps to `lo`..`hi`. -/
def clampI (lo hi x : Int) : Int := max lo (min hi x)

/-- (a − b) mod 2^32 read as a signed number (R57, R83). -/
def sdiff (a b : Word) : Int := (a - b).toInt

/-- Sum of `f` over a list. -/
def sumBy {α : Type} (f : α → Nat) (l : List α) : Nat := l.foldl (fun a x => a + f x) 0

/-- Maximum of `f` over a list, 0 for none. -/
def maxBy {α : Type} (f : α → Nat) (l : List α) : Nat := l.foldl (fun a x => max a (f x)) 0

/-- Inserts before the first element that ranks above it. -/
def insertBy {α : Type} (rank : α → Nat) (x : α) : List α → List α
  | [] => [x]
  | y :: ys => if rank x < rank y then x :: y :: ys else y :: insertBy rank x ys

/-- Sorts by rank, ascending; equal ranks keep their order. -/
def sortBy {α : Type} (rank : α → Nat) (l : List α) : List α := l.foldl (fun a x => insertBy rank x a) []

end Sys2Proof.Machine
end

