-- ==== Sys2Proof/Machine/StSlice.lean ====
section
/-! DEFINITION. What the machine holds for each slice: binding, rings, result slots, journal, surfaces, staged
sets, quench status and the device-write log (R42-R78, R97-R111, R153-R186). -/
namespace Sys2Proof.Machine

/-- Memory as address and byte pairs, addresses strictly rising, no entry equal to what an unlisted address
reads as. -/
abbrev Mem := List (Nat × Byte)

/-- Binding of a slice (R164). -/
inductive Binding where
  | unbound
  | pcie (port : Nat) (pasid : BitVec 20)
  | eth (id : NetId)
  deriving DecidableEq, Repr

/-- State of a result slot (R63). -/
inductive SlotState where
  | free | pending | done
  deriving DecidableEq, Repr

/-- A result slot (R63-R65). -/
structure Slot where
  st : SlotState
  readCount : Nat
  status : Half
  seq : Word
  value : DWord
  deriving DecidableEq, Repr

/-- A slot nobody holds. -/
def Slot.empty : Slot := ⟨.free, 0, 0, 0, 0⟩

/-- A reply record (R59). -/
structure Reply where
  seq : Word
  tag : Word
  opcode : BitVec 12
  slot : Bool
  dup : Bool
  status : Half
  result : Word
  deriving DecidableEq, Repr

/-- The 16 bytes of a reply record (R59). -/
def Reply.bytes (r : Reply) : List Byte :=
  leBytes 4 r.seq.toNat ++ leBytes 4 r.tag.toNat ++
  leBytes 4 (r.opcode.toNat + 0x1000 * b2n r.slot + 0x8000 * b2n r.dup + 0x10000 * r.status.toNat) ++
  leBytes 4 r.result.toNat

/-- State of a journal entry that is not FREE (R68). -/
inductive JState where
  | staged | openWait | openIssued | done
  deriving DecidableEq, Repr

/-- A journal entry (R68): index fields, stored reply, body copy, and the progress of its effect. -/
structure JEntry where
  seq : Word
  check : Word
  st : JState
  slot : Option Nat
  reply : Reply
  body : BilletMsg
  /-- The body copy still agrees with CHECK (R71). -/
  bodyOk : Bool
  /-- Place in the order in which Knaby accepted the billets of all slices (R54, R56). -/
  order : Nat
  /-- An apply point that hardware has reported, with its status and value (R79). -/
  applied : Option (Half × DWord)
  /-- On a STANDBY device: the own effect has ended with this result, the forwarded completion is not in (R441); on an immediate
  entry that has not been performed, its forwarded reply is in (R438). -/
  here : Option (Half × DWord)
  deriving DecidableEq, Repr

/-- A surface (R97-R99). `seed` names the undefined contents of one created without CLEAR. -/
structure Surface where
  handle : Nat
  format : Nat
  width : Nat
  height : Nat
  stride : Nat
  seed : Option Nat
  mem : Mem
  deriving DecidableEq, Repr

/-- One layer's state as LAYER_SET gives it (R107). -/
structure LayerCfg where
  ctrl : Nat
  planeAlpha : Nat
  surface : Nat
  srcX : Nat
  srcY : Nat
  srcW : Nat
  srcH : Nat
  dstX : Int
  dstY : Int
  dstW : Nat
  dstH : Nat
  deriving DecidableEq, Repr

/-- A staged change (R106). -/
inductive StageItem where
  | layer (k : Nat) (cfg : LayerCfg)
  /-- A matrix (0) or table (1) whose new content stands in the inactive bank. -/
  | colour (out what : Nat)
  /-- A coefficient bank of an axis of scaler `k`, staged for output `out`. -/
  | scaler (out k axis : Nat)
  | writeback (out : Nat) (enable : Bool) (surface : Nat)
  | reg (off : Nat) (val : Word)
  deriving DecidableEq, Repr

/-- A default set (group 0) of one output, or a numbered group (R106). -/
structure StageSet where
  group : Nat
  out : Nat
  items : List StageItem
  deriving DecidableEq, Repr

/-- Device-write log of a slice (R95, R180-R185). `dirty` holds the pages set in the shadow, rising. -/
structure DirtyLog where
  pages : Nat
  guestBase : Nat
  bitmap : Nat
  dirty : List Nat
  outside : Nat
  all : Bool
  deriving DecidableEq, Repr

/-- What Knaby has in hand for a slice between fetch and reply (R53, R68). -/
inductive InHand where
  | none
  /-- Held at step 5 until every earlier accepted billet is DONE. -/
  | fence (m : BilletMsg) (len : Nat)
  /-- Held at step 16: the window entry is not free, or an immediate billet waits (R70, R81). -/
  | window (m : BilletMsg) (len : Nat)
  /-- Held at step 16: a HARDY_ACK waits for a verdict after the one of this frame (R271). -/
  | verdict (m : BilletMsg) (len : Nat) (last : Option Word)
  /-- STAGED, waiting for the partner's acknowledgement. -/
  | staged (seq : Word)
  deriving DecidableEq, Repr

/-- Quench status of a slice (R153). -/
structure QStat where
  busy : Bool
  done : Bool
  outcome : Nat
  dropped : Bool
  token : Half
  deriving DecidableEq, Repr

/-- Everything a slice owns. -/
structure Slice where
  binding : Binding
  perm : Nat
  quota : Nat
  db : Word
  sqHead : Word
  rqTail : Word
  rqHead : Word
  nextSeq : Word
  sqBase : DWord
  rqBase : DWord
  ringEn : Bool
  dbErr : Bool
  relPend : Bool
  slots : List Slot
  journal : List JEntry
  inHand : InHand
  surfaces : List Surface
  sets : List StageSet
  quanta : Word
  qarg : Word
  qstat : QStat
  /-- The SLC_QDB value and ARG of a BUSY quench that waits for Knaby (R638). -/
  qword : Option (Word × Word)
  dirty : Option DirtyLog
  /-- Reply records of an Ethernet-bound slice formed and not yet sent (R51). -/
  udpOut : List Reply
  /-- A billet fetch failed and waits for its retry (R568). -/
  fetchRetry : Bool
  deriving DecidableEq, Repr

/-- A slice as power-on reset leaves it (R49, R92). -/
def Slice.reset : Slice where
  binding := .unbound
  perm := 0
  quota := 0
  db := 0
  sqHead := 0
  rqTail := 0
  rqHead := 0
  nextSeq := 0
  sqBase := 0
  rqBase := 0
  ringEn := false
  dbErr := false
  relPend := false
  slots := List.replicate 64 Slot.empty
  journal := []
  inHand := .none
  surfaces := []
  sets := []
  quanta := 0
  qarg := 0
  qstat := ⟨false, false, 0, false, 0⟩
  qword := none
  dirty := none
  udpOut := []
  fetchRetry := false

end Sys2Proof.Machine
end

