-- ==== Sys2Proof/Machine/StDisplay.lean ====
section
/-! DEFINITION. What the machine holds of the display path: layers and commits (R105-R111, R187-R228), scalers and colour
pipelines (R229-R249), the Anvil and its granules (R286-R318), outputs with their generators and links (R297-R344), the
Hardy layer and the limp-home display (R250-R285). -/
namespace Sys2Proof.Machine

/-- A layer as nothing has ever set it. -/
def LayerCfg.zero : LayerCfg := ⟨0, 0, 0, 0, 0, 0, 0, 0, 0, 0, 0⟩

/-- A layer of the pool: its assignment (R105) and its committed state (R226). -/
structure Layer where
  slice : Option Nat
  output : Nat
  z : Nat
  scaler : Option Nat
  com : LayerCfg
  deriving DecidableEq, Repr

/-- An unassigned layer. -/
def Layer.reset : Layer := ⟨none, 0, 0, none, LayerCfg.zero⟩

/-- The banks of a scaler (R229, R237): phases that differ from the cubic set, with their taps. -/
structure ScalerSt where
  hAct : List (Nat × List Int)
  hIn : List (Nat × List Int)
  vAct : List (Nat × List Int)
  vIn : List (Nat × List Int)
  busy : Bool
  deriving DecidableEq, Repr

/-- A scaler after reset (R236). -/
def ScalerSt.reset : ScalerSt := ⟨[], [], [], [], false⟩

/-- The banks of a colour pipeline (R246): twelve matrix words and the table entries that differ from (i, i, i). -/
structure ColourSt where
  mAct : List Nat
  mIn : List Nat
  lAct : List (Nat × Nat)
  lIn : List (Nat × Nat)
  busy : Bool
  deriving DecidableEq, Repr

/-- The matrix that returns its input (R243). -/
def unitMatrix : List Nat := [4096, 0, 0, 0, 4096, 0, 0, 0, 4096, 0, 0, 0]

/-- A pipeline after reset (R247). -/
def ColourSt.reset : ColourSt := ⟨unitMatrix, unitMatrix, [], [], false⟩

/-- A commit that has arrived at the compositor (R207-R213). `bound` pairs each member with its cut-off, empty while
unbound. -/
structure PCommit where
  slice : Nat
  seq : Word
  items : List StageItem
  members : List Nat
  bound : List (Nat × Word)
  bindNo : Nat
  held : Nat
  late : Bool
  /-- Members whose blanking was running at arrival (R218): output and cut-off that began it. -/
  inBlank : List (Nat × Word)
  applied : List Nat
  deriving DecidableEq, Repr

/-- The composition pass of an output (R216, R219). `abandoned` holds the cause bit of CMP_OUTn_STAT. -/
inductive PassSt where
  | idle | running | complete
  | abandoned (cause : Nat)
  deriving DecidableEq, Repr

/-- Where an output's generator and panel stand in R303-R305. -/
inductive GenSt where
  | off
  /-- Enable: PANEL_EN driven, T_PANEL_ON runs. -/
  | panelOn
  /-- Enable: the pixel PLL locks. -/
  | pll
  /-- Enable: link start. -/
  | link
  | run
  /-- REPROGRAM issued; the generator runs to the next cut-off. -/
  | reprogCut
  | reprogPll
  | reprogLink
  /-- Disable: T_BL_OFF runs. -/
  | stopBl
  /-- Disable: the generator runs to the next cut-off. -/
  | stopCut
  /-- Disable: T_PANEL_OFF runs. -/
  | stopPanel
  deriving DecidableEq, Repr

/-- A backlight ramp (R118, R312). -/
structure Ramp where
  start : Nat
  target : Nat
  ms : Nat
  deriving DecidableEq, Repr

/-- What a link has learnt of its sink and of what it last sent (R326, R331, R332, R335). -/
structure LinkSt where
  psr : Bool
  psr2 : Bool
  gran : Nat
  /-- The present sink has trained fully since its last plug. -/
  trained : Bool
  lanes : Nat
  rate : Nat
  lastCrc : Option Word
  equal : Nat
  since : Nat
  /-- Frames without a tearing-effect report. -/
  noTe : Nat
  /-- DEFER replies of the AUX transaction in progress. -/
  defers : Nat
  /-- Frames a queued DSI packet has waited. -/
  dsiWait : Nat
  deriving DecidableEq, Repr

/-- A link before it has met a sink. -/
def LinkSt.reset : LinkSt := ⟨false, false, 1, false, 0, 0, none, 0, 0, 0, 0, 0⟩

/-- One output. -/
structure OutSt where
  gen : GenSt
  /-- Enabled in object state, from the issue of an enable to the issue of a disable (R54, R114). -/
  enabled : Bool
  /-- An OUT_CONFIG has set the link since reset (R114). -/
  linkCfg : Bool
  /-- Running set of an enabled output, selected set of a disabled one (R113). -/
  set : Option Nat
  /-- Set named by a SWITCH or REPROGRAM that has not reached its apply point. -/
  next : Option Nat
  /-- The set select of a SWITCH has been sent to PIXn (R302). -/
  select : Bool
  /-- SEQ of slice 0's billet whose sequence runs on the output. -/
  seq : Option Word
  /-- Time at which the present sequence's blank began, in us. -/
  blankAt : Nat
  pass : PassSt
  /-- A fetch error of the pass in progress, shown at the next cut-off (R221, R228). -/
  dataErr : Bool
  /-- Time of the last cut-off, in us. -/
  cutAt : Nat
  colour : ColourSt
  /-- Write-back target in committed state (R222), and of the pass in progress (R224). -/
  wb : Option Nat
  wbPass : Option Nat
  /-- Granule map (R293): buffer 0, then buffer 1. -/
  gmap : List Nat
  /-- An ANV_ALLOC waits for its zero-fill. -/
  zeroSeq : Option Word
  ramp : Option Ramp
  link : LinkSt
  /-- Consecutive cut-offs within 500 ns, and beyond 2 us, of the genlock reference (R309). -/
  glGood : Nat
  glBad : Nat
  /-- Genlock source of the last cut-off (R309). -/
  glSrc : Nat
  /-- The backlight runs by the sequences of R304 and R305, whether or not this device drives the pin (R306). -/
  bl : Bool
  /-- A cut-off of a STANDBY device waits for the CUTOFF frame (R440). -/
  fabDue : Bool
  deriving DecidableEq, Repr

/-- An output after reset. -/
def OutSt.reset : OutSt where
  gen := .off
  enabled := false
  linkCfg := false
  set := none
  next := none
  select := false
  seq := none
  blankAt := 0
  pass := .idle
  dataErr := false
  cutAt := 0
  colour := ColourSt.reset
  wb := none
  wbPass := none
  gmap := []
  zeroSeq := none
  ramp := none
  link := LinkSt.reset
  glGood := 0
  glBad := 0
  glSrc := 0
  bl := false
  fabDue := false

/-- A check region as HARDY_REGION defines it (R119). -/
structure HRegion where
  ctrl : Nat
  threshold : Nat
  x : Nat
  y : Nat
  w : Nat
  h : Nat
  deriving DecidableEq, Repr

/-- A region nobody has defined. -/
def HRegion.reset : HRegion := ⟨0, 0, 0, 0, 0, 0⟩

/-- What Hearth keeps of a live region (R269, R284). -/
structure HVerdict where
  count : Nat
  latched : Bool
  isMatch : Bool
  missing : Bool
  expErr : Bool
  meas : Word
  /-- Latest verdicts, newest first: frame and whether it was a mismatch or missing (R271). -/
  recent : List (Word × Bool)
  deriving DecidableEq, Repr

/-- A region without verdicts. -/
def HVerdict.reset : HVerdict := ⟨0, false, false, false, false, 0, []⟩

/-- Where a HARDY_COMMIT stands (R263). -/
inductive HCommitSt where
  /-- Steps 2 and 3: Hearth forms the expected values. -/
  | forming
  /-- Step 4: waits for the next cut-off. -/
  | ready
  /-- Step 6: copy-back. -/
  | copying
  deriving DecidableEq, Repr

/-- The Hardy state of one output. -/
structure Hardy where
  /-- Granules of buffer 0 and buffer 1 (R291). -/
  granules : List Nat
  /-- Buffer 1 is live. -/
  live1 : Bool
  pend : List HRegion
  regs : List HRegion
  st : List HVerdict
  commit : Option (Nat × Word × HCommitSt)
  susp : Bool
  /-- Results of frames not yet judged: frame, region, CRC. -/
  results : List (Word × Nat × Word)
  last : Option Word
  liveAt : Option Word
  /-- The last frame of the set before the live one, its regions and expected values, until it is judged (R272). -/
  old : Option (Word × List HRegion × List (Nat × Word))
  /-- The last cross-judged frame (R273). -/
  crossed : Option Word
  /-- The granules to which the region moves at the next cut-off (R316). -/
  move : Option (List Nat)
  /-- Frames and regions whose verdict an uncorrectable plane word makes a mismatch (R313). -/
  spoilt : List (Word × Nat)
  deriving DecidableEq, Repr

/-- A Hardy region after reset. -/
def Hardy.reset : Hardy where
  granules := []
  live1 := false
  pend := List.replicate 16 HRegion.reset
  regs := List.replicate 16 HRegion.reset
  st := List.replicate 16 HVerdict.reset
  commit := none
  susp := false
  results := []
  last := none
  liveAt := none
  old := none
  crossed := none
  move := none
  spoilt := []

/-- A timing set (R113, R300). -/
structure Timing where
  pclk : Nat
  hact : Nat
  hfp : Nat
  hsync : Nat
  hbp : Nat
  vact : Nat
  vfp : Nat
  vsync : Nat
  vbp : Nat
  pol : Nat
  deriving DecidableEq, Repr

/-- The limp-home display (R276-R281). -/
structure Limp where
  /-- Timing of the limp output record while OUT0 runs from it (R278). -/
  tim : Option Timing
  image : Mem
  palette : List Nat
  forced : Bool
  shown : Bool
  /-- Time of the trigger that waits for a cut-off, in us. -/
  trigger : Option Nat
  /-- Consecutive mismatches of the limp check, and its latch. -/
  count : Nat
  latched : Bool
  /-- Billet of slice `fst` that waits for the display to start or end. -/
  seqs : List (Nat × Word)
  /-- Bytes loaded while the display is shown wait for the next cut-off (R123): what, offset, data. -/
  loads : List (Nat × Nat × List Byte)
  /-- First frame of the last limp-home display, and the first frame after it. -/
  first : Option Word
  past : Option Word
  /-- The last frame the limp check judged. -/
  judged : Option Word
  deriving DecidableEq, Repr

/-- The limp-home display after reset (R279). -/
def Limp.reset : Limp := ⟨none, [], List.replicate 16 0, false, false, none, 0, false, [], [], none, none, none⟩

/-- The display path. -/
structure Display where
  layers : List Layer
  commits : List PCommit
  bindNo : Nat
  outs : List OutSt
  scalers : List ScalerSt
  anvil : Mem
  /-- Owner codes of the granules (R321). -/
  owner : List Nat
  /-- Uncorrectable words in this scrub pass, per die channel 8d + c. -/
  chanUe : List Nat
  /-- The granule that the scrubber reads next. -/
  scrubAt : Nat
  hardy : List Hardy
  limp : Limp
  deriving DecidableEq, Repr

/-- The display path after power-on reset. -/
def Display.reset : Display where
  layers := List.replicate 64 Layer.reset
  commits := []
  bindNo := 0
  outs := List.replicate 8 OutSt.reset
  scalers := List.replicate 8 ScalerSt.reset
  anvil := []
  owner := List.replicate 192 0xFF
  chanUe := List.replicate 24 0
  scrubAt := 0
  hardy := List.replicate 8 Hardy.reset
  limp := Limp.reset

end Sys2Proof.Machine
end

