-- ==== Sys2Proof/Machine/StHost.lean ====
section
/-! DEFINITION. What the machine holds at its host and network attachments: PCIe ports with their MSI-X tables and held
requests (R562-R570), the switch (R571-R580), mailboxes (R586-R595), hardware locks (R581-R585) and check units
(R596-R608); and the events it sends to the outside. -/
namespace Sys2Proof.Machine

/-- One MSI-X entry (R171, R569, R570). -/
structure MsixEntry where
  addrLo : Word
  addrHi : Word
  data : Word
  masked : Bool
  pend : Bool
  deriving DecidableEq, Repr

/-- An entry as reset and FLR leave it. -/
def MsixEntry.reset : MsixEntry := ⟨0, 0, 0, true, false⟩

/-- A request a port would issue and holds under R566, oldest first. -/
inductive HostReq where
  /-- A memory write for a slice, with its PASID. -/
  | mem (pasid : BitVec 20) (addr : Nat) (data : List Byte)
  /-- A write of a dirty-log bitmap, which is not logged itself (R181). -/
  | flush (pasid : BitVec 20) (addr : Nat) (data : List Byte)
  /-- The message of an MSI-X entry. -/
  | msi (entry : Nat)
  deriving DecidableEq, Repr

/-- One PCIe port (R562-R570). -/
structure PciPort where
  linkUp : Bool
  width : Nat
  speed : Nat
  bme : Bool
  pasidEn : Bool
  d3 : Bool
  fetchErr : Nat
  cplErr : Nat
  held : List HostReq
  msix : List MsixEntry
  deriving DecidableEq, Repr

/-- A port as reset leaves it. -/
def PciPort.reset : PciPort where
  linkUp := false
  width := 0
  speed := 0
  bme := false
  pasidEn := false
  d3 := false
  fetchErr := 0
  cplErr := 0
  held := []
  msix := List.replicate 64 MsixEntry.reset

/-- A datagram classified and waiting for Knaby (R574). -/
structure Datagram where
  src : NetId
  payload : List Byte
  deriving DecidableEq, Repr

/-- One forwarding table entry of the switch (R572). -/
structure FwdEntry where
  mac : BitVec 48
  vlan : BitVec 12
  /-- Port 0-3, or 4 for the internal port. -/
  port : Nat
  deriving DecidableEq, Repr

/-- One entry of a gate control list (R144). -/
structure GateEntry where
  gates : Nat
  ns : Nat
  deriving DecidableEq, Repr

/-- A gate control list of one external port (R144). -/
structure GateList where
  base : Nat
  cycle : Nat
  entries : List GateEntry
  deriving DecidableEq, Repr

/-- The gates of one external port: the list in force and the one loaded to take over. -/
structure GateState where
  live : Option GateList
  loaded : Option GateList
  deriving DecidableEq, Repr

/-- An open AVTP stream (R141-R143, R577, R578). -/
structure AvtpStream where
  streamId : Nat
  slice : Nat
  listener : Bool
  port : Nat
  /-- First mixer input or output, and the number of channels. -/
  first : Nat
  channels : Nat
  /-- 0 INT16, 1 INT24, 2 INT32. -/
  format : Nat
  presUs : Nat
  destMac : Nat
  vlan : Nat
  /-- Reservation in 100 kbit/s; 0 for a listener. -/
  rsv : Nat
  /-- Traffic class of a talker. -/
  tc : Nat
  /-- Frames of a listener to be played, or of a talker to be sent, oldest first: time in ns and samples. -/
  frames : List (Nat × List Int)
  deriving DecidableEq, Repr

/-- The network side that no register shows whole. -/
structure Net where
  billetQ : List Datagram
  quenchQ : List Datagram
  fwd : List FwdEntry
  gates : List GateState
  avtp : List AvtpStream
  /-- gPTP time in ns. -/
  time : Nat
  /-- Consecutive Sync intervals within 100 ns, up to 16 (R576). -/
  goodSyncs : Nat
  deriving DecidableEq, Repr

/-- The network as reset leaves it. -/
def Net.reset : Net where
  billetQ := []
  quenchQ := []
  fwd := []
  gates := List.replicate 4 ⟨none, none⟩
  avtp := []
  time := 0
  goodSyncs := 0

end Sys2Proof.Machine
end

