-- ==== Sys2Proof/Machine/StTouch.lean ====
section
/-! DEFINITION. What the machine holds of the human interface: touch groups with their electrodes, controls and reports
(R505-R524), and haptic channels (R525-R540). -/
namespace Sys2Proof.Machine

/-- One electrode (R506-R515). -/
structure TouchEl where
  /-- ROLE byte of R135. -/
  role : Nat
  raw : Nat
  base : Nat
  delta : Int
  /-- Raw counts of the acquisition in progress. -/
  acq : Option (List Nat)
  /-- The acquisition is the one at enable (R513). -/
  atEnable : Bool
  suspect : Bool
  isOpen : Bool
  short : Bool
  negRun : Nat
  openRun : Nat
  shortRun : Nat
  deriving DecidableEq, Repr

/-- An electrode never configured. -/
def TouchEl.reset : TouchEl := ⟨0, 0, 0, 0, none, false, false, false, false, 0, 0, 0⟩

/-- A control, held at its lowest electrode (R507). -/
structure TouchCtl where
  pressed : Bool
  pressRun : Nat
  relRun : Nat
  /-- Position last reported (R507, R509). -/
  pos : Option Nat
  deriving DecidableEq, Repr

/-- A control at rest. -/
def TouchCtl.reset : TouchCtl := ⟨false, 0, 0, none⟩

/-- A binding of HAP_BIND (R140). -/
structure HapBind where
  el : Nat
  effect : Nat
  edge : Nat
  deriving DecidableEq, Repr

/-- A touch group (R135-R137, R505-R522). -/
structure TouchGroup where
  configured : Bool
  slice : Nat
  haptic : Option Nat
  th : Nat
  rel : Nat
  neg : Nat
  stuckS : Nat
  debounce : Nat
  enabled : Bool
  /-- TCH_ENABLE in progress. -/
  enabling : Option (Nat × Word)
  els : List TouchEl
  ctls : List TouchCtl
  scans : Nat
  follow : Nat
  seq : Word
  /-- TCH_REPORTS in force: slice, ENTRIES, ADDR. -/
  reports : Option (Nat × Nat × Nat)
  /-- Reports formed and not delivered, oldest first: SEQ and bytes. -/
  fifo : List (Word × List Byte)
  /-- A report has been dropped since the last delivery (R520). -/
  lost : Bool
  binds : List HapBind
  deriving DecidableEq, Repr

/-- A group after reset. -/
def TouchGroup.reset : TouchGroup where
  configured := false
  slice := 0
  haptic := none
  th := 0
  rel := 0
  neg := 0
  stuckS := 30
  debounce := 1
  enabled := false
  enabling := none
  els := List.replicate 12 TouchEl.reset
  ctls := List.replicate 12 TouchCtl.reset
  scans := 0
  follow := 0
  seq := 0
  reports := none
  fifo := []
  lost := false
  binds := []

/-- A trigger of a haptic channel: effect, AMPLITUDE, and the HAP_PLAY that it comes from (R533). -/
structure HapTrig where
  effect : Nat
  amp : Nat
  src : Option (Nat × Word)
  deriving DecidableEq, Repr

/-- STATE of HAP_STAT (R533). -/
inductive HapSt where
  | off | idle | boot | play | brake | fault
  deriving DecidableEq, Repr

/-- A segment of an effect (R531): whole cycles, a timed drive, a swell, a gap; times in ms. -/
inductive HapSeg where
  | cycles (n : Nat)
  | timed (ms : Nat)
  | swell (ms : Nat)
  | gap (ms : Nat)
  deriving DecidableEq, Repr

/-- A haptic channel (R525-R537). -/
structure Hap where
  st : HapSt
  cur : Option HapTrig
  next : Option HapTrig
  /-- A disable waits for the effect's braking (R535). -/
  stopping : Bool
  /-- Segments still to come, the present one first. -/
  segs : List HapSeg
  /-- Half cycles done of the present drive segment. -/
  half : Nat
  /-- Level of the present or last drive segment (R531). -/
  level : Nat
  /-- A gap brakes (R534). -/
  gapBrake : Bool
  /-- Windows of the present PLAY, and runs of windows for R530, R533 and R537. -/
  wins : Nat
  clampRun : Nat
  brakeRun : Nat
  openRun : Nat
  /-- Residual amplitude of the last window (R529). -/
  resid : Nat
  deriving DecidableEq, Repr

/-- A channel after reset. -/
def Hap.reset : Hap where
  st := .off
  cur := none
  next := none
  stopping := false
  segs := []
  half := 0
  level := 0
  gapBrake := false
  wins := 0
  clampRun := 0
  brakeRun := 0
  openRun := 0
  resid := 0

end Sys2Proof.Machine
end

