-- ==== Sys2Proof/Machine/StPair.lean ====
section
/-! DEFINITION. What the machine holds of a mirrored pair (R426-R460). Phase, link state, holders and readiness stand in
the ULX registers. -/
namespace Sys2Proof.Machine

/-- Role of a device (R426). -/
inductive Role where
  | solo | active | standby
  deriving DecidableEq, Repr

/-- What a CUTOFF frame names: output, frame, bindings applied (slice and SEQ), a SWITCH and a Hardy swap, and the sender's
takeover-ready outputs (R438, R446). -/
structure CutMsg where
  out : Nat
  frame : Word
  binds : List (Nat × Word)
  sw : Bool
  hardy : Bool
  ready : Nat
  deriving DecidableEq, Repr

/-- A part of the bulk state that a weld copies (R434). -/
inductive StPart where
  /-- Configuration registers, by BAR0 offset. -/
  | config (regs : List (Nat × Word))
  | slice (n : Nat) (x : Slice)
  /-- Layers, pending commits and scalers. -/
  | compose (layers : List Layer) (commits : List PCommit) (scalers : List ScalerSt)
  /-- An output's object state: enabled, running or selected set, link configured, colour pipeline, write-back target,
  allocated WIDTH and HEIGHT. -/
  | output (n : Nat) (enabled linkCfg : Bool) (set : Option Nat) (colour : ColourSt) (wb : Option Nat) (w h : Nat)
  /-- A Hardy set with its two buffers' bytes. -/
  | hardy (n : Nat) (h : Hardy) (buf0 buf1 : Mem)
  | limp (image : Mem) (palette : List Nat)
  | frames (l : List Word)
  /-- Touch groups, the audio block, gate lists and AVTP streams. -/
  | hmi (touch : List TouchGroup) (aud : Audio) (gates : List GateState) (avtp : List AvtpStream)
  deriving DecidableEq, Repr

/-- An input event, or a cross-device message, that one device forwards to the other (R439, R593). -/
inductive PairEvent where
  | billetDatagram (d : UdpIn)
  | quenchDatagram (d : UdpIn)
  | gptp (ns : Nat) (locked : Bool)
  | mailbox (channel : Nat) (words : List Word)
  /-- The partner's half of a channel had no room for a message (R593). -/
  | dropped (channel : Nat)
  /-- A touch report as R519 forms it, for touch group `g`. -/
  | touch (g : Nat) (report : List Byte)
  /-- Baselines of a group's electrodes. -/
  | baseline (g : Nat) (l : List Nat)
  /-- The firing of a HAP_BIND, by its binding number. -/
  | bind (k : Nat)
  /-- A PDM and TDM input sample block. -/
  | samples (pins : AudioPins)
  /-- An AVTP input sample block: stream, presentation time in ns, one list of samples per frame. -/
  | avtp (stream pres : DWord) (frames : List (List Word))
  /-- A wake, alarm or power event: source bit and touch group. -/
  | wake (src group : Nat)
  deriving DecidableEq, Repr

/-- A quench that has passed the judgement of R154: the slice that asks, SCOPE, TARGET and ARG. -/
structure QuenchReq where
  slice : Nat
  scope : Nat
  target : Nat
  arg : Word
  deriving DecidableEq, Repr

/-- What a COMPLETE frame carries (R438): a slot completion, or a quench at its start and, with the outcome, at its end. -/
inductive CompleteMsg where
  | slot (slice : Nat) (seq : Word) (status : Half) (value : DWord)
  | quench (q : QuenchReq) (outcome : Option Nat)
  deriving DecidableEq, Repr

/-- An Ulinex frame that this device sends, by what it carries (R429). -/
inductive UlxMsg where
  | hello (h : Hello)
  | tkoRequest (out : Nat) (frame : Word)
  | tkoGrant (out : Nat) (cut : Word)
  | tkoRefusal (out : Nat)
  | tkoRelease (out : Nat)
  | cutoff (c : CutMsg)
  | jack (slice : Nat) (seq check : Word)
  /-- A region or full-output result with the sender's own verdict. -/
  | hardy (out : Nat) (frame : Word) (region : Nat) (crc : Word) (ok : Bool)
  | journal (slice : Nat) (m : BilletMsg) (slot : Option Nat) (reply : Reply)
  /-- Slice, reply record, SLC_RQ_TAIL, SLC_SQ_HEAD and SLC_DB; the final ring counts of a PAIR_SWITCH carry no record. -/
  | reply (slice : Nat) (record : Option Reply) (tail head db : Word)
  | complete (c : CompleteMsg)
  | event (e : PairEvent)
  | state (p : StPart)
  deriving DecidableEq, Repr

/-- The priority of a frame (R429, R430). -/
def UlxMsg.prio : UlxMsg → Nat
  | .hello _ | .tkoRequest .. | .tkoGrant .. | .tkoRefusal _ | .tkoRelease _ | .cutoff _ | .jack .. => 1
  | .hardy .. | .journal .. | .reply .. | .complete _ => 2
  | .event _ => 3
  | .state _ => 4

/-- The header fields of an arriving Ulinex frame that the link judges: LSEQ, LACK, and whether its CRC is good (R429, R430). -/
structure UlxHdr where
  lseq : Word
  lack : Word
  good : Bool
  deriving DecidableEq, Repr

/-- The pair side. -/
structure Pair where
  role : Role
  /-- PAIR_WELD in progress: SEQ and PREFER. -/
  weld : Option (Word × Nat)
  /-- The HELLO of the partner, while a weld waits for this device's own PAIR_WELD (R432). -/
  hello : Option Hello
  /-- This device becomes the ACTIVE one of the weld in progress. -/
  toActive : Bool
  /-- Consecutive CUTOFF frames in time, per output, up to 8 (R440, R446). -/
  cutOk : List Nat
  /-- Frame number of the last CUTOFF frame, per output. -/
  cutFrame : List Word
  /-- Outputs taken so far by the takeover in progress, for ULX_LAST. -/
  took : List Nat
  /-- Results of the partner: output, frame, region, CRC, its own verdict; newest first, one per region (R273). -/
  results : List (Nat × Word × Nat × Word × Bool)
  /-- Forwarded completions whose own effect has not ended (R441): slice, SEQ, status, value. -/
  completions : List (Nat × Word × Half × DWord)
  /-- Reply records written, newest first: slice, count before, record, time in us (R452). -/
  recent : List (Nat × Word × Reply × Nat)
  /-- Outputs to take: at a given cut-off, or at the first one from a time on (R450, R452-R454). -/
  take : List (Nat × Option Word)
  /-- Outputs to hand over at a cut-off. -/
  give : List (Nat × Word)
  /-- Per-output takeovers requested and not answered: output, verdict frame (R450). -/
  ask : List (Nat × Word)
  /-- Time at which heartbeat loss was detected, until it is judged (R449). -/
  lostAt : Option Nat
  /-- PAIR_SWITCH in progress (R454). -/
  switch : Option Word
  /-- Cause of the takeover in progress, for ULX_LAST. -/
  cause : Nat
  /-- Time at which the link went down, while it is down. -/
  downAt : Option Nat
  /-- CUTOFF frames that the local cut-off has not reached (R440). -/
  cuts : List CutMsg
  /-- LSEQ of the last frame sent, and of the last one received in order (R429). -/
  lseq : Word
  rseq : Word
  /-- Frames not acknowledged, oldest first, at most 64, and frames that wait to be sent (R430). -/
  unacked : List (Word × UlxMsg)
  waiting : List UlxMsg
  /-- Frame counters received from the ACTIVE-to-be (R437). -/
  frames : List Word
  /-- gPTP lock of the ACTIVE device, as forwarded (R439). -/
  ptp : Bool
  deriving DecidableEq, Repr

/-- The pair side after reset. -/
def Pair.reset : Pair where
  role := .solo
  weld := none
  hello := none
  toActive := false
  cutOk := List.replicate 8 0
  cutFrame := List.replicate 8 0
  took := []
  results := []
  completions := []
  recent := []
  take := []
  give := []
  ask := []
  lostAt := none
  switch := none
  cause := 0
  downAt := none
  cuts := []
  lseq := 0
  rseq := 0
  unacked := []
  waiting := []
  frames := []
  ptp := false

end Sys2Proof.Machine
end

