-- ==== Sys2Proof/Machine/StSystem.lean ====
section
/-! DEFINITION. What the machine holds for the system as a whole: the variant (R1-R3, R679-R685), locks and mailboxes
(R581-R597), the Slag log (R627-R642), configuration integrity (R619-R626), resets, start-up and power states
(R643-R678). -/
namespace Sys2Proof.Machine

/-- The fused variant and the fuse rows (R1, R651, R682). -/
structure Fuses where
  tier : Nat
  pair : Bool
  gradeE : Bool
  vendor : Nat
  vfloor : Nat
  trim : Nat
  rows : Nat
  rowsOk : Bool
  uid : DWord
  key0 : List Word
  key1 : List Word
  deriving DecidableEq, Repr

/-- A strand that may hold a lock (R377, R423): core, slice, bundle number of that core and slice, and lane. -/
structure StrandId where
  core : Nat
  slice : Nat
  bundle : Nat
  lane : Nat
  deriving DecidableEq, Repr

/-- Who holds a lock (R582). -/
inductive Holder where
  | none
  | master (id : Nat)
  | strand (id : StrandId)
  deriving DecidableEq, Repr

/-- The master ID of a holder (R12): 3 for a strand. -/
def Holder.id : Holder → Option Nat
  | .none => Option.none
  | .master i => some i
  | .strand _ => some 3

/-- A hardware lock (R581-R585). `waiting` lists masters, longest waiting first; the strands of master 3 that wait are
in `strands`, longest waiting first, and count there as one request (R583). -/
structure Lock where
  holder : Holder
  waiting : List Nat
  strands : List StrandId
  deriving DecidableEq, Repr

/-- A free lock. -/
def Lock.free : Lock := ⟨.none, [], []⟩

/-- The content of a mailbox channel (R586-R590). Its configuration is in MBX_CHk_CFG. -/
structure Channel where
  /-- MODE 0: messages, oldest first, each word 0-3. -/
  msgs : List (List Word)
  /-- MODE 1: the pending word. -/
  bell : Word
  /-- Staged TX0-TX2. -/
  tx : List Word
  dropped : Bool
  aborted : Bool
  rxReset : Bool
  foreign : Nat
  deriving DecidableEq, Repr

/-- An empty channel. -/
def Channel.empty : Channel := ⟨[], 0, [0, 0, 0], false, false, false, 0⟩

/-- One Slag entry (R629). `react` holds bits [29:24], without R_FAULT in bit 0 until the entry is made. -/
structure SlagEntry where
  cls : Nat
  sev : Nat
  injected : Bool
  unit : Nat
  code : Nat
  react : Nat
  time : Nat
  deriving DecidableEq, Repr

/-- The 64-bit record of an entry (R629). -/
def SlagEntry.word (e : SlagEntry) : Nat :=
  e.cls % 32 + (e.sev % 4) * 2 ^ 5 + b2n e.injected * 2 ^ 7 + (e.unit % 256) * 2 ^ 8 + (e.code % 256) * 2 ^ 16 +
  (e.react % 64) * 2 ^ 24 + (e.time % 2 ^ 32) * 2 ^ 32

/-- The Slag log and its registers (R630-R634, R642), newest entry first. -/
structure Slag where
  log : List SlagEntry
  first : Option SlagEntry
  sticky : Nat
  cause : Nat
  hw : Bool
  wrapped : Bool
  merged : Nat
  total : Nat
  idx : Nat
  fmask : Nat
  warm : Nat
  knaby : Nat
  hearth : Nat
  /-- Entries held while Hearth restarts, made when it resumes (R641). -/
  held : List (SlagEntry × Bool)
  deriving DecidableEq, Repr

/-- The log after power-on reset. -/
def Slag.reset : Slag where
  log := []
  first := none
  sticky := 0
  cause := 0
  hw := false
  wrapped := false
  merged := 0
  total := 0
  idx := 0
  fmask := 0x240F65C
  warm := 0
  knaby := 0
  hearth := 0
  held := []

/-- Configuration integrity (R619-R626). The shadow holds each covered register as stored. -/
structure CfgCheck where
  shadow : List (Nat × Word)
  refs : List Word
  gens : List Nat
  /-- Blocks whose shadow a billet's effect has written and whose reference is to be committed. -/
  touched : Nat
  sealed : Bool
  opened : Bool
  mismatch : Bool
  openTo : Bool
  restored : Bool
  refErr : Bool
  block : Nat
  passes : Nat
  run : Word
  mism : Nat
  /-- Blocks whose restore waits for Knaby (R624). -/
  restore : List Nat
  deriving DecidableEq, Repr

/-- Configuration integrity before the first seal. -/
def CfgCheck.reset : CfgCheck where
  shadow := []
  refs := List.replicate 35 0
  gens := List.replicate 35 0
  touched := 0
  sealed := false
  opened := false
  mismatch := false
  openTo := false
  restored := false
  refErr := false
  block := 0
  passes := 0
  run := 0
  mism := 0
  restore := []

/-- A record of the boot configuration (R655). -/
structure BootRec where
  ty : Nat
  data : List Byte
  deriving DecidableEq, Repr

/-- A signed image as start-up finds it in one flash slot: the header bytes and segments, and the three results that
only arithmetic outside this model gives (R653, R654): whether the public key hashes to the fused hash, whether the
signature verifies, and which segments match their digests. -/
structure FlashSlot where
  header : List Byte
  keyHashOk : Bool
  sigOk : Bool
  /-- Types of the segments whose digest matches. -/
  goodSegs : List Nat
  bootcfg : List Byte
  limp : List Byte
  deriving DecidableEq, Repr

/-- What start-up meets outside the device: fuse reads, flash and its self-test results (R651-R656). -/
structure BootEnv where
  fusesOk : Bool
  /-- REFCLK within its monitor limits. -/
  refclk : Bool
  flashOk : Bool
  slotA : FlashSlot
  slotB : FlashSlot
  /-- Results of the fixed instances of R607: billet, Ulinex, Hardy expected, configuration. -/
  fixedOk : Bool
  /-- Outputs whose Hardy checker fails R607. -/
  hardyCheckerFail : Nat
  /-- Outputs whose content instance fails R607. -/
  contentFail : Nat
  /-- Channels that fail Temper's training (R484). -/
  temperFail : Nat
  /-- Anvil die channels that fail step 8, bit 8d + c. -/
  anvFail : Nat
  /-- Composition engines, cores and general check units that fail their test: one bit each (R220, R397, R606). -/
  enginesFail : Nat
  coresFail : Nat
  unitsFail : Nat
  /-- Journal entries whose body copy no longer agrees with CHECK (R71): slice and SEQ. -/
  bodiesBad : List (Nat × Word)
  deriving DecidableEq, Repr

/-- Start-up and reset state (R643-R661). -/
structure Boot where
  step : Nat
  sealedOnce : Bool
  failed : Bool
  slotB : Bool
  fallback : Bool
  reason : Nat
  imgVer : Word
  /-- Records of the boot configuration in use. -/
  recs : List BootRec
  log2n : Nat
  bond : Bool
  rank : Bool
  limpAtBoot : Bool
  limpOnEscalate : Bool
  subsys : Nat
  faultChime : Nat
  /-- The limp output record: an OUT_CONFIG and a SET_TIMING payload (R278, R655). -/
  limpOut : Option (List Byte)
  env : Option BootEnv
  lastReset : Nat
  /-- RST_CTRL writes waiting for their 10 us: bit 0 Knaby, bit 1 warm. -/
  rstPend : Nat
  /-- RST_BLK bits whose reset runs. -/
  rstBlk : Nat
  /-- A warm reset is in progress, at the step of R650 reached; 0 for none. -/
  warmStep : Nat
  /-- RESET_N is low; WARM_N is low. -/
  resetLow : Bool
  warmLow : Bool
  /-- The device is held as by RESET_N because MAIN_PG fell (R692). -/
  pgHold : Bool
  mainEn : Bool
  mainPg : Bool
  /-- Hearth restarts after a lockstep mismatch and has not resumed (R645). -/
  hearthDown : Bool
  /-- A Knaby restart is in progress (R638). -/
  knabyDown : Bool
  /-- Knaby is held stopped until RESET_N (R638). -/
  knabyStopped : Bool
  /-- Times in us of Knaby restarts within the last 60 s, newest first, and of cause-4 warm resets within 300 s. -/
  knabyTimes : List Nat
  warm4Times : List Nat
  refclkOk : Bool
  /-- PIX0 and TDM0 run from the Hearth crystal (R646). -/
  xtal : Bool
  /-- Monitored values outside their limits: clocks, supplies, temperature (R632). -/
  clockBad : Nat
  supplyBad : Nat
  thermalBad : Nat
  /-- Outputs whose Hardy checker, and whose content instance, failed its last check (R607). -/
  checkerBad : Nat
  contentBad : Nat
  /-- Start-up waits for REFCLK before step 6 (R659). -/
  waitRefclk : Bool
  /-- Warm reset requests since start-up began, before the first seal (R659). -/
  warmTries : Nat
  /-- Cause code of the warm reset that is due or runs (R633). -/
  warmCause : Nat
  /-- The VDD_CORE command last acknowledged, in mV (R690). -/
  avsMv : Nat
  deriving DecidableEq, Repr

/-- The Bellows ladder (R662-R678). -/
structure Power where
  /-- 0 RUN, 1 HOLD, 2 DAMP, 3 BANK, 4 EMBER, 5 ASH. -/
  st : Nat
  entering : Bool
  restoring : Bool
  target : Nat
  /-- The step of R667 reached while an entry runs; 0 for none. -/
  step : Nat
  sources : Nat
  alarm : Nat
  cause : Nat
  group : Nat
  merged : Nat
  count : Nat
  resState : Nat
  resMs : Nat
  /-- Time of arrival in the present state, in us. -/
  since : Nat
  /-- A wake held during entry: source bit and touch group. -/
  heldWake : Option (Nat × Nat)
  /-- A wake whose exit has not ended. -/
  exiting : Bool
  /-- Frame counters saved at step 6 of R667. -/
  savedFrames : List Word
  deriving DecidableEq, Repr

/-- The ladder after reset. -/
def Power.reset : Power where
  st := 0
  entering := false
  restoring := false
  target := 0
  step := 0
  sources := 0
  alarm := 0
  cause := 0
  group := 0
  merged := 0
  count := 0
  resState := 0
  resMs := 0
  since := 0
  heldWake := none
  exiting := false
  savedFrames := List.replicate 8 0

end Sys2Proof.Machine
end

