-- ==== Sys2Proof/Syntax.lean ====
section
/-! DEFINITION. The commands of the SX8: one constructor per row of the opcode table, with the operands a row takes.
An operand that names a unit is a number below the largest count any variant has (R1); results that hardware or the
outside world supplies (a measured value, a lock that came, a pin's level) are operands as well. -/
namespace Sys2Proof
open Machine

/-- A command. -/
inductive Instr where
  /-- BILLET_FETCH (R42). Knaby fetches the next announced billet from a slice's submission ring and runs it through the checks of R53. -/
  | billetFetch (n : Fin 16) (raw : List Byte)
  /-- BILLET_DATAGRAM (R50). A UDP billet datagram arrives at the billet port and is dropped, or classified to a slice and checked as a billet. -/
  | billetDatagram (d : UdpIn)
  /-- REPLY_DATAGRAM (R51). Formed reply records of a UDP slice are sent in one datagram no later than 50 us after the first was formed. -/
  | replyDatagram (n : Fin 16)
  /-- SLC_DB_WRITE (R45). A write to the submission doorbell is judged against SLC_SQ_HEAD and announces new entries or sets DB_ERR. -/
  | slcDbWrite (n : Fin 16) (a : Access)
  /-- SLC_RQ_HEAD_WRITE (R47). The host writes the reply consumer count, which can end a reply-ring-full stall. -/
  | slcRqHeadWrite (n : Fin 16) (a : Access)
  /-- SLOT_VALUE_READ (R64). A read of SLC_SLOTk_VALUE_LO of a DONE slot returns the value and increments READ_COUNT. -/
  | slotValueRead (n : Fin 16) (k : Fin 64) (a : Access)
  /-- SLOT_RELEASE_WRITE (R65). A write of ones to SLC_SLOT_REL frees DONE slots, and sets REL_PEND for PENDING ones. -/
  | slotReleaseWrite (n : Fin 16) (hi : Bool) (a : Access)
  /-- FENCE_WAIT_END (R53). A billet with FENCE held at step 5 resumes validation once every earlier accepted billet of the slice is DONE. -/
  | fenceWaitEnd (n : Fin 16)
  /-- WINDOW_WAIT_END (R70). A billet held at step 16 proceeds to STAGED once the journal entry of SEQ minus 256 is DONE or FREE. -/
  | windowWaitEnd (n : Fin 16)
  /-- EFFECT_ISSUE (R82). Knaby issues the effect of the next accepted billet of a slice in SEQ order, applying its state change. -/
  | effectIssue (n : Fin 16)
  /-- EFFECT_COMPLETE (R68). Hardware reports an issued effect complete or failed, and the entry moves to DONE with its slot filled. -/
  | effectComplete (n : Fin 16) (seq : Word) (r : EffResult)
  /-- NOP (R88). Billet with no effect, accepted with RESULT 0. -/
  | nop (b : Billet)
  /-- SLICE_INFO (R89). Billet that completes its slot with the slice number, N, tier, pairing, role, stepping, permissions and DRAM use. -/
  | sliceInfo (b : Billet)
  /-- SLOT_READ (R90). Immediate billet that returns one slot register, with the read effect on READ_COUNT. -/
  | slotRead (b : Billet)
  /-- SLOT_RELEASE (R91). Immediate billet that frees the DONE slots named in MASK and returns the count freed. -/
  | slotRelease (b : Billet)
  /-- SLICE_CONFIG (R92). Billet from slice 0 that binds a slice and sets its permissions and quota, clearing its state on a change of binding. -/
  | sliceConfig (b : Billet)
  /-- SLICE_RESET (R94). Billet from slice 0 that resets a target slice and re-issues its OPEN.ISSUED entries. -/
  | sliceReset (b : Billet)
  /-- DIRTY_LOG_START (R95). DIRTY_LOG with OP START allocates the shadow and begins logging device writes for a slice. -/
  | dirtyLogStart (b : Billet)
  /-- DIRTY_LOG_FLUSH (R182). DIRTY_LOG with OP FLUSH copies non-zero shadow words into the host bitmap, clears them and reports counts. -/
  | dirtyLogFlush (b : Billet)
  /-- DIRTY_LOG_STOP (R184). DIRTY_LOG with OP STOP performs a final flush, ends logging and frees the shadow. -/
  | dirtyLogStop (b : Billet)
  /-- REG_READ (R96). Billet that reads a system register as slice 0, with any read side effect. -/
  | regRead (b : Billet)
  /-- REG_WRITE (R96). Billet that writes a system register as slice 0 with byte enables and returns the read-back value. -/
  | regWrite (b : Billet)
  /-- SURF_CREATE (R99). Billet that creates a surface charged to the slice quota, optionally cleared. -/
  | surfCreate (b : Billet)
  /-- SURF_FREE (R100). Billet that frees an unpinned surface and returns its pages to the quota. -/
  | surfFree (b : Billet)
  /-- SURF_UPLOAD (R101). Billet that copies a host memory rectangle into a surface. -/
  | surfUpload (b : Billet)
  /-- SURF_WRITE (R102). Billet that writes inline payload bytes at a byte offset of a surface. -/
  | surfWrite (b : Billet)
  /-- SURF_READBACK (R101). Billet that copies a surface rectangle into host memory, dirty-logged. -/
  | surfReadback (b : Billet)
  /-- SURF_FILL (R103). Billet that fills a surface rectangle with one pixel value. -/
  | surfFill (b : Billet)
  /-- SURF_COPY (R104). Billet that copies a rectangle between two surfaces of one format. -/
  | surfCopy (b : Billet)
  /-- LAYER_ASSIGN (R105). Billet from slice 0 that assigns a layer to a slice, output, Z and scaler, or unassigns it. -/
  | layerAssign (b : Billet)
  /-- LAYER_SET (R107). Billet that stages one layer's source, crop, placement and alpha into a default set or group. -/
  | layerSet (b : Billet)
  /-- COMMIT (R108). Billet that moves a default set or numbered group into a pending commit across its member outputs. -/
  | commit (b : Billet)
  /-- STAGE_DISCARD (R110). Billet that empties default sets or empties and frees a numbered group. -/
  | stageDiscard (b : Billet)
  /-- WRITEBACK (R111). Billet from slice 0 that stages enabling or disabling write-back of an output to a surface. -/
  | writeback (b : Billet)
  /-- OUT_CONFIG (R112). Billet that sets a disabled output's link type, lanes, depth, rate, flags and panel delays. -/
  | outConfig (b : Billet)
  /-- SET_TIMING_LOAD (R113). SET_TIMING with MODE LOAD writes a timing set, selecting it on a disabled output. -/
  | setTimingLoad (b : Billet)
  /-- SET_TIMING_SWITCH (R302). SET_TIMING with MODE SWITCH loads the other set and changes to it at a frame boundary with no blank. -/
  | setTimingSwitch (b : Billet)
  /-- SET_TIMING_REPROGRAM (R303). SET_TIMING with MODE REPROGRAM stops the output at a cut-off, loads the set and restarts it after a blank. -/
  | setTimingReprogram (b : Billet)
  /-- OUT_ENABLE (R304). OUT_ENABLE with ENABLE 1 powers the panel and starts the output on its selected set. -/
  | outEnable (b : Billet)
  /-- OUT_DISABLE (R305). OUT_ENABLE with ENABLE 0 turns off the backlight, stops the generator and link at a cut-off and powers the panel down. -/
  | outDisable (b : Billet)
  /-- ANV_ALLOC (R293). Billet that frees and takes Anvil granules for a disabled output's two buffers and zero-fills them. -/
  | anvAlloc (b : Billet)
  /-- COLOUR_LOAD (R116). Billet that writes matrix or LUT words into the inactive bank of an output's colour pipeline, staged. -/
  | colourLoad (b : Billet)
  /-- SCALER_LOAD (R117). Billet that writes filter phases into a scaler's inactive bank, staged or applied at once. -/
  | scalerLoad (b : Billet)
  /-- BACKLIGHT (R118). Billet that starts a linear duty ramp of an output's backlight PWM. -/
  | backlight (b : Billet)
  /-- HARDY_REGION (R119). Billet that defines a pending Hardy check region with its reaction and threshold. -/
  | hardyRegion (b : Billet)
  /-- HARDY_WRITE (R120). Billet that writes inline bytes into an output's pending Hardy buffer. -/
  | hardyWrite (b : Billet)
  /-- HARDY_COPY (R120). Billet that copies bytes from a surface into an output's pending Hardy buffer. -/
  | hardyCopy (b : Billet)
  /-- HARDY_COMMIT (R263). Billet that has Hearth compute expected values and make the pending Hardy set live at a cut-off. -/
  | hardyCommit (b : Billet)
  /-- HARDY_ACK (R271). Billet held until the next verdict that clears named regions' latches dated to that verdict. -/
  | hardyAck (b : Billet)
  /-- LIMP_LOAD (R123). Billet that writes bytes of the limp image or palette in Hearth RAM. -/
  | limpLoad (b : Billet)
  /-- LIMP_CTRL_FORCE (R124). LIMP_CTRL with MODE 1 forces the limp-home display on OUT0. -/
  | limpCtrlForce (b : Billet)
  /-- LIMP_CTRL_RELEASE (R124). LIMP_CTRL with MODE 2 ends forcing and releases OUT0, refused while a REACTION 3 latch holds. -/
  | limpCtrlRelease (b : Billet)
  /-- LIMP_CTRL_REACTIVE (R124). LIMP_CTRL with MODE 0 ends forcing and returns to reaction-driven control. -/
  | limpCtrlReactive (b : Billet)
  /-- JOB_RASTER (R125). Billet that runs a raster command stream into named target surfaces. -/
  | jobRaster (b : Billet)
  /-- JOB_COMPUTE (R126). Billet that dispatches a compute kernel over a grid of workgroups. -/
  | jobCompute (b : Billet)
  /-- AUD_ROUTE (R546). Billet that sets or removes a mixer cross-point through a ramp to and from silence. -/
  | audRoute (b : Billet)
  /-- AUD_GAIN (R130). Billet that ramps an input or output gain to a new value. -/
  | audGain (b : Billet)
  /-- AUD_STREAM_OPEN (R131). AUD_STREAM with OP 1 opens a guest stream ring on owned mixer inputs. -/
  | audStreamOpen (b : Billet)
  /-- AUD_STREAM_CLOSE (R131). AUD_STREAM with OP 2 closes a guest stream. -/
  | audStreamClose (b : Billet)
  /-- AUD_EQ (R547). Billet that writes one biquad section's coefficients of an output directly. -/
  | audEq (b : Billet)
  /-- AUD_DYN (R548). Billet that sets an output's limiter and delay directly. -/
  | audDyn (b : Billet)
  /-- CHIME_PLAY (R557). Billet that starts a ROM chime on a player, a safety chime going to Hearth with ducking. -/
  | chimePlay (b : Billet)
  /-- CHIME_STOP (R134). Billet that stops a playing chime of the slice at the end of its block. -/
  | chimeStop (b : Billet)
  /-- AUD_ASSIGN (R128). Billet that makes a slice owner of a mixer input or output. -/
  | audAssign (b : Billet)
  /-- TCH_GROUP (R135). Billet that configures a disabled electrode group's roles, thresholds and designated slice. -/
  | tchGroup (b : Billet)
  /-- TCH_ENABLE (R136). TCH_ENABLE with ENABLE 1 starts scanning a group and acquires its baselines. -/
  | tchEnable (b : Billet)
  /-- TCH_DISABLE (R522). TCH_ENABLE with ENABLE 0 stops a group, releasing pressed controls without bindings. -/
  | tchDisable (b : Billet)
  /-- TCH_REPORTS (R137). Billet that sets the report ring or datagram delivery of a group. -/
  | tchReports (b : Billet)
  /-- HAP_CONFIG (R138). Billet that sets a haptic channel's resonance, duty limit, brake threshold and enable. -/
  | hapConfig (b : Billet)
  /-- HAP_PLAY (R139). Billet that triggers a ROM effect on a haptic channel as a touch trigger does. -/
  | hapPlay (b : Billet)
  /-- HAP_BIND (R140). Billet that binds or unbinds an effect to an electrode's press or release. -/
  | hapBind (b : Billet)
  /-- AVTP_LISTEN (R141). Billet that opens an AVTP listener stream into a mixer input. -/
  | avtpListen (b : Billet)
  /-- AVTP_TALK (R578). Billet that admits an AVTP talker stream against the port's credit-based reservation. -/
  | avtpTalk (b : Billet)
  /-- AVTP_CLOSE (R143). Billet that closes an AVTP stream and returns its reservation. -/
  | avtpClose (b : Billet)
  /-- NET_GATE (R144). Billet that loads a port's 802.1Qbv gate control list to take over at a base time. -/
  | netGate (b : Billet)
  /-- PAIR_WELD (R432). Billet that starts the weld handshake over a trained Ulinex link. -/
  | pairWeld (b : Billet)
  /-- PAIR_UNWELD (R455). Billet that ends a weld, leaving both devices SOLO with this one driving the outputs. -/
  | pairUnweld (b : Billet)
  /-- PAIR_SWITCH (R454). Billet that hands every output to the partner and swaps the ACTIVE and STANDBY roles. -/
  | pairSwitch (b : Billet)
  /-- PAIR_XCHECK (R145). Billet that enables or disables the full-output CRC comparison. -/
  | pairXcheck (b : Billet)
  /-- PWR_STATE_RUN (R666). PWR_STATE with STATE 0, completed once RUN holds. -/
  | pwrStateRun (b : Billet)
  /-- PWR_STATE_HOLD (R667). PWR_STATE with STATE 1 gates the cluster and stops composition passes. -/
  | pwrStateHold (b : Billet)
  /-- PWR_STATE_DAMP (R667). PWR_STATE with STATE 2 brings panels to self-refresh, stops generators and gates most of the device. -/
  | pwrStateDamp (b : Billet)
  /-- PWR_STATE_BANK (R667). PWR_STATE with STATE 3 powers off the main domain and Anvil, keeping Hearth and DRAM self-refresh. -/
  | pwrStateBank (b : Billet)
  /-- PWR_STATE_EMBER (R667). PWR_STATE with STATE 4 enters BANK and also stops the main PLLs, Hearth on its crystal. -/
  | pwrStateEmber (b : Billet)
  /-- PWR_STATE_ASH (R667). PWR_STATE with STATE 5 powers off all but the wake comparators and always-on timer. -/
  | pwrStateAsh (b : Billet)
  /-- PWR_WAKE (R147). Billet that sets the enabled wake sources and the alarm time. -/
  | pwrWake (b : Billet)
  /-- SLAG_READ (R148). Billet that returns one Slag entry record in its slot. -/
  | slagRead (b : Billet)
  /-- SLAG_CLEAR (R149). Immediate billet that clears named sticky classes whose cause no longer persists. -/
  | slagClear (b : Billet)
  /-- CRC_RUN (R602). Billet that feeds a surface range through an assigned general check unit. -/
  | crcRun (b : Billet)
  /-- SELFTEST_TOUCH (R516). SELFTEST TEST 0 runs the reference-capacitor test of a disabled touch group. -/
  | selftestTouch (b : Billet)
  /-- SELFTEST_HAPTIC (R538). SELFTEST TEST 1 runs the actuator path check of an idle haptic channel. -/
  | selftestHaptic (b : Billet)
  /-- SELFTEST_CHECK_UNIT (R605). SELFTEST TEST 2 runs the check-value self-test of a general check unit. -/
  | selftestCheckUnit (b : Billet)
  /-- FAULT_INJECT (R152). Billet that raises one fault entry as if detected, with its interrupt and FAULT_N but no further reaction. -/
  | faultInject (b : Billet)
  /-- QUENCH (R159). A QUENCH datagram arrives at the quench port and is checked and performed with one reply record. -/
  | quench (d : UdpIn)
  /-- QUENCH_JOB (R154). Quench of scope JOB stops a named or all raster and compute jobs of the slice. -/
  | quenchJob (n : Fin 16) (arg : Word) (a : Access)
  /-- QUENCH_DMA (R154). Quench of scope DMA stops a named or all transfers of the slice. -/
  | quenchDma (n : Fin 16) (arg : Word) (a : Access)
  /-- QUENCH_AUDIO (R154). Quench of scope AUDIO mutes and closes guest streams on an input or of the slice. -/
  | quenchAudio (n : Fin 16) (arg : Word) (a : Access)
  /-- QUENCH_COMPOSITION (R154). Quench of scope COMPOSITION abandons the pass in progress on an output. -/
  | quenchComposition (n : Fin 16) (arg : Word) (a : Access)
  /-- QUENCH_SLICE (R156). Quench of scope SLICE stops all work of a slice, disables its ring and resets its doorbell count. -/
  | quenchSlice (n : Fin 16) (arg : Word) (a : Access)
  /-- QUENCH_DEVICE (R154). Quench of scope DEVICE stops every slice, pass, guest stream and normal chime and brakes haptics. -/
  | quenchDevice (n : Fin 16) (arg : Word) (a : Access)
  /-- CUT_OFF (R216). An output reaches line VACTIVE: frame counter increments, buffers swap or repeat, and FAB applies bound commits and dispatches the next pass. -/
  | cutOff (n : Fin 8) (e : BitVec 28)
  /-- COMMIT_BIND (R207). A pending commit whose members have no blocking condition binds each member to its next unprocessed cut-off. -/
  | commitBind (n : Fin 16) (seq : Word)
  /-- PASS_COMPLETE (R216). The last Anvil write of a pass is acknowledged and its completion flag crosses to the pixel domain. -/
  | passComplete (n : Fin 8) (us : Nat) (bad : List (Fin 64 × Nat)) (merges : List Nat) (tile parity : BitVec 4) (finish : Bool)
  /-- SCALER_COPY_DONE (R237). A scaler's copy of the new active bank into the inactive bank ends, releasing waiting loads. -/
  | scalerCopyDone (k : Fin 8)
  /-- COLOUR_COPY_DONE (R246). An output's colour pipeline copy-back ends, releasing waiting colour loads. -/
  | colourCopyDone (n : Fin 8)
  /-- HARDY_RESULT (R261). A region CRC result with its frame number arrives at Hearth from the scan-out checker. -/
  | hardyResult (n : Fin 8) (r : Fin 256) (f crc : Word)
  /-- HARDY_VERDICT (R268). Hearth judges each enabled region of a frame as match, mismatch or missing and advances its region state. -/
  | hardyVerdict (n : Fin 8) (f : Word) (expErr : BitVec 16)
  /-- HARDY_EXPECTED_DONE (R263). Hearth finishes forming expected values of a pending Hardy set and exchanges them in a pair. -/
  | hardyExpectedDone (n : Fin 8) (agree : Bool)
  /-- HARDY_COPYBACK_DONE (R263). The new live Hardy buffer and table have been copied into the pending ones, releasing held Hardy billets. -/
  | hardyCopybackDone (n : Fin 8)
  /-- XCHECK_TIMEOUT (R273). The partner's results for a frame have not arrived within one frame period and the frame is counted as missed. -/
  | xcheckTimeout (n : Fin 8)
  /-- ANV_ZERO_FILL_DONE (R293). The zero-fill of an output's newly taken granules ends and the allocation applies. -/
  | anvZeroFillDone (n : Fin 8)
  /-- BAR2_WRITE (R297). A BAR2 write is taken only to free or idle granules on a SOLO device, otherwise ignored and counted. -/
  | bar2Write (p : Fin 2) (addr : BitVec 29) (bytes : List Byte) (lost : Bool)
  /-- SWITCH_SELECT (R302). Knaby sends a SWITCH set select to the pixel domain once the mirrored line is early enough in the active area. -/
  | switchSelect (n : Fin 8)
  /-- PANEL_ON_DELAY_END (R304). T_PANEL_ON after PANEL_EN has elapsed and pixel PLL lock begins. -/
  | panelOnDelayEnd (n : Fin 8)
  /-- PLL_LOCK (R304). An output's pixel PLL locks, the prime pass starts and link start begins. -/
  | pllLock (n : Fin 8)
  /-- LINK_START_DONE (R326). Link start or training ends, successfully or failed, and the generator starts at line VACTIVE. -/
  | linkStartDone (n : Fin 8) (bad : List (Nat × Nat)) (fast psr psr2 : Bool) (gran : Nat)
  /-- BACKLIGHT_ON_DELAY_END (R304). T_BL_ON after line 0 of the first frame has elapsed and the backlight PWM starts. -/
  | backlightOnDelayEnd (n : Fin 8)
  /-- BACKLIGHT_OFF_DELAY_END (R305). T_BL_OFF has elapsed after a disable and the output stops at its next cut-off. -/
  | backlightOffDelayEnd (n : Fin 8)
  /-- PANEL_OFF_DELAY_END (R305). T_PANEL_OFF has elapsed after link stop and PANEL_EN is driven inactive. -/
  | panelOffDelayEnd (n : Fin 8)
  /-- BL_PWM_PERIOD (R312). A backlight PWM period starts and any running ramp steps the duty value. -/
  | blPwmPeriod (n : Fin 8) (us : Nat)
  /-- ANV_SCRUB_GRANULE (R314). The scrubber moves to the next granule after SCAN_US and reads and corrects its words. -/
  | anvScrubGranule (fixed : List (BitVec 21 × Bool)) (ue : List (BitVec 21))
  /-- ANV_DIE_FAIL (R316). A die becomes unhealthy and its free granules are retired and relocation begins. -/
  | anvDieFail (c : Fin 24)
  /-- ANV_HARDY_RELOCATED (R316). Hearth has copied a Hardy region off a failed die and moves scan-out to the copy at the next cut-off. -/
  | anvHardyRelocated (n : Fin 8)
  /-- HPD_UNPLUG (R329). HPD has been low for more than 2 ms and the link stops. -/
  | hpdUnplug (n : Fin 8)
  /-- HPD_IRQ (R329). A 0.5-1 ms low pulse on HPD makes the SX8 read link status and retrain on lost lock. -/
  | hpdIrq (n : Fin 8) (lost : Bool)
  /-- HPD_REPLUG (R329). HPD has been high for 100 ms after an unplug and full training starts. -/
  | hpdReplug (n : Fin 8)
  /-- LINK_RETRY (R328). Once per second a failed link is retried with full training while AUTO_RETRAIN is set. -/
  | linkRetry (n : Fin 8)
  /-- AUX_GO (R330). A write of GO to SCN_OUTn_AUX_CMD queues an AUX transaction. -/
  | auxGo (n : Fin 8) (a : Access)
  /-- AUX_REPLY (R330). An AUX reply arrives and the transaction completes or a DEFER is retried. -/
  | auxReply (n : Fin 8) (code : Fin 16) (data : List Byte)
  /-- AUX_TIMEOUT (R330). No AUX reply within 400 us completes the transaction with TIMEOUT. -/
  | auxTimeout (n : Fin 8)
  /-- DSI_GO (R337). A write of GO to SCN_OUTn_DSI_HDR queues a DSI packet. -/
  | dsiGo (n : Fin 4) (a : Access)
  /-- DSI_PACKET_SEND (R337). A queued DSI packet is sent in a blanking that fits it, with bus turnaround for a read. -/
  | dsiPacketSend (n : Fin 4) (fits : Bool) (resp : Option (Fin 64 × BitVec 16 × List Byte)) (ackErr : Bool)
  /-- TE_REPORT (R336). A tearing-effect report is read from a command-mode panel and serves as the genlock reference. -/
  | teReport (n : Fin 8)
  /-- TE_LOST (R336). No tearing-effect report for 3 frames sets TE_LOST and the generator runs free. -/
  | teLost (n : Fin 8)
  /-- PSR_ENTRY (R332). K frames with unchanged content CRC move an eDP link into SELF_REFRESH. -/
  | psrEntry (n : Fin 8)
  /-- PSR_REFRESH (R332). Q frames since the last sent frame force a whole frame to be sent. -/
  | psrRefresh (n : Fin 8)
  /-- TAKE_OUTPUT (R342). At a cut-off a device drives PANEL_EN and backlight, the holder releases, and the taker drives MUXSEL and starts the link. -/
  | takeOutput (n : Fin 8)
  /-- CMD_NOP (R351). Raster command NOP does nothing. -/
  | rasCmdNop
  /-- END (R370). Raster command END writes back flagged tiles and ends the job. -/
  | rasEnd
  /-- VIEWPORT (R351). Raster command that sets the viewport. -/
  | rasViewport
  /-- SCISSOR (R351). Raster command that sets the scissor rectangle. -/
  | rasScissor
  /-- RASTER (R357). Raster command that sets culling, front face and depth clamp. -/
  | rasRaster
  /-- DEPTH (R361). Raster command that sets the depth test function, write and enable. -/
  | rasDepth
  /-- STENCIL (R362). Raster command that sets the stencil test and operations. -/
  | rasStencil
  /-- BLEND (R365). Raster command that sets a target's blend mode and write mask. -/
  | rasBlend
  /-- SHADERS (R351). Raster command that sets vertex and fragment shader entries, varyings and constants. -/
  | rasShaders
  /-- VERTICES (R351). Raster command that sets the vertex buffer passed to the vertex shader. -/
  | rasVertices
  /-- DRAW (R354). Raster command that assembles, clips, rasterises, shades, tests and blends triangles in raster order. -/
  | rasDraw
  /-- CLEAR (R369). Raster command that fast-clears a target rectangle by flagging tiles and writing partial tiles. -/
  | rasClear
  /-- QUANTUM_BOUNDARY (R390). Every 350000 CORE cycles the cluster saves the outgoing slice, runs the boundary test and restores the incoming slice. -/
  | quantumBoundary (bad parity : BitVec 48)
  /-- ISSUE_STALL (R397). A core with a ready bundle has issued nothing for 4096 cycles of its slice's time and is marked failed. -/
  | issueStall (core : Fin 48)
  /-- WORKGROUP_DISPATCH (R383). A waiting workgroup is placed on the lowest healthy core that it fits. -/
  | workgroupDispatch
  /-- SHADING_DISPATCH (R384). A vertex or fragment shading bundle is dispatched to a core of its back-end's half. -/
  | shadingDispatch
  /-- MEMORY_RETURN (R391). A load, atomic or sampling result arrives and is written into its slice's register partition. -/
  | memoryReturn (slice : Fin 16) (core : Fin 48) (slot : Fin 64) (bad : Bool)
  /-- MOV (R408). Vector instruction that copies B into D. -/
  | cruMov (core : Fin 48)
  /-- IADD (R408). Vector integer add. -/
  | cruIadd (core : Fin 48)
  /-- ISUB (R408). Vector integer subtract. -/
  | cruIsub (core : Fin 48)
  /-- IMUL (R408). Vector integer multiply, low 32 bits. -/
  | cruImul (core : Fin 48)
  /-- IMULHI_U (R408). Vector unsigned multiply, high 32 bits. -/
  | cruImulhiU (core : Fin 48)
  /-- IMULHI_S (R408). Vector signed multiply, high 32 bits. -/
  | cruImulhiS (core : Fin 48)
  /-- IMAD (R408). Vector integer multiply-add. -/
  | cruImad (core : Fin 48)
  /-- AND (R408). Vector bitwise AND. -/
  | cruAnd (core : Fin 48)
  /-- OR (R408). Vector bitwise OR. -/
  | cruOr (core : Fin 48)
  /-- XOR (R408). Vector bitwise XOR. -/
  | cruXor (core : Fin 48)
  /-- ANDN (R408). Vector A AND NOT B. -/
  | cruAndn (core : Fin 48)
  /-- SHL (R408). Vector shift left. -/
  | cruShl (core : Fin 48)
  /-- SHR (R408). Vector logical shift right. -/
  | cruShr (core : Fin 48)
  /-- SAR (R408). Vector arithmetic shift right. -/
  | cruSar (core : Fin 48)
  /-- IMIN_S (R408). Vector signed minimum. -/
  | cruIminS (core : Fin 48)
  /-- IMAX_S (R408). Vector signed maximum. -/
  | cruImaxS (core : Fin 48)
  /-- IMIN_U (R408). Vector unsigned minimum. -/
  | cruIminU (core : Fin 48)
  /-- IMAX_U (R408). Vector unsigned maximum. -/
  | cruImaxU (core : Fin 48)
  /-- ISETP (R411). Integer compare that writes a predicate. -/
  | cruIsetp (core : Fin 48)
  /-- SEL (R408). Vector select of A or B by a predicate. -/
  | cruSel (core : Fin 48)
  /-- BFE (R408). Vector bit-field extract. -/
  | cruBfe (core : Fin 48)
  /-- BFI (R408). Vector bit-field insert. -/
  | cruBfi (core : Fin 48)
  /-- POPC (R408). Vector population count. -/
  | cruPopc (core : Fin 48)
  /-- CLZ (R408). Vector count of leading zeros. -/
  | cruClz (core : Fin 48)
  /-- BREV (R408). Vector bit reversal. -/
  | cruBrev (core : Fin 48)
  /-- FADD (R412). FP32 add. -/
  | cruFadd (core : Fin 48)
  /-- FSUB (R412). FP32 subtract. -/
  | cruFsub (core : Fin 48)
  /-- FMUL (R412). FP32 multiply. -/
  | cruFmul (core : Fin 48)
  /-- FFMA (R412). FP32 fused multiply-add with one rounding. -/
  | cruFfma (core : Fin 48)
  /-- FMIN (R412). FP32 minimum. -/
  | cruFmin (core : Fin 48)
  /-- FMAX (R412). FP32 maximum. -/
  | cruFmax (core : Fin 48)
  /-- FSETP (R411). FP32 compare that writes a predicate. -/
  | cruFsetp (core : Fin 48)
  /-- FDIV (R412). FP32 divide over 4 clocks. -/
  | cruFdiv (core : Fin 48)
  /-- FRCP (R412). FP32 reciprocal. -/
  | cruFrcp (core : Fin 48)
  /-- FSQRT (R412). FP32 square root. -/
  | cruFsqrt (core : Fin 48)
  /-- FRSQ (R412). FP32 reciprocal square root. -/
  | cruFrsq (core : Fin 48)
  /-- FFLOOR (R412). FP32 round down to integer value. -/
  | cruFfloor (core : Fin 48)
  /-- FCEIL (R412). FP32 round up to integer value. -/
  | cruFceil (core : Fin 48)
  /-- FTRUNC (R412). FP32 round toward zero to integer value. -/
  | cruFtrunc (core : Fin 48)
  /-- FRINT (R412). FP32 round to nearest even integer value. -/
  | cruFrint (core : Fin 48)
  /-- FFRACT (R412). FP32 fractional part. -/
  | cruFfract (core : Fin 48)
  /-- HADD2 (R414). Packed FP16 add. -/
  | cruHadd2 (core : Fin 48)
  /-- HSUB2 (R414). Packed FP16 subtract. -/
  | cruHsub2 (core : Fin 48)
  /-- HMUL2 (R414). Packed FP16 multiply. -/
  | cruHmul2 (core : Fin 48)
  /-- HFMA2 (R414). Packed FP16 fused multiply-add. -/
  | cruHfma2 (core : Fin 48)
  /-- HMIN2 (R414). Packed FP16 minimum. -/
  | cruHmin2 (core : Fin 48)
  /-- HMAX2 (R414). Packed FP16 maximum. -/
  | cruHmax2 (core : Fin 48)
  /-- HSETP2 (R414). Packed FP16 compare writing two predicates. -/
  | cruHsetp2 (core : Fin 48)
  /-- HDOT2 (R414). FP16 dot product accumulated into FP32. -/
  | cruHdot2 (core : Fin 48)
  /-- F2I (R412). Convert FP32 to integer with a rounding mode. -/
  | cruF2i (core : Fin 48)
  /-- I2F (R412). Convert integer to FP32. -/
  | cruI2f (core : Fin 48)
  /-- F2H (R412). Convert FP32 into one half of a packed FP16 register. -/
  | cruF2h (core : Fin 48)
  /-- H2F (R412). Widen one FP16 half to FP32. -/
  | cruH2f (core : Fin 48)
  /-- F2UN (R364). Convert FP32 to an unsigned normalised integer of width W. -/
  | cruF2un (core : Fin 48)
  /-- UN2F (R388). Convert an unsigned normalised integer of width W to FP32. -/
  | cruUn2f (core : Fin 48)
  /-- PLOP (R408). Predicate logic operation by truth table. -/
  | cruPlop (core : Fin 48)
  /-- XSAVE (R408). Save EXEC into a register. -/
  | cruXsave (core : Fin 48)
  /-- XLOAD (R402). Load EXEC from a register, masked by LIVE. -/
  | cruXload (core : Fin 48)
  /-- XAND (R408). AND EXEC with a predicate or its complement. -/
  | cruXand (core : Fin 48)
  /-- XSET (R402). Set EXEC to LIVE. -/
  | cruXset (core : Fin 48)
  /-- P2R (R408). Copy a predicate mask into a register. -/
  | cruP2r (core : Fin 48)
  /-- PRED_FROM_REG (R408). R2P: set a predicate mask from a register of the lowest live lane. -/
  | cruPredFromReg (core : Fin 48)
  /-- SHFL (R408). Shuffle a register value between lanes. -/
  | cruShfl (core : Fin 48)
  /-- RDLANE (R408). Broadcast one lane's register value. -/
  | cruRdlane (core : Fin 48)
  /-- BRA (R415). Conditional relative branch of the whole bundle. -/
  | cruBra (core : Fin 48)
  /-- CALL (R415). Write the return address and branch. -/
  | cruCall (core : Fin 48)
  /-- JMP (R415). Jump to an address held in a register. -/
  | cruJmp (core : Fin 48)
  /-- SYS_NOP (R408). System instruction NOP with no effect. -/
  | cruSysNop (core : Fin 48)
  /-- HDR (R405). Kernel header, executed as no-operation and validated at dispatch. -/
  | cruHdr (core : Fin 48)
  /-- EXIT (R404). Active lanes leave LIVE and EXEC and deliver their shading outputs. -/
  | cruExit (core : Fin 48)
  /-- DISCARD (R404). Active fragment lanes are killed. -/
  | cruDiscard (core : Fin 48)
  /-- TRAP (R395). Ends the job with E_JOB_FAULT code 0x18 if any lane is active. -/
  | cruTrap (core : Fin 48)
  /-- SREAD (R416). Read a special value into a register. -/
  | cruSread (core : Fin 48)
  /-- FENCE (R420). Order earlier memory accesses before later ones at workgroup or slice scope. -/
  | cruFence (core : Fin 48)
  /-- LD_SCRATCH (R418). Load from the workgroup's scratch allocation. -/
  | cruLdScratch (core : Fin 48)
  /-- ST_SCRATCH (R418). Store to the workgroup's scratch allocation. -/
  | cruStScratch (core : Fin 48)
  /-- LD_GLOBAL (R418). Load from a surface reachable by the job. -/
  | cruLdGlobal (core : Fin 48)
  /-- ST_GLOBAL (R418). Store to a writable surface of the job. -/
  | cruStGlobal (core : Fin 48)
  /-- SCRATCH_ATOM_ADD (R418). Scratch atomic add. -/
  | cruScratchAtomAdd (core : Fin 48)
  /-- SCRATCH_ATOM_SMIN (R418). Scratch atomic signed minimum. -/
  | cruScratchAtomSmin (core : Fin 48)
  /-- SCRATCH_ATOM_SMAX (R418). Scratch atomic signed maximum. -/
  | cruScratchAtomSmax (core : Fin 48)
  /-- SCRATCH_ATOM_UMIN (R418). Scratch atomic unsigned minimum. -/
  | cruScratchAtomUmin (core : Fin 48)
  /-- SCRATCH_ATOM_UMAX (R418). Scratch atomic unsigned maximum. -/
  | cruScratchAtomUmax (core : Fin 48)
  /-- SCRATCH_ATOM_AND (R418). Scratch atomic AND. -/
  | cruScratchAtomAnd (core : Fin 48)
  /-- SCRATCH_ATOM_OR (R418). Scratch atomic OR. -/
  | cruScratchAtomOr (core : Fin 48)
  /-- SCRATCH_ATOM_XOR (R418). Scratch atomic XOR. -/
  | cruScratchAtomXor (core : Fin 48)
  /-- SCRATCH_ATOM_EXCH (R418). Scratch atomic exchange. -/
  | cruScratchAtomExch (core : Fin 48)
  /-- SCRATCH_ATOM_CAS (R418). Scratch atomic compare-and-swap. -/
  | cruScratchAtomCas (core : Fin 48)
  /-- SCRATCH_ATOM_FADD (R418). Scratch atomic FP32 add. -/
  | cruScratchAtomFadd (core : Fin 48)
  /-- GLOBAL_ATOM_ADD (R418). Global atomic add. -/
  | cruGlobalAtomAdd (core : Fin 48)
  /-- GLOBAL_ATOM_SMIN (R418). Global atomic signed minimum. -/
  | cruGlobalAtomSmin (core : Fin 48)
  /-- GLOBAL_ATOM_SMAX (R418). Global atomic signed maximum. -/
  | cruGlobalAtomSmax (core : Fin 48)
  /-- GLOBAL_ATOM_UMIN (R418). Global atomic unsigned minimum. -/
  | cruGlobalAtomUmin (core : Fin 48)
  /-- GLOBAL_ATOM_UMAX (R418). Global atomic unsigned maximum. -/
  | cruGlobalAtomUmax (core : Fin 48)
  /-- GLOBAL_ATOM_AND (R418). Global atomic AND. -/
  | cruGlobalAtomAnd (core : Fin 48)
  /-- GLOBAL_ATOM_OR (R418). Global atomic OR. -/
  | cruGlobalAtomOr (core : Fin 48)
  /-- GLOBAL_ATOM_XOR (R418). Global atomic XOR. -/
  | cruGlobalAtomXor (core : Fin 48)
  /-- GLOBAL_ATOM_EXCH (R418). Global atomic exchange. -/
  | cruGlobalAtomExch (core : Fin 48)
  /-- GLOBAL_ATOM_CAS (R418). Global atomic compare-and-swap. -/
  | cruGlobalAtomCas (core : Fin 48)
  /-- GLOBAL_ATOM_FADD (R418). Global atomic FP32 add. -/
  | cruGlobalAtomFadd (core : Fin 48)
  /-- SAMPLE (R422). Filtered texture sample at FP32 coordinates. -/
  | cruSample (core : Fin 48)
  /-- FETCH (R422). Unfiltered texel fetch at integer coordinates. -/
  | cruFetch (core : Fin 48)
  /-- ACQ (R423). Instruction that takes a hardware lock or waits for it. -/
  | cruAcq (core : Fin 48)
  /-- TRY (R423). Instruction that takes a free lock and reports success in a predicate. -/
  | cruTry (core : Fin 48)
  /-- REL (R423). Instruction that frees a lock held by the strand. -/
  | cruRel (core : Fin 48)
  /-- BAR (R425). Workgroup barrier. -/
  | cruBar (core : Fin 48)
  /-- ULX_TRAINED (R428). Ulinex training completes and the link comes up. -/
  | ulxTrained (lat : Half)
  /-- ULX_LINK_DOWN (R431). Lock is lost or LACK has not advanced for 20 us and the link retrains. -/
  | ulxLinkDown
  /-- ULX_RETRANSMIT (R430). A frame unacknowledged 1 us after sending makes the sender resend from it. -/
  | ulxRetransmit
  /-- ULX_SEVER (R431). The link has been down longer than SEVER_US and the weld ends. -/
  | ulxSever
  /-- HELLO (R434). A partner HELLO frame arrives and roles are decided for a weld. -/
  | hello (h : UlxHdr) (m : Hello)
  /-- WELD_TIMEOUT (R433). No partner PAIR_WELD within WELD_TIMEOUT ends the weld attempt. -/
  | weldTimeout
  /-- WELD_DRAIN (R434). Fewer than 16 MiB of resent pages remain and jobs and DMA issue is held. -/
  | weldDrain
  /-- WELD_FREEZE (R434). No job or DMA is OPEN.ISSUED and every billet is held while the last state is sent. -/
  | weldFreeze
  /-- WELD_DONE (R437). FREEZE ends, the STANDBY loads its frame counters and the pair is WELDED. -/
  | weldDone
  /-- STATE_FRAME (R434). A STATE frame of bulk weld state arrives at the STANDBY-to-be. -/
  | stateFrame (h : UlxHdr) (p : StPart)
  /-- JOURNAL (R438). A forwarded STAGED billet arrives at the STANDBY, is journalled and acknowledged. -/
  | journal (h : UlxHdr) (n : Fin 16) (m : BilletMsg) (slot : Option (Fin 64)) (reply : Reply)
  /-- JACK (R68). A journal acknowledgement arrives and the STAGED entry moves to OPEN.WAIT. -/
  | jack (h : UlxHdr) (n : Fin 16) (seq check : Word) (ns : Half)
  /-- REPLY_FRAME (R438). A forwarded reply record and ring counts arrive and are stored by the STANDBY. -/
  | replyFrame (h : UlxHdr) (n : Fin 16) (r : Option Reply) (tail head db : Word)
  /-- COMPLETE (R441). A forwarded slot completion or quench outcome arrives and is recorded by the STANDBY. -/
  | complete (h : UlxHdr) (c : CompleteMsg)
  /-- CUTOFF_FRAME (R440). A CUTOFF frame arrives and the STANDBY applies the named bindings, switch and Hardy swap. -/
  | cutoffFrame (h : UlxHdr) (c : CutMsg)
  /-- CUTOFF_TIMEOUT (R440). No CUTOFF frame within 5 us, and the STANDBY applies the bindings it holds and clears READY. -/
  | cutoffTimeout (n : Fin 8)
  /-- HARDY_FRAME (R273). Partner region, full-output or expected values arrive and are compared. -/
  | hardyFrame (h : UlxHdr) (n : Fin 8) (f : Word) (r : Fin 256) (crc : Word) (ok : Bool)
  /-- EVENT (R439). A forwarded input event or cross-device mailbox message arrives and is used as if local. -/
  | event (h : UlxHdr) (e : PairEvent)
  /-- IDLE_FRAME (R430). An IDLE frame carrying acknowledgements only arrives. -/
  | idleFrame (h : UlxHdr)
  /-- TKO_REQUEST (R450). A per-output takeover request arrives and the taker grants or refuses it. -/
  | tkoRequest (h : UlxHdr) (n : Fin 8) (f : Word)
  /-- TKO_GRANT (R450). A takeover grant naming a cut-off arrives at the holder. -/
  | tkoGrant (h : UlxHdr) (n : Fin 8) (c : Word)
  /-- TKO_REFUSAL (R450). A takeover refusal arrives and the holder asserts FAULT_N. -/
  | tkoRefusal (h : UlxHdr) (n : Fin 8)
  /-- TKO_RELEASE (R342). The holder's report of releasing an output arrives at the taker. -/
  | tkoRelease (h : UlxHdr) (n : Fin 8)
  /-- TKO_ANSWER_TIMEOUT (R450). No answer to a takeover request within 20 us asserts FAULT_N. -/
  | tkoAnswerTimeout (n : Fin 8)
  /-- HB_LOST (R449). No heartbeat edge for 8 us and the device reacts by ULX_TKO_IN. -/
  | hbLost (tko : Bool)
  /-- HB_PRESENT (R449). 64 consecutive heartbeat edges mark the partner present again. -/
  | hbPresent (tko : Bool)
  /-- ACCOUNTING_WINDOW (R472). Each 1 us window start resets every DRAM port's credits to its allocation. -/
  | accountingWindow
  /-- DRAM_REQUEST (R468). A DRAM request passes the firewall and is scheduled by urgency, or is refused. -/
  | dramRequest (q : DramReq) (now : Nat)
  /-- SR_IDLE_EXPIRE (R481). The DRAM idle timer expires and self-refresh entry begins. -/
  | srIdleExpire (complete : Bool)
  /-- SR_EXIT (R483). A waking request or signal brings the DRAM out of self-refresh. -/
  | srExit
  /-- MR4_POLL (R479). Every 16 ms MR4 is read on each channel and the refresh interval set. -/
  | mr4Poll (ch : Fin 4) (rate : Fin 4) (degC : Nat)
  /-- REFRESH_DUE (R479). A bank's per-bank refresh falls due and is issued or postponed. -/
  | refreshDue (ch : Fin 4) (bank : Fin 32) (now : Nat)
  /-- DRC_RETRAIN (R488). Periodic or temperature-driven ZQ and drift adjustment of a channel. -/
  | drcRetrain (ch : Fin 4) (driftPs : Nat) (negative : Bool)
  /-- DRAM_SCRUB_READ (R466). The patrol scrubber reads the next word and writes back a correction. -/
  | dramScrubRead (ch : Fin 4) (r : EccResult) (addr : DWord)
  /-- DRC_PHASE_WRITE (R478). A write of DRC_CTRL.PHASE takes effect only for an allowed transition by its named master. -/
  | drcPhaseWrite (a : Access)
  /-- TEMPER_IDLE (R487). Helper operation IDLE, with no effect. -/
  | temperIdle (a : Access)
  /-- TEMPER_WRITE (R487). Helper operation WRITE writes pattern bursts. -/
  | temperWrite (a : Access)
  /-- TEMPER_READ_CMP (R487). Helper operation READ_CMP reads and compares bursts with the pattern. -/
  | temperReadCmp (a : Access)
  /-- TEMPER_MPC_RD (R487). Helper operation MPC_RD issues read DQ calibration. -/
  | temperMpcRd (a : Access)
  /-- TEMPER_CBT (R487). Helper operation CBT runs command bus training. -/
  | temperCbt (a : Access)
  /-- TEMPER_LEVEL (R487). Helper operation LEVEL runs WCK2CK or write leveling. -/
  | temperLevel (a : Access)
  /-- TEMPER_OP_DONE (R487). A helper operation completes and BUSY clears. -/
  | temperOpDone (fails : Half) (bits : Word)
  /-- MEMTEST_WINDOW (R499). The background tester borrows, March-tests and restores the next window. -/
  | memtestWindow (mem : Fin 3) (core : Fin 48) (bank : Fin 8) (r : WindowEnd)
  /-- MEMTEST_BORROW_TIMEOUT (R501). A borrow lasting 4096 cycles is restored and counted as a pre-emption. -/
  | memtestBorrowTimeout (mem : Fin 3)
  /-- TOUCH_SCAN (R506). A scan period ends with each electrode measured and deltas, suppression and debounce updated. -/
  | touchScan (g : Fin 8) (raws : List Half)
  /-- TOUCH_PRESS (R507). A control's debounce run of presses completes and a PRESS report is formed. -/
  | touchPress (g : Fin 8) (c : Fin 12)
  /-- TOUCH_RELEASE (R507). A control's debounce run of releases completes and a RELEASE report is formed. -/
  | touchRelease (g : Fin 8) (c : Fin 12)
  /-- TOUCH_BASELINE_DONE (R510). 16 scans of acquisition end and the baseline is set with a BASELINE report. -/
  | touchBaselineDone (g : Fin 8)
  /-- TOUCH_FOLLOW (R511). Every FOLLOW scans the baseline follower moves baselines one count. -/
  | touchFollow (g : Fin 8)
  /-- TOUCH_NEG_REACQ (R512). Delta below minus NEG_TH in 8 scans restarts baseline acquisition. -/
  | touchNegReacq (g : Fin 8) (e : Fin 12)
  /-- TOUCH_STUCK (R514). A control pressed for STUCK_S is released with STUCK and reacquired. -/
  | touchStuck (g : Fin 8) (c : Fin 12)
  /-- TOUCH_ELECTRODE_FAULT (R515). 8 scans below OPEN_MIN or at 0xFFFF mark an electrode open or short. -/
  | touchElectrodeFault (g : Fin 8) (e : Fin 12)
  /-- TOUCH_RATE_STEP (R517). An idle timeout steps the scan rate down. -/
  | touchRateStep
  /-- HAP_BOOT_DONE (R533). Bootstrap charge and rest check end and drive begins. -/
  | hapBootDone (n : Fin 8) (x : BitVec 12)
  /-- HAP_SENSE_WINDOW (R529). A sense window around a zero crossing updates the half period and residual amplitude. -/
  | hapSenseWindow (n : Fin 8) (s0 s1 s2 s3 : BitVec 12) (rising : Bool)
  /-- HAP_OPEN_FAULT (R537). Residual amplitude below OPEN_MIN in 4 windows puts the channel in FAULT. -/
  | hapOpenFault (n : Fin 8)
  /-- HAP_UNLOCK (R530). T clamped for 8 windows sets UNLOCK. -/
  | hapUnlock (n : Fin 8)
  /-- HAP_SEGMENT_END (R533). A drive segment's cycles end and the next segment, gap or braking begins. -/
  | hapSegmentEnd (n : Fin 8)
  /-- HAP_GAP_END (R531). An effect gap's time passes and the next drive segment starts. -/
  | hapGapEnd (n : Fin 8)
  /-- HAP_BRAKE_END (R533). Residual below BRAKE_TH in two windows ends braking, completes the effect and starts a latched trigger. -/
  | hapBrakeEnd (n : Fin 8)
  /-- HAP_BRAKE_TIMEOUT (R534). 10 ms in braking ends it with BRAKE_TO. -/
  | hapBrakeTimeout (n : Fin 8)
  /-- AUD_SAMPLE (R544). Each 48 kHz sample period the mixer computes every output through gains, EQ, chimes, limiter and delay. -/
  | audSample (pins : AudioPins) (rings : List (Nat × List Byte)) (now : DWord)
  /-- AUD_RAMP_END (R545). A gain or cross-point ramp reaches its end and any following ramp begins. -/
  | audRampEnd
  /-- CHIME_BLOCK (R557). A 1 ms chime block boundary starts, stops or advances chimes. -/
  | chimeBlock
  /-- AUD_OUT_MAP_WRITE (R553). A write of AUD_OUTj_MAP ramps the output to silence, changes the map and ramps up. -/
  | audOutMapWrite (j : Fin 16) (a : Access)
  /-- TDM_SLIP (R552). A slave TDM frame more than 2 % early or late is repeated or dropped. -/
  | tdmSlip (p : Fin 4) (again : Bool)
  /-- AUD_STREAM_POS (R554). After every 48 frames the consumed position is written to POS_ADDR. -/
  | audStreamPos (k : Fin 16) (other : Word)
  /-- AUD_PLL_UNLOCK (R559). The audio path cannot play and safety chimes move to the TDM0 bypass. -/
  | audPllUnlock
  /-- AVTP_PACKET_RX (R555). An AVTP packet arrives for a listener and its samples are queued or dropped late. -/
  | avtpPacketRx (p : Fin 4) (stream pres now : DWord) (frames : List (List Word))
  /-- AVTP_PACKET_TX (R577). A talker sends one AVTP packet of 6 frames. -/
  | avtpPacketTx (stream : DWord)
  /-- PCIE_FLR (R567). Function Level Reset resets a port's configuration and MSI-X and holds its requests. -/
  | pcieFlr (p : Fin 2)
  /-- PCIE_HOLD_START (R566). Link down, BME 0, PASID Enable 0 or D3hot holds the port's memory requests. -/
  | pcieHoldStart (p : Fin 2) (c : HoldCause)
  /-- PCIE_HOLD_END (R566). The hold condition ends and held writes are issued in order. -/
  | pcieHoldEnd (p : Fin 2) (c : HoldCause) (width : Fin 16) (speed : Fin 8)
  /-- PCIE_PERST (R706). PERST_N low takes the port link-down and resets it. -/
  | pciePerst (p : Fin 2)
  /-- PCIE_CPL_ERROR (R568). An error or poisoned completion answers a device read. -/
  | pcieCplError (n : Fin 16) (r : HostRead)
  /-- PCIE_CPL_TIMEOUT (R568). No completion within 50 ms for a device read. -/
  | pcieCplTimeout (n : Fin 16) (r : HostRead)
  /-- FETCH_RETRY (R568). 1 ms after a failed billet fetch the fetch is retried. -/
  | fetchRetry (n : Fin 16)
  /-- MSIX_UNMASK (R570). Unmasking an MSI-X entry sends its pending message. -/
  | msixUnmask (p : Fin 2) (e : Fin 64)
  /-- ARP_REQUEST (R573). A broadcast ARP request for NET_IP is answered. -/
  | arpRequest (p : Fin 4) (vlan : BitVec 12) (target : Word) (mac : BitVec 48) (ip : Word)
  /-- ICMP_ECHO (R573). An ICMP echo request to NET_IP is answered. -/
  | icmpEcho (p : Fin 4) (vlan : BitVec 12) (target : Word) (mac : BitVec 48) (ip : Word) (data : List Byte)
  /-- GPTP_SYNC (R576). A gPTP Sync updates the offset and lock state. -/
  | gptpSync (p : Fin 4) (now : DWord) (offset : Word)
  /-- GPTP_SYNC_TIMEOUT (R576). No Sync for 3 s clears gPTP lock. -/
  | gptpSyncTimeout (gm : Bool)
  /-- ETH_LINK_CHANGE (R571). An external port's USXGMII link comes up, goes down or changes speed. -/
  | ethLinkChange (p : Fin 4) (rate : Fin 5)
  /-- GATE_CYCLE_START (R144). A gate control cycle starts and a loaded list takes over at or after BASE_NS. -/
  | gateCycleStart (p : Fin 4) (now : DWord)
  /-- MDIO_C22_READ (R580). NET_MDIO GO with OP 0 performs a Clause 22 read. -/
  | mdioC22Read (a : Access)
  /-- MDIO_C22_WRITE (R580). NET_MDIO GO with OP 1 performs a Clause 22 write. -/
  | mdioC22Write (a : Access)
  /-- MDIO_C45_ADDRESS (R580). NET_MDIO GO with OP 2 performs a Clause 45 address frame. -/
  | mdioC45Address (a : Access)
  /-- MDIO_C45_WRITE (R580). NET_MDIO GO with OP 2 and C45_WR performs a Clause 45 write. -/
  | mdioC45Write (a : Access)
  /-- MDIO_C45_READ (R580). NET_MDIO GO with OP 3 performs a Clause 45 read. -/
  | mdioC45Read (a : Access)
  /-- MDIO_DONE (R580). An MDIO transaction ends and BUSY clears. -/
  | mdioDone (v : BitVec 16)
  /-- MBX_SEND (R588). A write of TX3 commits a message or ORs a doorbell value into a channel. -/
  | mbxSend (k : Fin 32) (a : Access)
  /-- MBX_RECEIVE (R588). A read of RX3 returns word 3 and removes the message or clears the doorbell word. -/
  | mbxReceive (k : Fin 32) (a : Access)
  /-- MBX_LOCK (R587). The write-once MBX_LOCK locks the channel table. -/
  | mbxLock (a : Access)
  /-- LCK_ACQ (R582). LCK_k_REQ ACQ takes a free lock or records a waiting request. -/
  | lckAcq (k : Fin 64) (a : Access)
  /-- LCK_TRY (R582). LCK_k_REQ TRY takes a free lock without waiting. -/
  | lckTry (k : Fin 64) (a : Access)
  /-- LCK_REL (R582). LCK_k_REQ REL frees a held lock or counts a bad release. -/
  | lckRel (k : Fin 64) (a : Access)
  /-- LCK_CANCEL (R582). LCK_k_REQ CANCEL removes the writer's waiting request. -/
  | lckCancel (k : Fin 64) (a : Access)
  /-- CRC_START (R601). CTRL.START sets a unit's register to INIT and folds. -/
  | crcStart (k : Fin 8) (a : Access)
  /-- CRC_FOLD (R600). CTRL.FOLD feeds the address or sequence fold value. -/
  | crcFold (k : Fin 8) (a : Access)
  /-- CRC_DATA (R601). A write to CRC_Uk_DATA feeds its enabled bytes. -/
  | crcData (k : Fin 8) (a : Access)
  /-- CFG_OPEN (R622). CFG_CTRL.OPEN opens a configuration window, stopping passes. -/
  | cfgOpen (a : Access)
  /-- CFG_COMMIT (R621). CFG_CTRL.COMMIT commits every block reference from register values and closes the window. -/
  | cfgCommit (a : Access)
  /-- CFG_OPEN_TIMEOUT (R622). A window open for OPEN_MAX_MS closes without commit. -/
  | cfgOpenTimeout
  /-- CFG_PASS (R623). Every PERIOD_MS Hearth recomputes block CRCs of the covered set and compares them. -/
  | cfgPass (stuck refErr : BitVec 35)
  /-- CFG_RESTORE_TIMEOUT (R624). Knaby has not begun a restore within 50 ms and FAULT_N is asserted. -/
  | cfgRestoreTimeout
  /-- SLG_ACC_WRITE (R618). A W1C write to SLG_ACC clears flags and, when all clear, COUNT, MASTER and address. -/
  | slgAccWrite (a : Access)
  /-- REGISTER_WRITE (R615). A write to a register without a row of its own is judged and taken field by field. -/
  | registerWrite (off : BitVec 26) (a : Access)
  /-- GLB_SNAP_TRIG (R30). A read of GLB_SNAP_TRIG captures every snapshot field in one FAB cycle. -/
  | glbSnapTrig (a : Access)
  /-- KNABY_WATCHDOG (R638). A Knaby watchdog expires and Hearth restarts Knaby or escalates. -/
  | knabyWatchdog (core : Fin 2)
  /-- QUENCH_OVERDUE (R638). A quench passes its bound and Hearth restarts Knaby. -/
  | quenchOverdue (n : Fin 16)
  /-- LOCKSTEP_MISMATCH (R645). The Hearth cores disagree, FAULT_N is held, the heartbeat stops and Hearth restarts. -/
  | lockstepMismatch
  /-- HEARTH_RESUME (R645). Hearth resumes after a restart, makes held entries and drives its outputs again. -/
  | hearthResume
  /-- CLOCK_MONITOR (R637). Each 10 us window the clocks are counted and a stopped or deviant clock trips. -/
  | clockMonitor (refclk hrt : Bool) (bad : BitVec 16)
  /-- SUPPLY_TRIP (R637). A supply leaves its window and a POWER entry is made. -/
  | supplyTrip (bad : BitVec 12)
  /-- TEMP_POLL (R637). Every 1 ms the junction sensors are read and overtemperature recorded. -/
  | tempPoll (t0 t1 t2 t3 : Int)
  /-- POWER_ON_RESET (R656). Always-on supplies come up and the device runs full start-up to the seal. -/
  | powerOnReset (e : BootEnv) (pg : Bool)
  /-- RESET_N (R647). RESET_N held low resets everything except the Slag log and reruns start-up. -/
  | resetN
  /-- WARM_N (R647). A WARM_N low pulse of 200 ns or more starts a warm reset. -/
  | warmN
  /-- RST_CTRL_KNABY (R660). A write of RST_CTRL.KNABY schedules a Knaby restart 10 us later. -/
  | rstCtrlKnaby (a : Access)
  /-- RST_CTRL_WARM (R660). A write of RST_CTRL.WARM schedules a warm reset 10 us later. -/
  | rstCtrlWarm (a : Access)
  /-- KNABY_RESTART (R638). The Knaby cores restart and reattach OPEN journal entries. -/
  | knabyRestart
  /-- WARM_RESET (R650). The main domain is reset with DRAM in self-refresh, then restored and sealed again. -/
  | warmReset (e : BootEnv)
  /-- BLOCK_RESET (R649). A write of RST_BLK resets one block and re-issues its OPEN.ISSUED entries. -/
  | blockReset (a : Access)
  /-- AVS_TARGET (R690). Every 100 ms Hearth computes a new VDD_CORE target. -/
  | avsTarget (t : Fin 35)
  /-- AVS_STEP (R690). Every 10 us Hearth moves the rail 5 mV towards the target over AVSBus. -/
  | avsStep (ack : Bool) (read : BitVec 10)
  /-- MAIN_PG_TIMEOUT (R691). MAIN_PG not high within 50 ms of MAIN_EN makes Hearth cycle MAIN_EN. -/
  | mainPgTimeout
  /-- MAIN_PG_FALL (R692). MAIN_PG falls while MAIN_EN is high and the device is held as by RESET_N. -/
  | mainPgFall
  /-- WAKE_EVENT (R668). An enabled wake source fires and the device leaves its Bellows state. -/
  | wakeEvent (mask : BitVec 6) (group : Fin 8)
  /-- DAMP_LINKS_READY (R667). Every enabled output reaches self-refresh and DAMP entry continues. -/
  | dampLinksReady
  /-- POWER_EXIT_DONE (R663). Supplies, clocks and PLLs of the state are stable and BLW_STAT reads RUN. -/
  | powerExitDone
  /-- POWER_RESTORE_DONE (R672). The restore after leaving a state ends and RESTORING clears. -/
  | powerRestoreDone (e : BootEnv)
  /-- SCANOUT_UNDERRUN (R290). An output's scan-out FIFO runs empty mid-frame, so missing pixels go to the Hardy stage as 0, UNDERRUN is set and a Slag entry is made. -/
  | scanoutUnderrun (n : Fin 8)
  /-- SCANOUT_READ_ERROR (R313). A front-buffer or live Hardy plane read by scan-out finds an uncorrectable Anvil word and substitutes it, with counters, mismatch verdict and a Slag entry. -/
  | scanoutReadError (n : Fin 8) (plane : Bool) (off : BitVec 26)
  /-- TKO_CONFIRM (R449). 20 us after heartbeat loss is detected, or earlier if ULX_TKO_IN falls, the device takes over, declares the partner lost, or sets HB_FAULT and asserts FAULT_N. -/
  | tkoConfirm (tko : Bool)
  /-- ULX_LATENCY_MEASURE (R428). Every 1 ms the Ulinex one-way latency is measured and ULX_LAT updated, which corrects the partner's genlock reference times. -/
  | ulxLatencyMeasure (lat : Half)
  /-- AUD_PLL_LOCK (R559). The audio PLL regains lock, and safety chimes playing on the bypass return to the normal path at the next block boundary. -/
  | audPllLock
  /-- RESET_N_RELEASE (R656). RESET_N returns high and start-up begins at step 1 of R656. -/
  | resetNRelease (e : BootEnv)
  /-- WARM_N_RELEASE (R650). WARM_N returns high and the main domain is released from a warm reset at step 3 of R650. -/
  | warmNRelease (e : BootEnv)
  /-- MAIN_PG_RISE (R691). MAIN_PG goes high with the main rails in tolerance, so start-up proceeds after 1 ms or a MAIN_PG-fall reset hold ends. -/
  | mainPgRise (e : BootEnv)
  /-- JTAG_RAW_ACCESS (R498). A raw memory access through the IEEE 1149.1 port reaches Hearth RAM on port B without re-issue, setting DBG_BUSY when it collides. -/
  | jtagRawAccess (word : Fin 32768) (wr : Bool) (portA : PortA)
  /-- ETH_FRAME_RX (R572). A frame arriving at a switch port is VLAN-bridged, learned and forwarded, or dropped and counted when the switch does not support it or the internal port does not accept it. -/
  | ethFrameRx (p : Fin 4) (f : EthFrame)
  deriving DecidableEq, Repr

end Sys2Proof
end

