-- ==== Sys2Proof/Config.lean ====
section
/-! DEFINITION. Free values: what the manual leaves open and the machine still produces. None has a body; a statement
about one holds whatever it is. Each is applied to the operands it depends on or to the state's counter of draws. -/
namespace Sys2Proof.Config

/-- Byte `i` of undefined contents number `seed`: a surface created without CLEAR (R99), power-on DRAM (R648). -/
opaque undefByte (seed i : Nat) : Byte
/-- An undefined 32-bit word: draw number `seed`, word `i`. -/
opaque undefWord (seed i : Nat) : Word
/-- The trained value of a delay or Vref step, by its DRC_T_DLY index and the drift adjustments made since (R484, R488). -/
opaque trainedDelay (idx : Nat) (drift : Int) : Half
/-- A 32-bit word of Hearth RAM as a raw access finds it: the manual gives no layout (R498). -/
opaque hearthWord (seed word : Nat) : Word
/-- The trim that a genlock step of output `n` asks for at phase error `ns`, from the present trim, in 0.001 ppm (R308). -/
opaque pllTrim (n : Nat) (ns trim : Int) : Int
/-- Which of several contents a slice's cache window returns (R386): 0 the present one. -/
opaque cachePick (seed : Nat) : Nat

/-- A sample of a chime's tone as the ROM holds it (R556): the phase and the rounding are not given. -/
opaque chimeRom (chime sample : Nat) : Int
/-- The gain factor of a Q8.8 value that the ROM table of R542 does not hold. -/
opaque romGain (q : Int) : Nat
/-- Whether a ramp of `r` tenths of a millisecond takes the next whole sample where 4.8 r is not whole (R545). -/
opaque rampUp (r : Nat) : Bool
/-- A sample behind the 160:147 resampler, whose coefficients are not given (R541). -/
opaque resampled (seed port slot : Nat) : Word

/-- A 64-bit slot value of which the manual states only a part, or nothing (R63, R68). -/
opaque slotValue (seed : Nat) : DWord

end Sys2Proof.Config
end

