-- ==== Sys2Proof/Machine/AudioMath.lean ====
section
/-! DEFINITION. The arithmetic of the mixer: gain factors (R542), ramps (R545, R546), biquads (R547), the limiter (R548),
the microphone filters (R551), sample formats (R552, R555) and chimes (R556). -/
namespace Sys2Proof.Machine

/-- Saturation to 32 signed bits (R542). -/
def sat32 (v : Int) : Int := clampI (-2147483648) 2147483647 v

/-- A sample with a flag that saturation has acted since the flag was set (AUD_STAT.CLIP). -/
abbrev Clip := Bool × Int

/-- sat32 of a value computed from a sample. -/
def Clip.sat (c : Clip) (v : Int) : Clip := (c.1 || sat32 v != v, sat32 v)

/-- Arithmetic shift right. -/
def asr (v : Int) (n : Nat) : Int := v / 2 ^ n

/-- The largest number below 2^k that passes a test which all smaller numbers pass. -/
def largest (test : Nat → Bool) : Nat → Nat → Nat
  | 0, n => n
  | k + 1, n => largest test k (if test (n + 2 ^ k) then n + 2 ^ k else n)

/-- round(a × 10^(q / 5120)), ties away from zero, for a result below 2^34. -/
def expDb (a : Nat) (q : Int) : Nat :=
  let g := Nat.gcd q.natAbs 5120
  let d := 5120 / g
  let k := q.natAbs / g
  let up := if 0 ≤ q then 10 ^ k else 1
  let dn := if 0 ≤ q then 1 else 10 ^ k
  largest (fun n => (2 * n - 1) ^ d * dn ≤ (2 * a) ^ d * up) 34 0

/-- G(q) (R542). -/
def gainG (q : Int) : Nat :=
  if q = 0 then 16777216
  else if -24576 ≤ q ∧ q ≤ 3072 then expDb 16777216 q
  else Config.romGain q

/-- exp(−num / den) in units of 2^-96, by its power series: `k` terms from the term `t` of number `i`. -/
def expTerms (num den : Nat) : Nat → Nat → Nat → Int
  | 0, _, _ => 0
  | k + 1, i, t => (t : Int) - expTerms num den k (i + 1) (t * num / (den * (i + 1)))

/-- round(2^31 × (1 − exp(−num / den))) for num / den at most 2.1. DEDUCED: the series is exact far below the rounding;
over every ATTACK_US and RELEASE_MS it gives the correctly rounded number. -/
def coefOf (num den : Nat) : Nat :=
  (((2 ^ 96 - expTerms num den 40 0 (2 ^ 96)) * 2 ^ 31 + 2 ^ 95) / 2 ^ 96).toNat

/-! ## Ramps -/

/-- q_k of a ramp (R545). -/
def GainRamp.value (r : GainRamp) : Int := r.q0 + ((r.q1 - r.q0) * min r.k r.n).tdiv r.n

/-- The present value of a gain within its ramp; none for off. -/
def Gain.now (g : Gain) : Option Int :=
  match g.ramp with
  | none => g.q
  | some r => if r.toOff && r.n < r.k then none else some r.value

/-- The present factor. -/
def Gain.factor (g : Gain) : Nat :=
  match g.now with
  | some q => gainG q
  | none => 0

/-- One sample of the ramp is played. -/
def Gain.tick (g : Gain) : Gain := { g with ramp := g.ramp.map (fun r => { r with k := min (r.k + 1) (r.n + 1) }) }

/-- The value that stands for off at an end of a ramp. -/
def offDb : Int := -24576

/-- Starts a ramp from the present value (R545). -/
def Gain.rampTo (g : Gain) (goal : Option Int) (n : Nat) (next : Option (Int × Nat)) (src : Option (Nat × Word)) : Gain :=
  { g with ramp := some ⟨g.now.getD offDb, goal.getD offDb, n, 0, goal.isNone, next, src⟩ }

/-- The last sample of the ramp has been played. -/
def Gain.ended (g : Gain) : Bool :=
  match g.ramp with
  | some r => r.n < r.k
  | none => false

/-- The ramp ends, and a following ramp from off begins. -/
def Gain.endRamp (g : Gain) : Gain :=
  match g.ramp with
  | none => g
  | some r =>
    let g' : Gain := ⟨if r.toOff then none else some r.q1, none⟩
    match r.next with
    | some (q, n) => g'.rampTo (some q) n none r.src
    | none => g'

/-- The billet that completes when this ramp ends. -/
def Gain.doneSrc (g : Gain) : Option (Nat × Word) :=
  match g.ramp with
  | some r => if r.next.isNone then r.src else none
  | none => none

/-- Samples of `r` tenths of a millisecond: 4.8 r (R545). Where that is not whole the manual states no number. -/
def rampSamples (r : Nat) : Nat := r * 24 / 5 + (if r * 24 % 5 = 0 then 0 else b2n (Config.rampUp r))

/-! ## Filters -/

/-- (v × factor + 2^23) >> 24, saturated (R544). -/
def scaleSat (c : Clip) (f : Nat) : Clip := if c.2 = 0 then c else c.sat (asr (c.2 * f + 8388608) 24)

/-- One sample through a section (R547). -/
def Biquad.run (q : Biquad) (c : Clip) : Biquad × Clip :=
  let x := c.2
  let y := c.sat (asr (q.b0 * x + q.b1 * q.x1 + q.b2 * q.x2 - q.a1 * q.y1 - q.a2 * q.y2 + 536870912) 30)
  ({ q with x2 := q.x1, x1 := x, y2 := q.y1, y1 := y.2 }, y)

/-- A sample through sections in order. -/
def runEq : List Biquad → Clip → List Biquad × Clip
  | [], c => ([], c)
  | q :: qs, c =>
    let r := q.run c
    let t := runEq qs r.2
    (r.1 :: t.1, t.2)

/-- The limiter (R548): the new envelope and the sample. -/
def limitStep (limit : Int) (attackUs releaseMs env : Nat) (v : Int) : Nat × Int :=
  let p := min v.natAbs 2147483647
  let env := if p = env then env
    else if env < p then env + (p - env) * coefOf 125 (6 * attackUs) / 2 ^ 31
    else env - (env - p) * coefOf 1 (48 * releaseMs) / 2 ^ 31
  let lv := if limit = 0 then 2147483647 else expDb 2147483647 limit
  (env, if lv < env then asr (v * ((lv * 2 ^ 31 / env : Nat) : Int)) 31 else v)

/-- A microphone's filters (R551). -/
def Mic.run (m : Mic) (wind : Bool) (c : Clip) : Mic × Clip :=
  let y := c.sat (c.2 - m.x1 + asr (2141861549 * m.y1 + 1073741824) 31)
  let m := { m with x1 := c.2, y1 := y.2 }
  if wind then
    let r := m.wind.run y
    ({ m with wind := r.1 }, r.2)
  else (m, y)

/-! ## Formats -/

/-- A source of width `w` as a sample (R542). -/
def sampleOf (w v : Nat) : Int := sgn w v * 2 ^ (32 - w)

/-- A sample rounded to nearest and saturated to a width (R552). -/
def toWidth (w : Nat) (v : Int) : Int :=
  if w ≥ 32 then v else clampI (-2 ^ (w - 1)) (2 ^ (w - 1) - 1) (asr (v + 2 ^ (31 - w)) (32 - w))

/-- Bits of a TDM slot's data (R561). -/
def tdmWidth (code : Nat) : Nat := if code = 0 then 16 else if code = 1 then 24 else 32
/-- Bits of a sample of an AAF format code, or of a guest stream's (R131, R141). -/
def fmtWidth (code : Nat) : Nat := if code = 0 then 16 else if code = 1 then 24 else 32
/-- Bytes of a sample in a guest stream's ring. -/
def ringBytes (code : Nat) : Nat := if code = 0 then 2 else 4

/-! ## Chimes -/

/-- Length of one repeat and its period in ms, by family (R556). -/
def chimeTimes (f : Nat) : Nat × Nat :=
  match f with
  | 0 => (150, 1000)
  | 1 => (320, 1000)
  | 2 => (480, 1500)
  | 3 => (800, 2000)
  | 4 => (400, 1500)
  | 5 => (400, 1500)
  | 6 => (1000, 1500)
  | _ => (600, 600)

/-- Whether a tone sounds at ms `t` of a repeat. -/
def chimeTone (f t : Nat) : Bool :=
  match f with
  | 1 => t < 120 || (200 ≤ t && t < 320)
  | 2 => t < 480 && t % 160 < 100
  | 7 => t < 600 && t % 120 < 80
  | _ => decide (t < (chimeTimes f).1)

/-- Sample `pos` of a repeat of chime `c`: 0 in silence, a tone within its peak amplitude otherwise (R556). -/
def chimeSample (c pos : Nat) : Int :=
  if chimeTone (c / 8) (pos / 48) then clampI (-1073741824) 1073741824 (Config.chimeRom c pos) else 0

end Sys2Proof.Machine
end

