-- ==== Sys2Proof/Machine/Crc.lean ====
section
/-! DEFINITION. Cyclic redundancy checks: the general bit-serial register of R599 and the CRC-32C of R41. -/
namespace Sys2Proof.Machine

/-- The `w` low bits of `x` in reverse order. -/
def reflect : Nat → Nat → Nat
  | 0, _ => 0
  | w + 1, x => (x % 2) * 2 ^ w + reflect w (x / 2)

/-- One bit fed to a CRC register of width `w`, most significant bit first (R599). -/
def crcBit (w poly r : Nat) (b : Bool) : Nat :=
  let top := r.testBit (w - 1) != b
  let r' := (2 * r) % 2 ^ w
  if top then r' ^^^ (poly % 2 ^ w) else r'

/-- Eight bits of a byte fed, bit 7 first. -/
def crcByte (w poly r byte : Nat) : Nat :=
  [7, 6, 5, 4, 3, 2, 1, 0].foldl (fun a i => crcBit w poly a (byte.testBit i)) r

/-- The polynomial of CRC-32C (R41). -/
def poly32C : Nat := 0x1EDC6F41

/-- Polynomial of CRC-32C with its bits reversed. -/
def poly32CR : Nat := 0x82F63B78

/-- One right shift of the reflected CRC-32C register. -/
def crcStepR (r : Nat) : Nat := if r % 2 = 1 then (r / 2) ^^^ poly32CR else r / 2

/-- One byte fed to the reflected CRC-32C register. -/
def crc32cByte (r : Nat) (b : Byte) : Nat :=
  crcStepR (crcStepR (crcStepR (crcStepR (crcStepR (crcStepR (crcStepR (crcStepR (r ^^^ b.toNat))))))))

/-- The reflected CRC-32C register after the bytes of `l`. -/
def crc32cRun (r : Nat) (l : List Byte) : Nat := l.foldl crc32cByte r

/-- CRC-32C with the parameters of R41 over a byte list. -/
def crc32c (l : List Byte) : Word := BitVec.ofNat 32 (crc32cRun 0xFFFFFFFF l ^^^ 0xFFFFFFFF)

end Sys2Proof.Machine
end

