-- ==== Sys2Proof/Machine/Regs.lean ====
section
/-! DEFINITION. The register map of BAR0 above the slice windows: one row per register of the spec's register
tables, with the type, class and reset value of every field (R9, R10, R13), and the stored register file. -/
namespace Sys2Proof.Machine

/-- Field types of R9. -/
inductive RegTy where
  | ro | rw | wo | w1c | w1s | wl | w1 | rsv
  deriving DecidableEq, Repr

/-- Field classes of R10; `none` for reserved fields. -/
inductive RegCls where
  | c | s | d | status | none
  deriving DecidableEq, Repr

/-- What a written value is taken as, where a field table says "taken as" or "clamped". -/
inductive Norm where
  | none
  | atLeast (n : Nat)
  | clamp (lo hi : Nat)
  | threeAs (v : Nat)
  /-- CRC_Uk_OWNER: 0, 1, 2 and 16 to 31; every other value is taken as 0x10. -/
  | owner
  deriving DecidableEq, Repr

/-- The value taken for a written `x`. -/
def Norm.apply : Norm → Nat → Nat
  | .none, x => x
  | .atLeast n, x => max n x
  | .clamp lo hi, x => clampN lo hi x
  | .threeAs v, x => if x = 3 then v else x
  | .owner, x => if x ≤ 2 || (16 ≤ x && x ≤ 31) then x else 16

/-- Which enable governs the class C fields of a register (R616); `sealed` and `none` are sealed at the seal. -/
inductive EnSel where
  | none | sealed | cfgCheck | scn | tset | scrub | drc | ulx | aud | tdm | tch | hap | net | ptp | netPort | crc
  deriving DecidableEq, Repr

/-- One field of a register: low bit, width, type, class, reset value, written values taken as others. -/
structure RegField where
  lo : Nat
  w : Nat
  ty : RegTy
  cls : RegCls
  rst : Nat
  norm : Norm
  deriving DecidableEq, Repr

/-- One register row: base, two strides with their counts, the enable of its class C fields, its fields. -/
structure RegRow where
  base : Nat
  s1 : Nat
  n1 : Nat
  s2 : Nat
  n2 : Nat
  en : EnSel
  fields : List RegField
  deriving DecidableEq, Repr

/-! The BAR0 offsets, under the manual's names. -/
namespace R
/-- GLB_SNAP_TRIG. -/
def GLB_SNAP_TRIG : Nat := 0x100040
/-- GLB_SNAP_SEQ. -/
def GLB_SNAP_SEQ : Nat := 0x100044
/-- GLB_SNAP. -/
def GLB_SNAP (n : Nat) : Nat := 0x100100 + 0x4 * n
/-- GLB_PCIn_STAT. -/
def GLB_PCI_STAT (n : Nat) : Nat := 0x100200 + 0x10 * n
/-- GLB_PCIn_ERR. -/
def GLB_PCI_ERR (n : Nat) : Nat := 0x100204 + 0x10 * n
/-- BLW_STAT. -/
def BLW_STAT : Nat := 0x101000
/-- BLW_SRC. -/
def BLW_SRC : Nat := 0x101004
/-- BLW_ALARM_LO. -/
def BLW_ALARM_LO : Nat := 0x101008
/-- BLW_ALARM_HI. -/
def BLW_ALARM_HI : Nat := 0x10100c
/-- BLW_WAKE. -/
def BLW_WAKE : Nat := 0x101010
/-- BLW_RES. -/
def BLW_RES : Nat := 0x101014
/-- RST_CTRL. -/
def RST_CTRL : Nat := 0x102000
/-- RST_BLK. -/
def RST_BLK : Nat := 0x102004
/-- RST_STAT. -/
def RST_STAT : Nat := 0x102008
/-- SLG_STAT. -/
def SLG_STAT : Nat := 0x103000
/-- SLG_STICKY. -/
def SLG_STICKY : Nat := 0x103004
/-- SLG_FAULT. -/
def SLG_FAULT : Nat := 0x10300c
/-- SLG_FIRST_LO. -/
def SLG_FIRST_LO : Nat := 0x103010
/-- SLG_FIRST_HI. -/
def SLG_FIRST_HI : Nat := 0x103014
/-- SLG_LAST_LO. -/
def SLG_LAST_LO : Nat := 0x103018
/-- SLG_LAST_HI. -/
def SLG_LAST_HI : Nat := 0x10301c
/-- SLG_IDX. -/
def SLG_IDX : Nat := 0x103020
/-- SLG_ENT_LO. -/
def SLG_ENT_LO : Nat := 0x103024
/-- SLG_ENT_HI. -/
def SLG_ENT_HI : Nat := 0x103028
/-- SLG_RESETS. -/
def SLG_RESETS : Nat := 0x10302c
/-- SLG_ACC. -/
def SLG_ACC : Nat := 0x103040
/-- SLG_ACC_ADDR. -/
def SLG_ACC_ADDR : Nat := 0x103044
/-- SLG_FMASK. -/
def SLG_FMASK : Nat := 0x103008
/-- CFG_CTRL. -/
def CFG_CTRL : Nat := 0x104000
/-- CFG_PERIOD. -/
def CFG_PERIOD : Nat := 0x104004
/-- CFG_STAT. -/
def CFG_STAT : Nat := 0x104008
/-- CFG_RUN. -/
def CFG_RUN : Nat := 0x10400c
/-- CFG_REF. -/
def CFG_REF : Nat := 0x104010
/-- CFG_MISMATCH_LO. -/
def CFG_MISMATCH_LO : Nat := 0x104014
/-- CFG_MISMATCH_HI. -/
def CFG_MISMATCH_HI : Nat := 0x104018
/-- CFG_BLKk_REF. -/
def CFG_BLK_REF (n : Nat) : Nat := 0x104100 + 0x4 * n
/-- SCN_OUTn_STAT. -/
def SCN_OUT_STAT (n : Nat) : Nat := 0x110000 + 0x1000 * n
/-- SCN_OUTn_LINE. -/
def SCN_OUT_LINE (n : Nat) : Nat := 0x110004 + 0x1000 * n
/-- SCN_OUTn_FRAME. -/
def SCN_OUT_FRAME (n : Nat) : Nat := 0x110008 + 0x1000 * n
/-- SCN_OUTn_ALLOC. -/
def SCN_OUT_ALLOC (n : Nat) : Nat := 0x11000c + 0x1000 * n
/-- SCN_OUTn_GEOM. -/
def SCN_OUT_GEOM (n : Nat) : Nat := 0x110010 + 0x1000 * n
/-- SCN_OUTn_UE. -/
def SCN_OUT_UE (n : Nat) : Nat := 0x110014 + 0x1000 * n
/-- SCN_OUTn_GMAPj. -/
def SCN_OUT_GMAP (n k : Nat) : Nat := 0x110020 + 0x1000 * n + 0x4 * k
/-- SCN_OUTn_GL_CFG. -/
def SCN_OUT_GL_CFG (n : Nat) : Nat := 0x110180 + 0x1000 * n
/-- SCN_OUTn_GL_BASE_LO. -/
def SCN_OUT_GL_BASE_LO (n : Nat) : Nat := 0x110184 + 0x1000 * n
/-- SCN_OUTn_GL_BASE_HI. -/
def SCN_OUT_GL_BASE_HI (n : Nat) : Nat := 0x110188 + 0x1000 * n
/-- SCN_OUTn_GL_ERR. -/
def SCN_OUT_GL_ERR (n : Nat) : Nat := 0x11018c + 0x1000 * n
/-- SCN_OUTn_GL_TRIM. -/
def SCN_OUT_GL_TRIM (n : Nat) : Nat := 0x110190 + 0x1000 * n
/-- SCN_OUTn_BL_CFG. -/
def SCN_OUT_BL_CFG (n : Nat) : Nat := 0x1101c0 + 0x1000 * n
/-- SCN_OUTn_BL_DUTY. -/
def SCN_OUT_BL_DUTY (n : Nat) : Nat := 0x1101c4 + 0x1000 * n
/-- SCN_OUTn_LNK_CFG. -/
def SCN_OUT_LNK_CFG (n : Nat) : Nat := 0x110200 + 0x1000 * n
/-- SCN_OUTn_LNK_OPT. -/
def SCN_OUT_LNK_OPT (n : Nat) : Nat := 0x110204 + 0x1000 * n
/-- SCN_OUTn_LNK_STAT. -/
def SCN_OUT_LNK_STAT (n : Nat) : Nat := 0x110208 + 0x1000 * n
/-- SCN_OUTn_LNK_FRAMES. -/
def SCN_OUT_LNK_FRAMES (n : Nat) : Nat := 0x11020c + 0x1000 * n
/-- SCN_OUTn_AUX_CMD. -/
def SCN_OUT_AUX_CMD (n : Nat) : Nat := 0x110210 + 0x1000 * n
/-- SCN_OUTn_AUX_STAT. -/
def SCN_OUT_AUX_STAT (n : Nat) : Nat := 0x110214 + 0x1000 * n
/-- SCN_OUTn_AUX_DATAk. -/
def SCN_OUT_AUX_DATA (n k : Nat) : Nat := 0x110218 + 0x1000 * n + 0x4 * k
/-- SCN_OUTn_DSI_HDR. -/
def SCN_OUT_DSI_HDR (n : Nat) : Nat := 0x110230 + 0x1000 * n
/-- SCN_OUTn_DSI_PAYk. -/
def SCN_OUT_DSI_PAY (n k : Nat) : Nat := 0x110240 + 0x1000 * n + 0x4 * k
/-- SCN_OUTn_DSI_STAT. -/
def SCN_OUT_DSI_STAT (n : Nat) : Nat := 0x110280 + 0x1000 * n
/-- SCN_OUTn_PSEQ0. -/
def SCN_OUT_PSEQ0 (n : Nat) : Nat := 0x1102e0 + 0x1000 * n
/-- SCN_OUTn_PSEQ1. -/
def SCN_OUT_PSEQ1 (n : Nat) : Nat := 0x1102e4 + 0x1000 * n
/-- SCN_OUTn_Ts_PCLK. -/
def SCN_OUT_T_PCLK (n k : Nat) : Nat := 0x110100 + 0x1000 * n + 0x20 * k
/-- SCN_OUTn_Ts_H0. -/
def SCN_OUT_T_H0 (n k : Nat) : Nat := 0x110104 + 0x1000 * n + 0x20 * k
/-- SCN_OUTn_Ts_H1. -/
def SCN_OUT_T_H1 (n k : Nat) : Nat := 0x110108 + 0x1000 * n + 0x20 * k
/-- SCN_OUTn_Ts_V0. -/
def SCN_OUT_T_V0 (n k : Nat) : Nat := 0x11010c + 0x1000 * n + 0x20 * k
/-- SCN_OUTn_Ts_V1. -/
def SCN_OUT_T_V1 (n k : Nat) : Nat := 0x110110 + 0x1000 * n + 0x20 * k
/-- SCN_OUTn_Ts_POL. -/
def SCN_OUT_T_POL (n k : Nat) : Nat := 0x110114 + 0x1000 * n + 0x20 * k
/-- SCN_OUTn_Ts_STAT. -/
def SCN_OUT_T_STAT (n k : Nat) : Nat := 0x110118 + 0x1000 * n + 0x20 * k
/-- CMP_ID. -/
def CMP_ID : Nat := 0x128000
/-- CMP_LIMIT. -/
def CMP_LIMIT : Nat := 0x128004
/-- CMP_LOAD. -/
def CMP_LOAD : Nat := 0x128008
/-- CMP_FETCH_BUDGET. -/
def CMP_FETCH_BUDGET : Nat := 0x12800c
/-- CMP_FETCH_LOAD. -/
def CMP_FETCH_LOAD : Nat := 0x128010
/-- CMP_ENG_FAIL. -/
def CMP_ENG_FAIL : Nat := 0x128014
/-- CMP_MISSES. -/
def CMP_MISSES : Nat := 0x128018
/-- CMP_LYRk_ASSIGN. -/
def CMP_LYR_ASSIGN (n : Nat) : Nat := 0x128400 + 0x20 * n
/-- CMP_LYRk_CTRL. -/
def CMP_LYR_CTRL (n : Nat) : Nat := 0x128404 + 0x20 * n
/-- CMP_LYRk_SRC_XY. -/
def CMP_LYR_SRC_XY (n : Nat) : Nat := 0x128408 + 0x20 * n
/-- CMP_LYRk_SRC_WH. -/
def CMP_LYR_SRC_WH (n : Nat) : Nat := 0x12840c + 0x20 * n
/-- CMP_LYRk_DST_XY. -/
def CMP_LYR_DST_XY (n : Nat) : Nat := 0x128410 + 0x20 * n
/-- CMP_LYRk_DST_WH. -/
def CMP_LYR_DST_WH (n : Nat) : Nat := 0x128414 + 0x20 * n
/-- CMP_LYRk_SURF. -/
def CMP_LYR_SURF (n : Nat) : Nat := 0x128418 + 0x20 * n
/-- CMP_LYRk_STAGE. -/
def CMP_LYR_STAGE (n : Nat) : Nat := 0x12841c + 0x20 * n
/-- CMP_OUTn_STAT. -/
def CMP_OUT_STAT (n : Nat) : Nat := 0x120000 + 0x1000 * n
/-- CMP_OUTn_FRAME. -/
def CMP_OUT_FRAME (n : Nat) : Nat := 0x120004 + 0x1000 * n
/-- CMP_OUTn_BG. -/
def CMP_OUT_BG (n : Nat) : Nat := 0x120008 + 0x1000 * n
/-- CMP_OUTn_PASS. -/
def CMP_OUT_PASS (n : Nat) : Nat := 0x12000c + 0x1000 * n
/-- CMP_OUTn_LOAD. -/
def CMP_OUT_LOAD (n : Nat) : Nat := 0x120010 + 0x1000 * n
/-- CMP_OUTn_FETCH. -/
def CMP_OUT_FETCH (n : Nat) : Nat := 0x120014 + 0x1000 * n
/-- CMP_OUTn_LAYERS_LO. -/
def CMP_OUT_LAYERS_LO (n : Nat) : Nat := 0x120018 + 0x1000 * n
/-- CMP_OUTn_LAYERS_HI. -/
def CMP_OUT_LAYERS_HI (n : Nat) : Nat := 0x12001c + 0x1000 * n
/-- CMP_OUTn_WB. -/
def CMP_OUT_WB (n : Nat) : Nat := 0x120020 + 0x1000 * n
/-- CMP_OUTn_WB_FRAME. -/
def CMP_OUT_WB_FRAME (n : Nat) : Nat := 0x120024 + 0x1000 * n
/-- CMP_OUTn_COMMITS. -/
def CMP_OUT_COMMITS (n : Nat) : Nat := 0x120028 + 0x1000 * n
/-- CMP_OUTn_CCTRL. -/
def CMP_OUT_CCTRL (n : Nat) : Nat := 0x120100 + 0x1000 * n
/-- CMP_OUTn_MATk. -/
def CMP_OUT_MAT (n k : Nat) : Nat := 0x120110 + 0x1000 * n + 0x4 * k
/-- CMP_OUTn_OFFk. -/
def CMP_OUT_OFF (n k : Nat) : Nat := 0x120134 + 0x1000 * n + 0x4 * k
/-- CMP_OUTn_LUT_IDX. -/
def CMP_OUT_LUT_IDX (n : Nat) : Nat := 0x120140 + 0x1000 * n
/-- CMP_OUTn_LUT_DATA. -/
def CMP_OUT_LUT_DATA (n : Nat) : Nat := 0x120144 + 0x1000 * n
/-- CMP_OUTn_CSTAT. -/
def CMP_OUT_CSTAT (n : Nat) : Nat := 0x120148 + 0x1000 * n
/-- SCL_k_STAT. -/
def SCL_STAT (n k : Nat) : Nat := 0x120800 + 0x1000 * n + 0x400 * k
/-- SCL_k_CIDX. -/
def SCL_CIDX (n k : Nat) : Nat := 0x120804 + 0x1000 * n + 0x400 * k
/-- SCL_k_CDATA. -/
def SCL_CDATA (n k : Nat) : Nat := 0x120808 + 0x1000 * n + 0x400 * k
/-- HRD_STAT. -/
def HRD_STAT : Nat := 0x130000
/-- HRD_LIMP_FRAME. -/
def HRD_LIMP_FRAME : Nat := 0x130004
/-- HRD_FOREIGN. -/
def HRD_FOREIGN : Nat := 0x130008
/-- HRD_LIMP_MEAS. -/
def HRD_LIMP_MEAS : Nat := 0x13000c
/-- HRD_OUTn_STAT. -/
def HRD_OUT_STAT (n : Nat) : Nat := 0x130100 + 0x20 * n
/-- HRD_OUTn_LATCH. -/
def HRD_OUT_LATCH (n : Nat) : Nat := 0x130104 + 0x20 * n
/-- HRD_OUTn_VERDICT. -/
def HRD_OUT_VERDICT (n : Nat) : Nat := 0x130108 + 0x20 * n
/-- HRD_OUTn_LIVE. -/
def HRD_OUT_LIVE (n : Nat) : Nat := 0x13010c + 0x20 * n
/-- HRD_OUTn_PLANE_XY. -/
def HRD_OUT_PLANE_XY (n : Nat) : Nat := 0x130110 + 0x20 * n
/-- HRD_OUTn_PLANE_WH. -/
def HRD_OUT_PLANE_WH (n : Nat) : Nat := 0x130114 + 0x20 * n
/-- HRD_OUTn_XCHK. -/
def HRD_OUT_XCHK (n : Nat) : Nat := 0x130118 + 0x20 * n
/-- HRD_OUTn_FULL. -/
def HRD_OUT_FULL (n : Nat) : Nat := 0x13011c + 0x20 * n
/-- HRD_OUTn_Rr_CFG. -/
def HRD_OUT_R_CFG (n k : Nat) : Nat := 0x130800 + 0x100 * n + 0x10 * k
/-- HRD_OUTn_Rr_XY. -/
def HRD_OUT_R_XY (n k : Nat) : Nat := 0x130804 + 0x100 * n + 0x10 * k
/-- HRD_OUTn_Rr_WH. -/
def HRD_OUT_R_WH (n k : Nat) : Nat := 0x130808 + 0x100 * n + 0x10 * k
/-- HRD_OUTn_Rr_MEAS. -/
def HRD_OUT_R_MEAS (n k : Nat) : Nat := 0x13080c + 0x100 * n + 0x10 * k
/-- ANV_ID. -/
def ANV_ID : Nat := 0x140000
/-- ANV_STAT. -/
def ANV_STAT : Nat := 0x140004
/-- ANV_FREE. -/
def ANV_FREE : Nat := 0x140008
/-- ANV_SCRUB_CFG. -/
def ANV_SCRUB_CFG : Nat := 0x14000c
/-- ANV_CE_COUNT. -/
def ANV_CE_COUNT : Nat := 0x140010
/-- ANV_UE_COUNT. -/
def ANV_UE_COUNT : Nat := 0x140014
/-- ANV_CHAN_FAIL. -/
def ANV_CHAN_FAIL : Nat := 0x140018
/-- ANV_BAR2_REF. -/
def ANV_BAR2_REF : Nat := 0x14001c
/-- ANV_UE_ADDR. -/
def ANV_UE_ADDR : Nat := 0x140020
/-- ANV_OWNk. -/
def ANV_OWN (n : Nat) : Nat := 0x140100 + 0x4 * n
/-- DRC_ID. -/
def DRC_ID : Nat := 0x150000
/-- DRC_CFG. -/
def DRC_CFG : Nat := 0x150004
/-- DRC_CTRL. -/
def DRC_CTRL : Nat := 0x150008
/-- DRC_STAT. -/
def DRC_STAT : Nat := 0x15000c
/-- DRC_CAP. -/
def DRC_CAP : Nat := 0x150010
/-- DRC_RSV0. -/
def DRC_RSV0 : Nat := 0x150014
/-- DRC_RSV1. -/
def DRC_RSV1 : Nat := 0x150018
/-- DRC_SHARE. -/
def DRC_SHARE : Nat := 0x15001c
/-- DRC_LAT. -/
def DRC_LAT : Nat := 0x150020
/-- DRC_LATMAX. -/
def DRC_LATMAX : Nat := 0x150024
/-- DRC_SR_CFG. -/
def DRC_SR_CFG : Nat := 0x150028
/-- DRC_SR_STAT. -/
def DRC_SR_STAT : Nat := 0x15002c
/-- DRC_ECC_CE. -/
def DRC_ECC_CE : Nat := 0x150030
/-- DRC_ECC_UE. -/
def DRC_ECC_UE : Nat := 0x150034
/-- DRC_ECC_ADDR_LO. -/
def DRC_ECC_ADDR_LO : Nat := 0x150038
/-- DRC_ECC_ADDR_HI. -/
def DRC_ECC_ADDR_HI : Nat := 0x15003c
/-- DRC_FW_REF. -/
def DRC_FW_REF : Nat := 0x150040
/-- DRC_RT_CFG. -/
def DRC_RT_CFG : Nat := 0x150048
/-- DRC_T_CTRL. -/
def DRC_T_CTRL : Nat := 0x150100
/-- DRC_T_ADDR. -/
def DRC_T_ADDR : Nat := 0x150104
/-- DRC_T_STAT. -/
def DRC_T_STAT : Nat := 0x150108
/-- DRC_T_FAIL. -/
def DRC_T_FAIL : Nat := 0x150120
/-- DRC_T_CFG. -/
def DRC_T_CFG : Nat := 0x150124
/-- DRC_T_DLY_IDX. -/
def DRC_T_DLY_IDX : Nat := 0x150130
/-- DRC_T_DLY. -/
def DRC_T_DLY : Nat := 0x150134
/-- DRC_T_PATk. -/
def DRC_T_PAT (n : Nat) : Nat := 0x150110 + 0x4 * n
/-- ULX_ID. -/
def ULX_ID : Nat := 0x160000
/-- ULX_CFG. -/
def ULX_CFG : Nat := 0x160004
/-- ULX_CTRL. -/
def ULX_CTRL : Nat := 0x160008
/-- ULX_STAT. -/
def ULX_STAT : Nat := 0x16000c
/-- ULX_HOLD. -/
def ULX_HOLD : Nat := 0x160010
/-- ULX_LINK. -/
def ULX_LINK : Nat := 0x160014
/-- ULX_LAT. -/
def ULX_LAT : Nat := 0x160018
/-- ULX_COPY. -/
def ULX_COPY : Nat := 0x16001c
/-- ULX_FWD. -/
def ULX_FWD : Nat := 0x160020
/-- ULX_LAST. -/
def ULX_LAST : Nat := 0x160024
/-- ULX_LAST_FRAME. -/
def ULX_LAST_FRAME : Nat := 0x160028
/-- AUD_CFG. -/
def AUD_CFG : Nat := 0x170004
/-- AUD_DUCK. -/
def AUD_DUCK : Nat := 0x170008
/-- AUD_DUCK_STAT. -/
def AUD_DUCK_STAT : Nat := 0x17000c
/-- AUD_STAT. -/
def AUD_STAT : Nat := 0x170010
/-- AUD_PDM_CFG. -/
def AUD_PDM_CFG : Nat := 0x170014
/-- AUD_BYP. -/
def AUD_BYP : Nat := 0x170018
/-- AUD_TDMn_CFG. -/
def AUD_TDM_CFG (n : Nat) : Nat := 0x170020 + 0x4 * n
/-- AUD_TDMIN_MAPk. -/
def AUD_TDMIN_MAP (n : Nat) : Nat := 0x170040 + 0x4 * n
/-- AUD_OUTj_MAP. -/
def AUD_OUT_MAP (n : Nat) : Nat := 0x170080 + 0x4 * n
/-- AUD_CHIMEp. -/
def AUD_CHIME (n : Nat) : Nat := 0x170100 + 0x4 * n
/-- TCH_ID. -/
def TCH_ID : Nat := 0x180000
/-- TCH_RATE. -/
def TCH_RATE : Nat := 0x180004
/-- TCH_GSTAT. -/
def TCH_GSTAT : Nat := 0x180008
/-- TCH_GSEL. -/
def TCH_GSEL : Nat := 0x18000c
/-- TCH_STAT. -/
def TCH_STAT : Nat := 0x180010
/-- TCH_SLG. -/
def TCH_SLG : Nat := 0x180014
/-- TCH_GRP_OPT. -/
def TCH_GRP_OPT : Nat := 0x180018
/-- TCH_REPSEQ. -/
def TCH_REPSEQ : Nat := 0x18001c
/-- TCH_ELk_RAW. -/
def TCH_EL_RAW (n : Nat) : Nat := 0x180100 + 0x8 * n
/-- TCH_ELk_ST. -/
def TCH_EL_ST (n : Nat) : Nat := 0x180104 + 0x8 * n
/-- TCH_REFk. -/
def TCH_REF (n : Nat) : Nat := 0x180200 + 0x4 * n
/-- HAP_ID. -/
def HAP_ID : Nat := 0x190000
/-- HAP_SEL. -/
def HAP_SEL : Nat := 0x190004
/-- HAP_STAT. -/
def HAP_STAT : Nat := 0x190010
/-- HAP_DRV. -/
def HAP_DRV : Nat := 0x190014
/-- HAP_TIM. -/
def HAP_TIM : Nat := 0x190018
/-- HAP_LIM. -/
def HAP_LIM : Nat := 0x19001c
/-- HAP_FREQ. -/
def HAP_FREQ : Nat := 0x190020
/-- HAP_CNT. -/
def HAP_CNT : Nat := 0x190024
/-- NET_ID. -/
def NET_ID : Nat := 0x1a0000
/-- NET_CFG. -/
def NET_CFG : Nat := 0x1a0004
/-- NET_IP. -/
def NET_IP : Nat := 0x1a0008
/-- NET_MAC_LO. -/
def NET_MAC_LO : Nat := 0x1a000c
/-- NET_MAC_HI. -/
def NET_MAC_HI : Nat := 0x1a0010
/-- NET_UDP. -/
def NET_UDP : Nat := 0x1a0014
/-- NET_PCP_MAP. -/
def NET_PCP_MAP : Nat := 0x1a0018
/-- NET_PTP_CFG. -/
def NET_PTP_CFG : Nat := 0x1a0200
/-- NET_PTP_STAT. -/
def NET_PTP_STAT : Nat := 0x1a0204
/-- NET_PTP_OFFSET. -/
def NET_PTP_OFFSET : Nat := 0x1a0208
/-- NET_MDIO. -/
def NET_MDIO : Nat := 0x1a0300
/-- NET_VLANk. -/
def NET_VLAN (n : Nat) : Nat := 0x1a0400 + 0x4 * n
/-- NET_DROPk. -/
def NET_DROP (n : Nat) : Nat := 0x1a0020 + 0x4 * n
/-- NET_Pp_CFG. -/
def NET_P_CFG (n : Nat) : Nat := 0x1a0100 + 0x20 * n
/-- NET_Pp_STAT. -/
def NET_P_STAT (n : Nat) : Nat := 0x1a0104 + 0x20 * n
/-- NET_Pp_CBS. -/
def NET_P_CBS (n : Nat) : Nat := 0x1a0108 + 0x20 * n
/-- NET_Pp_RSV. -/
def NET_P_RSV (n : Nat) : Nat := 0x1a010c + 0x20 * n
/-- MBX_ID. -/
def MBX_ID : Nat := 0x1b0000
/-- MBX_LOCK. -/
def MBX_LOCK : Nat := 0x1b0004
/-- MBX_PEND. -/
def MBX_PEND : Nat := 0x1b0008
/-- MBX_CHk_CFG. -/
def MBX_CH_CFG (n : Nat) : Nat := 0x1b0100 + 0x40 * n
/-- MBX_CHk_STAT. -/
def MBX_CH_STAT (n : Nat) : Nat := 0x1b0104 + 0x40 * n
/-- MBX_CHk_TXj. -/
def MBX_CH_TX (n k : Nat) : Nat := 0x1b0110 + 0x40 * n + 0x4 * k
/-- MBX_CHk_RXj. -/
def MBX_CH_RX (n k : Nat) : Nat := 0x1b0120 + 0x40 * n + 0x4 * k
/-- LCK_k_REQ. -/
def LCK_REQ (n : Nat) : Nat := 0x1c0000 + 0x4 * n
/-- LCK_k_STAT. -/
def LCK_STAT (n : Nat) : Nat := 0x1c0100 + 0x4 * n
/-- LCK_HELD_LO. -/
def LCK_HELD_LO : Nat := 0x1c0200
/-- LCK_HELD_HI. -/
def LCK_HELD_HI : Nat := 0x1c0204
/-- LCK_FORCED. -/
def LCK_FORCED : Nat := 0x1c0208
/-- LCK_BADREL. -/
def LCK_BADREL : Nat := 0x1c020c
/-- CRC_ID. -/
def CRC_ID : Nat := 0x1d0000
/-- CRC_STAT. -/
def CRC_STAT : Nat := 0x1d0004
/-- CRC_Uk_CTRL. -/
def CRC_U_CTRL (n : Nat) : Nat := 0x1d0100 + 0x40 * n
/-- CRC_Uk_CFG. -/
def CRC_U_CFG (n : Nat) : Nat := 0x1d0104 + 0x40 * n
/-- CRC_Uk_POLY. -/
def CRC_U_POLY (n : Nat) : Nat := 0x1d0108 + 0x40 * n
/-- CRC_Uk_INIT. -/
def CRC_U_INIT (n : Nat) : Nat := 0x1d010c + 0x40 * n
/-- CRC_Uk_FOLD. -/
def CRC_U_FOLD (n : Nat) : Nat := 0x1d0110 + 0x40 * n
/-- CRC_Uk_SEQ. -/
def CRC_U_SEQ (n : Nat) : Nat := 0x1d0114 + 0x40 * n
/-- CRC_Uk_RUN. -/
def CRC_U_RUN (n : Nat) : Nat := 0x1d0118 + 0x40 * n
/-- CRC_Uk_RESULT. -/
def CRC_U_RESULT (n : Nat) : Nat := 0x1d011c + 0x40 * n
/-- CRC_Uk_DATA. -/
def CRC_U_DATA (n : Nat) : Nat := 0x1d0120 + 0x40 * n
/-- CRC_Uk_STAT. -/
def CRC_U_STAT (n : Nat) : Nat := 0x1d0124 + 0x40 * n
/-- CRC_Uk_OWNER. -/
def CRC_U_OWNER (n : Nat) : Nat := 0x1d0128 + 0x40 * n
/-- FUS_ID. -/
def FUS_ID : Nat := 0x1e0000
/-- FUS_UNITS. -/
def FUS_UNITS : Nat := 0x1e0004
/-- FUS_PCI. -/
def FUS_PCI : Nat := 0x1e0008
/-- FUS_VFLOOR. -/
def FUS_VFLOOR : Nat := 0x1e000c
/-- FUS_TRIM. -/
def FUS_TRIM : Nat := 0x1e0010
/-- FUS_ROWS. -/
def FUS_ROWS : Nat := 0x1e0014
/-- FUS_UID_LO. -/
def FUS_UID_LO : Nat := 0x1e0018
/-- FUS_UID_HI. -/
def FUS_UID_HI : Nat := 0x1e001c
/-- FUS_KEYk_w. -/
def FUS_KEY (n k : Nat) : Nat := 0x1e0040 + 0x30 * n + 0x4 * k
/-- HRT_STAT. -/
def HRT_STAT : Nat := 0x1f0000
/-- HRT_BOOT. -/
def HRT_BOOT : Nat := 0x1f0004
/-- HRT_IMG_VER. -/
def HRT_IMG_VER : Nat := 0x1f0008
/-- HRT_TIME. -/
def HRT_TIME : Nat := 0x1f000c
/-- HRT_AVS. -/
def HRT_AVS : Nat := 0x1f0020
/-- HRT_DPR_STAT. -/
def HRT_DPR_STAT : Nat := 0x1f0400
/-- HRT_MT_CFG. -/
def HRT_MT_CFG : Nat := 0x1f0404
/-- HRT_MT_STAT. -/
def HRT_MT_STAT : Nat := 0x1f0408
/-- HRT_MT_PASS. -/
def HRT_MT_PASS : Nat := 0x1f040c
/-- HRT_MT_FAIL. -/
def HRT_MT_FAIL : Nat := 0x1f0410
end R

/-- Register rows, part 0. -/
def regRows0 : List RegRow := [
  -- GLB_SNAP_TRIG
  ⟨0x100040, 0, 1, 0, 1, .none, [⟨0, 32, .ro, .status, 0, .none⟩]⟩,
  -- GLB_SNAP_SEQ
  ⟨0x100044, 0, 1, 0, 1, .none, [⟨0, 32, .ro, .status, 0, .none⟩]⟩,
  -- GLB_SNAP
  ⟨0x100100, 0x4, 64, 0, 1, .none, [⟨0, 32, .ro, .status, 0, .none⟩]⟩,
  -- GLB_PCI_STAT
  ⟨0x100200, 0x10, 2, 0, 1, .none, [⟨0, 1, .ro, .status, 0, .none⟩, ⟨1, 4, .ro, .status, 0, .none⟩, ⟨5, 3, .ro, .status, 0, .none⟩, ⟨8, 1, .ro, .status, 0, .none⟩, ⟨9, 1, .ro, .status, 0, .none⟩, ⟨10, 1, .ro, .status, 0, .none⟩, ⟨11, 1, .ro, .status, 0, .none⟩, ⟨12, 20, .rsv, .none, 0, .none⟩]⟩,
  -- GLB_PCI_ERR
  ⟨0x100204, 0x10, 2, 0, 1, .none, [⟨0, 16, .ro, .status, 0, .none⟩, ⟨16, 16, .ro, .status, 0, .none⟩]⟩,
  -- BLW_STAT
  ⟨0x101000, 0, 1, 0, 1, .none, [⟨0, 3, .ro, .status, 0, .none⟩, ⟨3, 1, .ro, .status, 0, .none⟩, ⟨4, 1, .ro, .status, 0, .none⟩, ⟨5, 3, .rsv, .none, 0, .none⟩, ⟨8, 3, .ro, .status, 0, .none⟩, ⟨11, 21, .rsv, .none, 0, .none⟩]⟩,
  -- BLW_SRC
  ⟨0x101004, 0, 1, 0, 1, .none, [⟨0, 6, .ro, .status, 0, .none⟩, ⟨6, 26, .rsv, .none, 0, .none⟩]⟩,
  -- BLW_ALARM_LO
  ⟨0x101008, 0, 1, 0, 1, .none, [⟨0, 32, .ro, .status, 0, .none⟩]⟩,
  -- BLW_ALARM_HI
  ⟨0x10100c, 0, 1, 0, 1, .none, [⟨0, 32, .ro, .status, 0, .none⟩]⟩,
  -- BLW_WAKE
  ⟨0x101010, 0, 1, 0, 1, .none, [⟨0, 3, .ro, .status, 0, .none⟩, ⟨3, 3, .ro, .status, 0, .none⟩, ⟨6, 2, .rsv, .none, 0, .none⟩, ⟨8, 8, .ro, .status, 0, .none⟩, ⟨16, 16, .ro, .status, 0, .none⟩]⟩,
  -- BLW_RES
  ⟨0x101014, 0, 1, 0, 1, .none, [⟨0, 3, .ro, .status, 0, .none⟩, ⟨3, 29, .ro, .status, 0, .none⟩]⟩,
  -- RST_CTRL
  ⟨0x102000, 0, 1, 0, 1, .none, [⟨0, 1, .w1s, .d, 0, .none⟩, ⟨1, 1, .w1s, .d, 0, .none⟩, ⟨2, 30, .rsv, .none, 0, .none⟩]⟩,
  -- RST_BLK
  ⟨0x102004, 0, 1, 0, 1, .none, [⟨0, 7, .w1s, .d, 0, .none⟩, ⟨7, 25, .rsv, .none, 0, .none⟩]⟩,
  -- RST_STAT
  ⟨0x102008, 0, 1, 0, 1, .none, [⟨0, 3, .ro, .status, 0, .none⟩, ⟨3, 1, .ro, .status, 0, .none⟩, ⟨4, 28, .rsv, .none, 0, .none⟩]⟩,
  -- SLG_STAT
  ⟨0x103000, 0, 1, 0, 1, .none, [⟨0, 8, .ro, .status, 0, .none⟩, ⟨8, 1, .ro, .status, 0, .none⟩, ⟨9, 1, .ro, .status, 0, .none⟩, ⟨10, 6, .rsv, .none, 0, .none⟩, ⟨16, 8, .ro, .status, 0, .none⟩, ⟨24, 8, .ro, .status, 0, .none⟩]⟩,
  -- SLG_STICKY
  ⟨0x103004, 0, 1, 0, 1, .none, [⟨0, 26, .ro, .status, 0, .none⟩, ⟨26, 6, .rsv, .none, 0, .none⟩]⟩,
  -- SLG_FAULT
  ⟨0x10300c, 0, 1, 0, 1, .none, [⟨0, 26, .ro, .status, 0, .none⟩, ⟨26, 1, .ro, .status, 0, .none⟩, ⟨27, 1, .ro, .status, 0, .none⟩, ⟨28, 4, .rsv, .none, 0, .none⟩]⟩,
  -- SLG_FIRST_LO
  ⟨0x103010, 0, 1, 0, 1, .none, [⟨0, 32, .ro, .status, 0, .none⟩]⟩,
  -- SLG_FIRST_HI
  ⟨0x103014, 0, 1, 0, 1, .none, [⟨0, 32, .ro, .status, 0, .none⟩]⟩,
  -- SLG_LAST_LO
  ⟨0x103018, 0, 1, 0, 1, .none, [⟨0, 32, .ro, .status, 0, .none⟩]⟩,
  -- SLG_LAST_HI
  ⟨0x10301c, 0, 1, 0, 1, .none, [⟨0, 32, .ro, .status, 0, .none⟩]⟩,
  -- SLG_IDX
  ⟨0x103020, 0, 1, 0, 1, .none, [⟨0, 8, .rw, .d, 0, .none⟩, ⟨8, 24, .rsv, .none, 0, .none⟩]⟩,
  -- SLG_ENT_LO
  ⟨0x103024, 0, 1, 0, 1, .none, [⟨0, 32, .ro, .status, 0, .none⟩]⟩,
  -- SLG_ENT_HI
  ⟨0x103028, 0, 1, 0, 1, .none, [⟨0, 32, .ro, .status, 0, .none⟩]⟩]

/-- Register rows, part 1. -/
def regRows1 : List RegRow := [
  -- SLG_RESETS
  ⟨0x10302c, 0, 1, 0, 1, .none, [⟨0, 8, .ro, .status, 0, .none⟩, ⟨8, 8, .ro, .status, 0, .none⟩, ⟨16, 8, .ro, .status, 0, .none⟩, ⟨24, 8, .rsv, .none, 0, .none⟩]⟩,
  -- SLG_ACC
  ⟨0x103040, 0, 1, 0, 1, .none, [⟨0, 1, .w1c, .status, 0, .none⟩, ⟨1, 1, .w1c, .status, 0, .none⟩, ⟨2, 1, .w1c, .status, 0, .none⟩, ⟨3, 1, .w1c, .status, 0, .none⟩, ⟨4, 1, .w1c, .status, 0, .none⟩, ⟨5, 3, .rsv, .none, 0, .none⟩, ⟨8, 8, .ro, .status, 0, .none⟩, ⟨16, 16, .ro, .status, 0, .none⟩]⟩,
  -- SLG_ACC_ADDR
  ⟨0x103044, 0, 1, 0, 1, .none, [⟨0, 32, .ro, .status, 0, .none⟩]⟩,
  -- SLG_FMASK
  ⟨0x103008, 0, 1, 0, 1, .sealed, [⟨0, 26, .rw, .c, 0x240f65c, .none⟩, ⟨26, 6, .rsv, .none, 0, .none⟩]⟩,
  -- CFG_CTRL
  ⟨0x104000, 0, 1, 0, 1, .cfgCheck, [⟨0, 1, .rw, .d, 1, .none⟩, ⟨1, 1, .w1s, .d, 0, .none⟩, ⟨2, 1, .w1s, .d, 0, .none⟩, ⟨3, 1, .rsv, .none, 0, .none⟩, ⟨4, 2, .rw, .c, 2, .threeAs 2⟩, ⟨6, 26, .rsv, .none, 0, .none⟩]⟩,
  -- CFG_PERIOD
  ⟨0x104004, 0, 1, 0, 1, .cfgCheck, [⟨0, 16, .rw, .c, 0xa, .clamp 1 1000⟩, ⟨16, 16, .rw, .c, 0x64, .atLeast 1⟩]⟩,
  -- CFG_STAT
  ⟨0x104008, 0, 1, 0, 1, .cfgCheck, [⟨0, 1, .ro, .status, 0, .none⟩, ⟨1, 1, .ro, .status, 0, .none⟩, ⟨2, 1, .w1c, .status, 0, .none⟩, ⟨3, 1, .w1c, .status, 0, .none⟩, ⟨4, 1, .w1c, .status, 0, .none⟩, ⟨5, 1, .w1c, .status, 0, .none⟩, ⟨6, 2, .rsv, .none, 0, .none⟩, ⟨8, 6, .ro, .status, 0, .none⟩, ⟨14, 2, .rsv, .none, 0, .none⟩, ⟨16, 16, .ro, .status, 0, .none⟩]⟩,
  -- CFG_RUN
  ⟨0x10400c, 0, 1, 0, 1, .cfgCheck, [⟨0, 32, .ro, .status, 0, .none⟩]⟩,
  -- CFG_REF
  ⟨0x104010, 0, 1, 0, 1, .cfgCheck, [⟨0, 32, .ro, .status, 0, .none⟩]⟩,
  -- CFG_MISMATCH_LO
  ⟨0x104014, 0, 1, 0, 1, .cfgCheck, [⟨0, 32, .ro, .status, 0, .none⟩]⟩,
  -- CFG_MISMATCH_HI
  ⟨0x104018, 0, 1, 0, 1, .cfgCheck, [⟨0, 3, .ro, .status, 0, .none⟩, ⟨3, 29, .rsv, .none, 0, .none⟩]⟩,
  -- CFG_BLK_REF
  ⟨0x104100, 0x4, 35, 0, 1, .none, [⟨0, 32, .ro, .status, 0, .none⟩]⟩,
  -- SCN_OUT_STAT
  ⟨0x110000, 0x1000, 8, 0, 1, .scn, [⟨0, 3, .ro, .status, 0, .none⟩, ⟨3, 1, .ro, .status, 0, .none⟩, ⟨4, 1, .ro, .status, 0, .none⟩, ⟨5, 1, .ro, .status, 0, .none⟩, ⟨6, 1, .ro, .status, 0, .none⟩, ⟨7, 1, .w1c, .status, 0, .none⟩, ⟨8, 1, .w1c, .status, 0, .none⟩, ⟨9, 1, .w1c, .status, 0, .none⟩, ⟨10, 1, .ro, .status, 0, .none⟩, ⟨11, 1, .ro, .status, 0, .none⟩, ⟨12, 1, .ro, .status, 0, .none⟩, ⟨13, 19, .rsv, .none, 0, .none⟩]⟩,
  -- SCN_OUT_LINE
  ⟨0x110004, 0x1000, 8, 0, 1, .scn, [⟨0, 13, .ro, .status, 0, .none⟩, ⟨13, 19, .rsv, .none, 0, .none⟩]⟩,
  -- SCN_OUT_FRAME
  ⟨0x110008, 0x1000, 8, 0, 1, .scn, [⟨0, 32, .ro, .status, 0, .none⟩]⟩,
  -- SCN_OUT_ALLOC
  ⟨0x11000c, 0x1000, 8, 0, 1, .scn, [⟨0, 13, .ro, .status, 0, .none⟩, ⟨13, 3, .rsv, .none, 0, .none⟩, ⟨16, 13, .ro, .status, 0, .none⟩, ⟨29, 3, .rsv, .none, 0, .none⟩]⟩,
  -- SCN_OUT_GEOM
  ⟨0x110010, 0x1000, 8, 0, 1, .scn, [⟨0, 16, .ro, .status, 0, .none⟩, ⟨16, 6, .ro, .status, 0, .none⟩, ⟨22, 10, .rsv, .none, 0, .none⟩]⟩,
  -- SCN_OUT_UE
  ⟨0x110014, 0x1000, 8, 0, 1, .scn, [⟨0, 32, .ro, .status, 0, .none⟩]⟩,
  -- SCN_OUT_GMAP
  ⟨0x110020, 0x1000, 8, 0x4, 16, .scn, [⟨0, 32, .ro, .status, 0, .none⟩]⟩,
  -- SCN_OUT_GL_CFG
  ⟨0x110180, 0x1000, 8, 0, 1, .scn, [⟨0, 2, .rw, .c, 0, .none⟩, ⟨2, 3, .rw, .c, 0, .none⟩, ⟨5, 1, .rw, .c, 0, .none⟩, ⟨6, 10, .rsv, .none, 0, .none⟩, ⟨16, 9, .rw, .c, 0x12c, .atLeast 1⟩, ⟨25, 7, .rsv, .none, 0, .none⟩]⟩,
  -- SCN_OUT_GL_BASE_LO
  ⟨0x110184, 0x1000, 8, 0, 1, .scn, [⟨0, 32, .rw, .c, 0, .none⟩]⟩,
  -- SCN_OUT_GL_BASE_HI
  ⟨0x110188, 0x1000, 8, 0, 1, .scn, [⟨0, 32, .rw, .c, 0, .none⟩]⟩,
  -- SCN_OUT_GL_ERR
  ⟨0x11018c, 0x1000, 8, 0, 1, .scn, [⟨0, 32, .ro, .status, 0, .none⟩]⟩,
  -- SCN_OUT_GL_TRIM
  ⟨0x110190, 0x1000, 8, 0, 1, .scn, [⟨0, 32, .ro, .status, 0, .none⟩]⟩]

/-- Register rows, part 2. -/
def regRows2 : List RegRow := [
  -- SCN_OUT_BL_CFG
  ⟨0x1101c0, 0x1000, 8, 0, 1, .scn, [⟨0, 16, .rw, .c, 0x4e20, .clamp 100 50000⟩, ⟨16, 1, .rw, .c, 1, .none⟩, ⟨17, 1, .rw, .c, 0, .none⟩, ⟨18, 6, .rsv, .none, 0, .none⟩, ⟨24, 8, .rw, .c, 0, .none⟩]⟩,
  -- SCN_OUT_BL_DUTY
  ⟨0x1101c4, 0x1000, 8, 0, 1, .scn, [⟨0, 16, .ro, .status, 0, .none⟩, ⟨16, 16, .ro, .status, 0, .none⟩]⟩,
  -- SCN_OUT_LNK_CFG
  ⟨0x110200, 0x1000, 8, 0, 1, .scn, [⟨0, 3, .rw, .c, 0, .none⟩, ⟨3, 3, .rw, .c, 0, .none⟩, ⟨6, 2, .rsv, .none, 0, .none⟩, ⟨8, 4, .rw, .c, 8, .none⟩, ⟨12, 4, .rsv, .none, 0, .none⟩, ⟨16, 12, .rw, .c, 0, .none⟩, ⟨28, 1, .rw, .c, 0, .none⟩, ⟨29, 1, .rw, .c, 0, .none⟩, ⟨30, 1, .rw, .c, 0, .none⟩, ⟨31, 1, .rsv, .none, 0, .none⟩]⟩,
  -- SCN_OUT_LNK_OPT
  ⟨0x110204, 0x1000, 8, 0, 1, .scn, [⟨0, 1, .rw, .c, 1, .none⟩, ⟨1, 1, .rw, .c, 1, .none⟩, ⟨2, 1, .rw, .c, 0, .none⟩, ⟨3, 1, .rw, .c, 1, .none⟩, ⟨4, 2, .rw, .c, 2, .none⟩, ⟨6, 1, .rw, .c, 0, .none⟩, ⟨7, 1, .rw, .c, 0, .none⟩, ⟨8, 4, .rw, .c, 2, .atLeast 1⟩, ⟨12, 4, .rsv, .none, 0, .none⟩, ⟨16, 8, .rw, .c, 0x3c, .none⟩, ⟨24, 8, .rsv, .none, 0, .none⟩]⟩,
  -- SCN_OUT_LNK_STAT
  ⟨0x110208, 0x1000, 8, 0, 1, .scn, [⟨0, 3, .ro, .status, 0, .none⟩, ⟨3, 1, .ro, .status, 0, .none⟩, ⟨4, 3, .ro, .status, 0, .none⟩, ⟨7, 3, .ro, .status, 0, .none⟩, ⟨10, 1, .ro, .status, 0, .none⟩, ⟨11, 1, .ro, .status, 0, .none⟩, ⟨12, 1, .w1c, .status, 0, .none⟩, ⟨13, 1, .w1c, .status, 0, .none⟩, ⟨14, 1, .w1c, .status, 0, .none⟩, ⟨15, 1, .w1c, .status, 0, .none⟩, ⟨16, 16, .ro, .status, 0, .none⟩]⟩,
  -- SCN_OUT_LNK_FRAMES
  ⟨0x11020c, 0x1000, 8, 0, 1, .scn, [⟨0, 16, .ro, .status, 0, .none⟩, ⟨16, 16, .ro, .status, 0, .none⟩]⟩,
  -- SCN_OUT_AUX_CMD
  ⟨0x110210, 0x1000, 8, 0, 1, .scn, [⟨0, 4, .rw, .d, 0, .none⟩, ⟨4, 20, .rw, .d, 0, .none⟩, ⟨24, 4, .rw, .d, 0, .none⟩, ⟨28, 3, .rsv, .none, 0, .none⟩, ⟨31, 1, .wo, .d, 0, .none⟩]⟩,
  -- SCN_OUT_AUX_STAT
  ⟨0x110214, 0x1000, 8, 0, 1, .scn, [⟨0, 2, .ro, .status, 0, .none⟩, ⟨2, 4, .ro, .status, 0, .none⟩, ⟨6, 1, .ro, .status, 0, .none⟩, ⟨7, 1, .ro, .status, 0, .none⟩, ⟨8, 1, .ro, .status, 0, .none⟩, ⟨9, 5, .ro, .status, 0, .none⟩, ⟨14, 18, .rsv, .none, 0, .none⟩]⟩,
  -- SCN_OUT_AUX_DATA
  ⟨0x110218, 0x1000, 8, 0x4, 4, .scn, [⟨0, 32, .rw, .d, 0, .none⟩]⟩,
  -- SCN_OUT_DSI_HDR
  ⟨0x110230, 0x1000, 8, 0, 1, .scn, [⟨0, 6, .rw, .d, 0, .none⟩, ⟨6, 2, .rsv, .none, 0, .none⟩, ⟨8, 16, .rw, .d, 0, .none⟩, ⟨24, 1, .rw, .d, 0, .none⟩, ⟨25, 1, .rw, .d, 0, .none⟩, ⟨26, 5, .rsv, .none, 0, .none⟩, ⟨31, 1, .wo, .d, 0, .none⟩]⟩,
  -- SCN_OUT_DSI_PAY
  ⟨0x110240, 0x1000, 8, 0x4, 16, .scn, [⟨0, 32, .rw, .d, 0, .none⟩]⟩,
  -- SCN_OUT_DSI_STAT
  ⟨0x110280, 0x1000, 8, 0, 1, .scn, [⟨0, 2, .ro, .status, 0, .none⟩, ⟨2, 6, .ro, .status, 0, .none⟩, ⟨8, 16, .ro, .status, 0, .none⟩, ⟨24, 1, .ro, .status, 0, .none⟩, ⟨25, 1, .ro, .status, 0, .none⟩, ⟨26, 1, .ro, .status, 0, .none⟩, ⟨27, 5, .rsv, .none, 0, .none⟩]⟩,
  -- SCN_OUT_PSEQ0
  ⟨0x1102e0, 0x1000, 8, 0, 1, .scn, [⟨0, 16, .rw, .c, 0, .none⟩, ⟨16, 16, .rw, .c, 0, .none⟩]⟩,
  -- SCN_OUT_PSEQ1
  ⟨0x1102e4, 0x1000, 8, 0, 1, .scn, [⟨0, 16, .rw, .c, 0, .none⟩, ⟨16, 16, .rw, .c, 0, .none⟩]⟩,
  -- SCN_OUT_T_PCLK
  ⟨0x110100, 0x1000, 8, 0x20, 2, .tset, [⟨0, 20, .rw, .c, 0, .none⟩, ⟨20, 12, .rsv, .none, 0, .none⟩]⟩,
  -- SCN_OUT_T_H0
  ⟨0x110104, 0x1000, 8, 0x20, 2, .tset, [⟨0, 13, .rw, .c, 0, .none⟩, ⟨13, 3, .rsv, .none, 0, .none⟩, ⟨16, 13, .rw, .c, 0, .none⟩, ⟨29, 3, .rsv, .none, 0, .none⟩]⟩,
  -- SCN_OUT_T_H1
  ⟨0x110108, 0x1000, 8, 0x20, 2, .tset, [⟨0, 13, .rw, .c, 0, .none⟩, ⟨13, 3, .rsv, .none, 0, .none⟩, ⟨16, 13, .rw, .c, 0, .none⟩, ⟨29, 3, .rsv, .none, 0, .none⟩]⟩,
  -- SCN_OUT_T_V0
  ⟨0x11010c, 0x1000, 8, 0x20, 2, .tset, [⟨0, 13, .rw, .c, 0, .none⟩, ⟨13, 3, .rsv, .none, 0, .none⟩, ⟨16, 13, .rw, .c, 0, .none⟩, ⟨29, 3, .rsv, .none, 0, .none⟩]⟩,
  -- SCN_OUT_T_V1
  ⟨0x110110, 0x1000, 8, 0x20, 2, .tset, [⟨0, 13, .rw, .c, 0, .none⟩, ⟨13, 3, .rsv, .none, 0, .none⟩, ⟨16, 13, .rw, .c, 0, .none⟩, ⟨29, 3, .rsv, .none, 0, .none⟩]⟩,
  -- SCN_OUT_T_POL
  ⟨0x110114, 0x1000, 8, 0x20, 2, .tset, [⟨0, 2, .rw, .c, 0, .none⟩, ⟨2, 30, .rsv, .none, 0, .none⟩]⟩,
  -- SCN_OUT_T_STAT
  ⟨0x110118, 0x1000, 8, 0x20, 2, .tset, [⟨0, 3, .ro, .status, 0, .none⟩, ⟨3, 29, .rsv, .none, 0, .none⟩]⟩,
  -- CMP_ID
  ⟨0x128000, 0, 1, 0, 1, .none, [⟨0, 4, .ro, .status, 4, .none⟩, ⟨4, 4, .ro, .status, 4, .none⟩, ⟨8, 7, .ro, .status, 0x40, .none⟩, ⟨15, 1, .rsv, .none, 0, .none⟩, ⟨16, 4, .ro, .status, 8, .none⟩, ⟨20, 12, .rsv, .none, 0, .none⟩]⟩,
  -- CMP_LIMIT
  ⟨0x128004, 0, 1, 0, 1, .none, [⟨0, 32, .ro, .status, 0x3180, .none⟩]⟩,
  -- CMP_LOAD
  ⟨0x128008, 0, 1, 0, 1, .none, [⟨0, 32, .ro, .status, 0, .none⟩]⟩]

/-- Register rows, part 3. -/
def regRows3 : List RegRow := [
  -- CMP_FETCH_BUDGET
  ⟨0x12800c, 0, 1, 0, 1, .none, [⟨0, 32, .ro, .status, 0, .none⟩]⟩,
  -- CMP_FETCH_LOAD
  ⟨0x128010, 0, 1, 0, 1, .none, [⟨0, 32, .ro, .status, 0, .none⟩]⟩,
  -- CMP_ENG_FAIL
  ⟨0x128014, 0, 1, 0, 1, .none, [⟨0, 4, .ro, .status, 0, .none⟩, ⟨4, 28, .rsv, .none, 0, .none⟩]⟩,
  -- CMP_MISSES
  ⟨0x128018, 0, 1, 0, 1, .none, [⟨0, 32, .ro, .status, 0, .none⟩]⟩,
  -- CMP_LYR_ASSIGN
  ⟨0x128400, 0x20, 64, 0, 1, .none, [⟨0, 32, .ro, .status, 0, .none⟩]⟩,
  -- CMP_LYR_CTRL
  ⟨0x128404, 0x20, 64, 0, 1, .none, [⟨0, 32, .ro, .status, 0, .none⟩]⟩,
  -- CMP_LYR_SRC_XY
  ⟨0x128408, 0x20, 64, 0, 1, .none, [⟨0, 32, .ro, .status, 0, .none⟩]⟩,
  -- CMP_LYR_SRC_WH
  ⟨0x12840c, 0x20, 64, 0, 1, .none, [⟨0, 32, .ro, .status, 0, .none⟩]⟩,
  -- CMP_LYR_DST_XY
  ⟨0x128410, 0x20, 64, 0, 1, .none, [⟨0, 32, .ro, .status, 0, .none⟩]⟩,
  -- CMP_LYR_DST_WH
  ⟨0x128414, 0x20, 64, 0, 1, .none, [⟨0, 32, .ro, .status, 0, .none⟩]⟩,
  -- CMP_LYR_SURF
  ⟨0x128418, 0x20, 64, 0, 1, .none, [⟨0, 32, .ro, .status, 0, .none⟩]⟩,
  -- CMP_LYR_STAGE
  ⟨0x12841c, 0x20, 64, 0, 1, .none, [⟨0, 32, .ro, .status, 0, .none⟩]⟩,
  -- CMP_OUT_STAT
  ⟨0x120000, 0x1000, 8, 0, 1, .none, [⟨0, 16, .ro, .status, 0, .none⟩, ⟨16, 1, .w1c, .status, 0, .none⟩, ⟨17, 1, .w1c, .status, 0, .none⟩, ⟨18, 1, .w1c, .status, 0, .none⟩, ⟨19, 1, .w1c, .status, 0, .none⟩, ⟨20, 1, .w1c, .status, 0, .none⟩, ⟨21, 1, .ro, .status, 0, .none⟩, ⟨22, 10, .rsv, .none, 0, .none⟩]⟩,
  -- CMP_OUT_FRAME
  ⟨0x120004, 0x1000, 8, 0, 1, .none, [⟨0, 32, .ro, .status, 0, .none⟩]⟩,
  -- CMP_OUT_BG
  ⟨0x120008, 0x1000, 8, 0, 1, .none, [⟨0, 10, .rw, .s, 0, .none⟩, ⟨10, 10, .rw, .s, 0, .none⟩, ⟨20, 10, .rw, .s, 0, .none⟩, ⟨30, 2, .rsv, .none, 0, .none⟩]⟩,
  -- CMP_OUT_PASS
  ⟨0x12000c, 0x1000, 8, 0, 1, .none, [⟨0, 16, .ro, .status, 0, .none⟩, ⟨16, 16, .ro, .status, 0, .none⟩]⟩,
  -- CMP_OUT_LOAD
  ⟨0x120010, 0x1000, 8, 0, 1, .none, [⟨0, 32, .ro, .status, 0, .none⟩]⟩,
  -- CMP_OUT_FETCH
  ⟨0x120014, 0x1000, 8, 0, 1, .none, [⟨0, 32, .ro, .status, 0, .none⟩]⟩,
  -- CMP_OUT_LAYERS_LO
  ⟨0x120018, 0x1000, 8, 0, 1, .none, [⟨0, 32, .ro, .status, 0, .none⟩]⟩,
  -- CMP_OUT_LAYERS_HI
  ⟨0x12001c, 0x1000, 8, 0, 1, .none, [⟨0, 32, .ro, .status, 0, .none⟩]⟩,
  -- CMP_OUT_WB
  ⟨0x120020, 0x1000, 8, 0, 1, .none, [⟨0, 1, .ro, .status, 0, .none⟩, ⟨1, 1, .ro, .status, 0, .none⟩, ⟨2, 14, .rsv, .none, 0, .none⟩, ⟨16, 16, .ro, .status, 0, .none⟩]⟩,
  -- CMP_OUT_WB_FRAME
  ⟨0x120024, 0x1000, 8, 0, 1, .none, [⟨0, 32, .ro, .status, 0xffffffff, .none⟩]⟩,
  -- CMP_OUT_COMMITS
  ⟨0x120028, 0x1000, 8, 0, 1, .none, [⟨0, 8, .ro, .status, 0, .none⟩, ⟨8, 8, .rsv, .none, 0, .none⟩, ⟨16, 16, .ro, .status, 0, .none⟩]⟩,
  -- CMP_OUT_CCTRL
  ⟨0x120100, 0x1000, 8, 0, 1, .none, [⟨0, 1, .rw, .s, 0, .none⟩, ⟨1, 1, .rw, .s, 0, .none⟩, ⟨2, 2, .rw, .s, 0, .none⟩, ⟨4, 28, .rsv, .none, 0, .none⟩]⟩]

/-- Register rows, part 4. -/
def regRows4 : List RegRow := [
  -- CMP_OUT_MAT
  ⟨0x120110, 0x1000, 8, 0x10, 3, .none, [⟨0, 16, .rw, .s, 0x1000, .none⟩, ⟨16, 16, .rsv, .none, 0, .none⟩]⟩,
  -- CMP_OUT_MAT
  ⟨0x120114, 0x1000, 8, 0x4, 3, .none, [⟨0, 16, .rw, .s, 0, .none⟩, ⟨16, 16, .rsv, .none, 0, .none⟩]⟩,
  -- CMP_OUT_MAT
  ⟨0x120124, 0x1000, 8, 0x4, 3, .none, [⟨0, 16, .rw, .s, 0, .none⟩, ⟨16, 16, .rsv, .none, 0, .none⟩]⟩,
  -- CMP_OUT_OFF
  ⟨0x120134, 0x1000, 8, 0x4, 3, .none, [⟨0, 12, .rw, .s, 0, .none⟩, ⟨12, 20, .rsv, .none, 0, .none⟩]⟩,
  -- CMP_OUT_LUT_IDX
  ⟨0x120140, 0x1000, 8, 0, 1, .none, [⟨0, 10, .rw, .d, 0, .none⟩, ⟨10, 21, .rsv, .none, 0, .none⟩, ⟨31, 1, .rw, .d, 0, .none⟩]⟩,
  -- CMP_OUT_LUT_DATA
  ⟨0x120144, 0x1000, 8, 0, 1, .none, [⟨0, 30, .ro, .status, 0, .none⟩, ⟨30, 2, .rsv, .none, 0, .none⟩]⟩,
  -- CMP_OUT_CSTAT
  ⟨0x120148, 0x1000, 8, 0, 1, .none, [⟨0, 1, .ro, .status, 0, .none⟩, ⟨1, 1, .ro, .status, 0, .none⟩, ⟨2, 30, .rsv, .none, 0, .none⟩]⟩,
  -- SCL_STAT
  ⟨0x120800, 0x1000, 4, 0x400, 2, .none, [⟨0, 8, .ro, .status, 0, .none⟩, ⟨8, 3, .ro, .status, 0, .none⟩, ⟨11, 1, .rsv, .none, 0, .none⟩, ⟨12, 1, .ro, .status, 0, .none⟩, ⟨13, 1, .ro, .status, 0, .none⟩, ⟨14, 18, .rsv, .none, 0, .none⟩]⟩,
  -- SCL_CIDX
  ⟨0x120804, 0x1000, 4, 0x400, 2, .none, [⟨0, 1, .rw, .d, 0, .none⟩, ⟨1, 1, .rw, .d, 0, .none⟩, ⟨2, 6, .rw, .d, 0, .none⟩, ⟨8, 3, .rw, .d, 0, .none⟩, ⟨11, 21, .rsv, .none, 0, .none⟩]⟩,
  -- SCL_CDATA
  ⟨0x120808, 0x1000, 4, 0x400, 2, .none, [⟨0, 32, .ro, .status, 0, .none⟩]⟩,
  -- HRD_STAT
  ⟨0x130000, 0, 1, 0, 1, .none, [⟨0, 8, .ro, .status, 0, .none⟩, ⟨8, 1, .ro, .status, 0, .none⟩, ⟨9, 1, .ro, .status, 0, .none⟩, ⟨10, 1, .ro, .status, 0, .none⟩, ⟨11, 1, .ro, .status, 0, .none⟩, ⟨12, 1, .ro, .status, 0, .none⟩, ⟨13, 1, .ro, .status, 1, .none⟩, ⟨14, 1, .ro, .status, 0, .none⟩, ⟨15, 17, .rsv, .none, 0, .none⟩]⟩,
  -- HRD_LIMP_FRAME
  ⟨0x130004, 0, 1, 0, 1, .none, [⟨0, 32, .ro, .status, 0xffffffff, .none⟩]⟩,
  -- HRD_FOREIGN
  ⟨0x130008, 0, 1, 0, 1, .none, [⟨0, 32, .ro, .status, 0, .none⟩]⟩,
  -- HRD_LIMP_MEAS
  ⟨0x13000c, 0, 1, 0, 1, .none, [⟨0, 32, .ro, .status, 0, .none⟩]⟩,
  -- HRD_OUT_STAT
  ⟨0x130100, 0x20, 8, 0, 1, .none, [⟨0, 16, .ro, .status, 0, .none⟩, ⟨16, 1, .ro, .status, 0, .none⟩, ⟨17, 1, .ro, .status, 0, .none⟩, ⟨18, 1, .ro, .status, 0, .none⟩, ⟨19, 5, .rsv, .none, 0, .none⟩, ⟨24, 8, .ro, .status, 0, .none⟩]⟩,
  -- HRD_OUT_LATCH
  ⟨0x130104, 0x20, 8, 0, 1, .none, [⟨0, 16, .ro, .status, 0, .none⟩, ⟨16, 16, .ro, .status, 0, .none⟩]⟩,
  -- HRD_OUT_VERDICT
  ⟨0x130108, 0x20, 8, 0, 1, .none, [⟨0, 32, .ro, .status, 0xffffffff, .none⟩]⟩,
  -- HRD_OUT_LIVE
  ⟨0x13010c, 0x20, 8, 0, 1, .none, [⟨0, 32, .ro, .status, 0xffffffff, .none⟩]⟩,
  -- HRD_OUT_PLANE_XY
  ⟨0x130110, 0x20, 8, 0, 1, .none, [⟨0, 32, .ro, .status, 0, .none⟩]⟩,
  -- HRD_OUT_PLANE_WH
  ⟨0x130114, 0x20, 8, 0, 1, .none, [⟨0, 32, .ro, .status, 0, .none⟩]⟩,
  -- HRD_OUT_XCHK
  ⟨0x130118, 0x20, 8, 0, 1, .none, [⟨0, 16, .ro, .status, 0, .none⟩, ⟨16, 1, .ro, .status, 0, .none⟩, ⟨17, 7, .ro, .status, 0, .none⟩, ⟨24, 8, .ro, .status, 0, .none⟩]⟩,
  -- HRD_OUT_FULL
  ⟨0x13011c, 0x20, 8, 0, 1, .none, [⟨0, 32, .ro, .status, 0, .none⟩]⟩,
  -- HRD_OUT_R_CFG
  ⟨0x130800, 0x100, 8, 0x10, 16, .none, [⟨0, 8, .ro, .status, 0, .none⟩, ⟨8, 8, .ro, .status, 0, .none⟩, ⟨16, 8, .ro, .status, 0, .none⟩, ⟨24, 1, .ro, .status, 0, .none⟩, ⟨25, 1, .ro, .status, 0, .none⟩, ⟨26, 1, .ro, .status, 0, .none⟩, ⟨27, 1, .ro, .status, 0, .none⟩, ⟨28, 4, .rsv, .none, 0, .none⟩]⟩,
  -- HRD_OUT_R_XY
  ⟨0x130804, 0x100, 8, 0x10, 16, .none, [⟨0, 32, .ro, .status, 0, .none⟩]⟩]

/-- Register rows, part 5. -/
def regRows5 : List RegRow := [
  -- HRD_OUT_R_WH
  ⟨0x130808, 0x100, 8, 0x10, 16, .none, [⟨0, 32, .ro, .status, 0, .none⟩]⟩,
  -- HRD_OUT_R_MEAS
  ⟨0x13080c, 0x100, 8, 0x10, 16, .none, [⟨0, 32, .ro, .status, 0, .none⟩]⟩,
  -- ANV_ID
  ⟨0x140000, 0, 1, 0, 1, .scrub, [⟨0, 3, .ro, .status, 0, .none⟩, ⟨3, 5, .rsv, .none, 0, .none⟩, ⟨8, 8, .ro, .status, 0, .none⟩, ⟨16, 4, .ro, .status, 8, .none⟩, ⟨20, 12, .rsv, .none, 0, .none⟩]⟩,
  -- ANV_STAT
  ⟨0x140004, 0, 1, 0, 1, .scrub, [⟨0, 3, .ro, .status, 0, .none⟩, ⟨3, 1, .ro, .status, 0, .none⟩, ⟨4, 1, .ro, .status, 0, .none⟩, ⟨5, 1, .ro, .status, 0, .none⟩, ⟨6, 10, .rsv, .none, 0, .none⟩, ⟨16, 16, .ro, .status, 0, .none⟩]⟩,
  -- ANV_FREE
  ⟨0x140008, 0, 1, 0, 1, .scrub, [⟨0, 8, .ro, .status, 0, .none⟩, ⟨8, 8, .ro, .status, 0, .none⟩, ⟨16, 8, .ro, .status, 0, .none⟩, ⟨24, 8, .rsv, .none, 0, .none⟩]⟩,
  -- ANV_SCRUB_CFG
  ⟨0x14000c, 0, 1, 0, 1, .scrub, [⟨0, 16, .rw, .c, 0x9c40, .atLeast 100⟩, ⟨16, 15, .rsv, .none, 0, .none⟩, ⟨31, 1, .rw, .d, 1, .none⟩]⟩,
  -- ANV_CE_COUNT
  ⟨0x140010, 0, 1, 0, 1, .scrub, [⟨0, 32, .ro, .status, 0, .none⟩]⟩,
  -- ANV_UE_COUNT
  ⟨0x140014, 0, 1, 0, 1, .scrub, [⟨0, 32, .ro, .status, 0, .none⟩]⟩,
  -- ANV_CHAN_FAIL
  ⟨0x140018, 0, 1, 0, 1, .scrub, [⟨0, 24, .ro, .status, 0, .none⟩, ⟨24, 8, .rsv, .none, 0, .none⟩]⟩,
  -- ANV_BAR2_REF
  ⟨0x14001c, 0, 1, 0, 1, .scrub, [⟨0, 32, .ro, .status, 0, .none⟩]⟩,
  -- ANV_UE_ADDR
  ⟨0x140020, 0, 1, 0, 1, .scrub, [⟨0, 32, .ro, .status, 0, .none⟩]⟩,
  -- ANV_OWN
  ⟨0x140100, 0x4, 48, 0, 1, .none, [⟨0, 32, .ro, .status, 0, .none⟩]⟩,
  -- DRC_ID
  ⟨0x150000, 0, 1, 0, 1, .drc, [⟨0, 3, .ro, .status, 0, .none⟩, ⟨3, 1, .ro, .status, 0, .none⟩, ⟨4, 1, .ro, .status, 0, .none⟩, ⟨5, 11, .rsv, .none, 0, .none⟩, ⟨16, 16, .ro, .status, 0, .none⟩]⟩,
  -- DRC_CFG
  ⟨0x150004, 0, 1, 0, 1, .drc, [⟨0, 13, .rw, .c, 0, .none⟩, ⟨13, 1, .rw, .c, 0, .none⟩, ⟨14, 1, .rw, .c, 0, .none⟩, ⟨15, 1, .rw, .c, 0, .none⟩, ⟨16, 4, .rw, .c, 0, .none⟩, ⟨20, 12, .rsv, .none, 0, .none⟩]⟩,
  -- DRC_CTRL
  ⟨0x150008, 0, 1, 0, 1, .drc, [⟨0, 1, .rw, .d, 0, .none⟩, ⟨1, 3, .rw, .d, 1, .none⟩, ⟨4, 28, .rsv, .none, 0, .none⟩]⟩,
  -- DRC_STAT
  ⟨0x15000c, 0, 1, 0, 1, .drc, [⟨0, 1, .ro, .status, 0, .none⟩, ⟨1, 1, .ro, .status, 0, .none⟩, ⟨2, 1, .ro, .status, 0, .none⟩, ⟨3, 3, .ro, .status, 1, .none⟩, ⟨6, 4, .ro, .status, 0, .none⟩, ⟨10, 6, .rsv, .none, 0, .none⟩, ⟨16, 16, .ro, .status, 0, .none⟩]⟩,
  -- DRC_CAP
  ⟨0x150010, 0, 1, 0, 1, .drc, [⟨0, 16, .ro, .status, 0, .none⟩, ⟨16, 16, .ro, .status, 0, .none⟩]⟩,
  -- DRC_RSV0
  ⟨0x150014, 0, 1, 0, 1, .drc, [⟨0, 16, .rw, .c, 0, .none⟩, ⟨16, 16, .rw, .c, 0x20, .none⟩]⟩,
  -- DRC_RSV1
  ⟨0x150018, 0, 1, 0, 1, .drc, [⟨0, 16, .rw, .c, 8, .none⟩, ⟨16, 16, .rw, .c, 8, .none⟩]⟩,
  -- DRC_SHARE
  ⟨0x15001c, 0, 1, 0, 1, .drc, [⟨0, 16, .ro, .status, 0, .none⟩, ⟨16, 16, .ro, .status, 0, .none⟩]⟩,
  -- DRC_LAT
  ⟨0x150020, 0, 1, 0, 1, .drc, [⟨0, 8, .rw, .c, 0x28, .none⟩, ⟨8, 8, .rw, .c, 0x14, .none⟩, ⟨16, 8, .rw, .c, 0x14, .none⟩, ⟨24, 8, .rsv, .none, 0, .none⟩]⟩,
  -- DRC_LATMAX
  ⟨0x150024, 0, 1, 0, 1, .drc, [⟨0, 16, .ro, .status, 0, .none⟩, ⟨16, 16, .ro, .status, 0, .none⟩]⟩,
  -- DRC_SR_CFG
  ⟨0x150028, 0, 1, 0, 1, .drc, [⟨0, 16, .rw, .d, 0x32, .atLeast 1⟩, ⟨16, 1, .rw, .d, 1, .none⟩, ⟨17, 15, .rsv, .none, 0, .none⟩]⟩,
  -- DRC_SR_STAT
  ⟨0x15002c, 0, 1, 0, 1, .drc, [⟨0, 16, .ro, .status, 0, .none⟩, ⟨16, 16, .ro, .status, 0, .none⟩]⟩]

/-- Register rows, part 6. -/
def regRows6 : List RegRow := [
  -- DRC_ECC_CE
  ⟨0x150030, 0, 1, 0, 1, .drc, [⟨0, 32, .ro, .status, 0, .none⟩]⟩,
  -- DRC_ECC_UE
  ⟨0x150034, 0, 1, 0, 1, .drc, [⟨0, 32, .ro, .status, 0, .none⟩]⟩,
  -- DRC_ECC_ADDR_LO
  ⟨0x150038, 0, 1, 0, 1, .drc, [⟨0, 32, .ro, .status, 0, .none⟩]⟩,
  -- DRC_ECC_ADDR_HI
  ⟨0x15003c, 0, 1, 0, 1, .drc, [⟨0, 32, .ro, .status, 0, .none⟩]⟩,
  -- DRC_FW_REF
  ⟨0x150040, 0, 1, 0, 1, .drc, [⟨0, 32, .ro, .status, 0, .none⟩]⟩,
  -- DRC_RT_CFG
  ⟨0x150048, 0, 1, 0, 1, .drc, [⟨0, 16, .rw, .d, 0x64, .atLeast 10⟩, ⟨16, 8, .rw, .d, 0xa, .none⟩, ⟨24, 1, .rw, .d, 1, .none⟩, ⟨25, 7, .rsv, .none, 0, .none⟩]⟩,
  -- DRC_T_CTRL
  ⟨0x150100, 0, 1, 0, 1, .drc, [⟨0, 3, .rw, .d, 0, .none⟩, ⟨3, 2, .rw, .d, 0, .none⟩, ⟨5, 1, .rw, .d, 0, .none⟩, ⟨6, 1, .rw, .d, 0, .none⟩, ⟨7, 1, .rsv, .none, 0, .none⟩, ⟨8, 16, .rw, .d, 0, .none⟩, ⟨24, 7, .rsv, .none, 0, .none⟩, ⟨31, 1, .wo, .d, 0, .none⟩]⟩,
  -- DRC_T_ADDR
  ⟨0x150104, 0, 1, 0, 1, .drc, [⟨0, 32, .rw, .d, 0, .none⟩]⟩,
  -- DRC_T_STAT
  ⟨0x150108, 0, 1, 0, 1, .drc, [⟨0, 1, .ro, .status, 0, .none⟩, ⟨1, 1, .ro, .status, 0, .none⟩, ⟨2, 14, .rsv, .none, 0, .none⟩, ⟨16, 16, .ro, .status, 0, .none⟩]⟩,
  -- DRC_T_FAIL
  ⟨0x150120, 0, 1, 0, 1, .drc, [⟨0, 32, .w1c, .status, 0, .none⟩]⟩,
  -- DRC_T_CFG
  ⟨0x150124, 0, 1, 0, 1, .drc, [⟨0, 8, .rw, .d, 0x20, .none⟩, ⟨8, 24, .rsv, .none, 0, .none⟩]⟩,
  -- DRC_T_DLY_IDX
  ⟨0x150130, 0, 1, 0, 1, .drc, [⟨0, 2, .rw, .d, 0, .none⟩, ⟨2, 2, .rw, .d, 0, .none⟩, ⟨4, 3, .rw, .d, 0, .none⟩, ⟨7, 1, .rw, .d, 0, .none⟩, ⟨8, 4, .rw, .d, 0, .none⟩, ⟨12, 20, .rsv, .none, 0, .none⟩]⟩,
  -- DRC_T_DLY
  ⟨0x150134, 0, 1, 0, 1, .drc, [⟨0, 16, .rw, .d, 0, .none⟩, ⟨16, 16, .rsv, .none, 0, .none⟩]⟩,
  -- DRC_T_PAT
  ⟨0x150110, 0x4, 4, 0, 1, .none, [⟨0, 32, .rw, .d, 0, .none⟩]⟩,
  -- ULX_ID
  ⟨0x160000, 0, 1, 0, 1, .ulx, [⟨0, 1, .ro, .status, 1, .none⟩, ⟨1, 3, .rsv, .none, 0, .none⟩, ⟨4, 4, .ro, .status, 4, .none⟩, ⟨8, 24, .rsv, .none, 0, .none⟩]⟩,
  -- ULX_CFG
  ⟨0x160004, 0, 1, 0, 1, .ulx, [⟨0, 1, .rw, .c, 0, .none⟩, ⟨1, 7, .rsv, .none, 0, .none⟩, ⟨8, 8, .rw, .c, 0x64, .atLeast 20⟩, ⟨16, 8, .rw, .c, 0xa, .atLeast 1⟩, ⟨24, 8, .rsv, .none, 0, .none⟩]⟩,
  -- ULX_CTRL
  ⟨0x160008, 0, 1, 0, 1, .ulx, [⟨0, 1, .rw, .d, 1, .none⟩, ⟨1, 31, .rsv, .none, 0, .none⟩]⟩,
  -- ULX_STAT
  ⟨0x16000c, 0, 1, 0, 1, .ulx, [⟨0, 2, .ro, .status, 0, .none⟩, ⟨2, 1, .ro, .status, 0, .none⟩, ⟨3, 1, .ro, .status, 0, .none⟩, ⟨4, 1, .ro, .status, 0, .none⟩, ⟨5, 1, .ro, .status, 0, .none⟩, ⟨6, 3, .ro, .status, 0, .none⟩, ⟨9, 1, .w1c, .status, 0, .none⟩, ⟨10, 1, .w1c, .status, 0, .none⟩, ⟨11, 13, .rsv, .none, 0, .none⟩, ⟨24, 8, .ro, .status, 0, .none⟩]⟩,
  -- ULX_HOLD
  ⟨0x160010, 0, 1, 0, 1, .ulx, [⟨0, 8, .ro, .status, 0, .none⟩, ⟨8, 8, .ro, .status, 0, .none⟩, ⟨16, 8, .ro, .status, 0, .none⟩, ⟨24, 8, .ro, .status, 0, .none⟩]⟩,
  -- ULX_LINK
  ⟨0x160014, 0, 1, 0, 1, .ulx, [⟨0, 16, .ro, .status, 0, .none⟩, ⟨16, 16, .ro, .status, 0, .none⟩]⟩,
  -- ULX_LAT
  ⟨0x160018, 0, 1, 0, 1, .ulx, [⟨0, 16, .ro, .status, 0, .none⟩, ⟨16, 16, .ro, .status, 0, .none⟩]⟩,
  -- ULX_COPY
  ⟨0x16001c, 0, 1, 0, 1, .ulx, [⟨0, 32, .ro, .status, 0, .none⟩]⟩,
  -- ULX_FWD
  ⟨0x160020, 0, 1, 0, 1, .ulx, [⟨0, 32, .ro, .status, 0, .none⟩]⟩,
  -- ULX_LAST
  ⟨0x160024, 0, 1, 0, 1, .ulx, [⟨0, 8, .ro, .status, 0, .none⟩, ⟨8, 2, .ro, .status, 0, .none⟩, ⟨10, 22, .rsv, .none, 0, .none⟩]⟩]

/-- Register rows, part 7. -/
def regRows7 : List RegRow := [
  -- ULX_LAST_FRAME
  ⟨0x160028, 0, 1, 0, 1, .ulx, [⟨0, 32, .ro, .status, 0xffffffff, .none⟩]⟩,
  -- AUD_CFG
  ⟨0x170004, 0, 1, 0, 1, .aud, [⟨0, 1, .rw, .d, 0, .none⟩, ⟨1, 1, .rw, .c, 0, .none⟩, ⟨2, 6, .rsv, .none, 0, .none⟩, ⟨8, 8, .rw, .c, 0x14, .atLeast 5⟩, ⟨16, 16, .rsv, .none, 0, .none⟩]⟩,
  -- AUD_DUCK
  ⟨0x170008, 0, 1, 0, 1, .aud, [⟨0, 16, .rw, .c, 0xec00, .none⟩, ⟨16, 8, .rw, .c, 0xa, .atLeast 1⟩, ⟨24, 8, .rw, .c, 0x14, .atLeast 1⟩]⟩,
  -- AUD_DUCK_STAT
  ⟨0x17000c, 0, 1, 0, 1, .aud, [⟨0, 16, .ro, .status, 0, .none⟩, ⟨16, 16, .rsv, .none, 0, .none⟩]⟩,
  -- AUD_STAT
  ⟨0x170010, 0, 1, 0, 1, .aud, [⟨0, 1, .ro, .status, 0, .none⟩, ⟨1, 1, .ro, .status, 0, .none⟩, ⟨2, 1, .w1c, .status, 0, .none⟩, ⟨3, 1, .w1c, .status, 0, .none⟩, ⟨4, 1, .w1c, .status, 0, .none⟩, ⟨5, 1, .w1c, .status, 0, .none⟩, ⟨6, 1, .w1c, .status, 0, .none⟩, ⟨7, 9, .rsv, .none, 0, .none⟩, ⟨16, 16, .ro, .status, 0, .none⟩]⟩,
  -- AUD_PDM_CFG
  ⟨0x170014, 0, 1, 0, 1, .aud, [⟨0, 8, .rw, .c, 0, .none⟩, ⟨8, 8, .rw, .c, 0, .none⟩, ⟨16, 16, .rsv, .none, 0, .none⟩]⟩,
  -- AUD_BYP
  ⟨0x170018, 0, 1, 0, 1, .aud, [⟨0, 16, .ro, .status, 0, .none⟩, ⟨16, 16, .rsv, .none, 0, .none⟩]⟩,
  -- AUD_TDM_CFG
  ⟨0x170020, 0x4, 4, 0, 1, .tdm, [⟨0, 1, .rw, .d, 0, .none⟩, ⟨1, 1, .rw, .c, 1, .none⟩, ⟨2, 1, .rw, .c, 0, .none⟩, ⟨3, 4, .rw, .c, 1, .none⟩, ⟨7, 2, .rw, .c, 2, .threeAs 2⟩, ⟨9, 1, .rw, .c, 1, .none⟩, ⟨10, 1, .rw, .c, 0, .none⟩, ⟨11, 1, .rw, .c, 0, .none⟩, ⟨12, 20, .rsv, .none, 0, .none⟩]⟩,
  -- AUD_TDMIN_MAP
  ⟨0x170040, 0x4, 8, 0, 1, .none, [⟨0, 2, .rw, .d, 0, .none⟩, ⟨2, 2, .rsv, .none, 0, .none⟩, ⟨4, 4, .rw, .d, 0, .none⟩, ⟨8, 23, .rsv, .none, 0, .none⟩, ⟨31, 1, .rw, .d, 0, .none⟩]⟩,
  -- AUD_OUT_MAP
  ⟨0x170080, 0x4, 16, 0, 1, .none, [⟨0, 2, .rw, .d, 0, .none⟩, ⟨2, 14, .rsv, .none, 0, .none⟩, ⟨16, 16, .rw, .d, 0, .none⟩]⟩,
  -- AUD_CHIME
  ⟨0x170100, 0x4, 4, 0, 1, .none, [⟨0, 6, .ro, .status, 0, .none⟩, ⟨6, 1, .ro, .status, 0, .none⟩, ⟨7, 1, .ro, .status, 0, .none⟩, ⟨8, 8, .ro, .status, 0, .none⟩, ⟨16, 16, .ro, .status, 0, .none⟩]⟩,
  -- TCH_ID
  ⟨0x180000, 0, 1, 0, 1, .tch, [⟨0, 4, .ro, .status, 0, .none⟩, ⟨4, 4, .rsv, .none, 0, .none⟩, ⟨8, 7, .ro, .status, 0, .none⟩, ⟨15, 17, .rsv, .none, 0, .none⟩]⟩,
  -- TCH_RATE
  ⟨0x180004, 0, 1, 0, 1, .tch, [⟨0, 8, .rw, .d, 5, .none⟩, ⟨8, 8, .rw, .d, 0xa, .none⟩, ⟨16, 8, .rw, .d, 0x1e, .none⟩, ⟨24, 8, .rw, .d, 0x3c, .none⟩]⟩,
  -- TCH_GSTAT
  ⟨0x180008, 0, 1, 0, 1, .tch, [⟨0, 3, .ro, .status, 0, .none⟩, ⟨3, 5, .rsv, .none, 0, .none⟩, ⟨8, 8, .ro, .status, 0, .none⟩, ⟨16, 8, .ro, .status, 0, .none⟩, ⟨24, 8, .rsv, .none, 0, .none⟩]⟩,
  -- TCH_GSEL
  ⟨0x18000c, 0, 1, 0, 1, .tch, [⟨0, 3, .rw, .d, 0, .none⟩, ⟨3, 29, .rsv, .none, 0, .none⟩]⟩,
  -- TCH_STAT
  ⟨0x180010, 0, 1, 0, 1, .tch, [⟨0, 12, .ro, .status, 0, .none⟩, ⟨12, 4, .rsv, .none, 0, .none⟩, ⟨16, 12, .ro, .status, 0, .none⟩, ⟨28, 1, .ro, .status, 0, .none⟩, ⟨29, 3, .rsv, .none, 0, .none⟩]⟩,
  -- TCH_SLG
  ⟨0x180014, 0, 1, 0, 1, .tch, [⟨0, 1, .w1c, .status, 0, .none⟩, ⟨1, 1, .w1c, .status, 0, .none⟩, ⟨2, 1, .w1c, .status, 0, .none⟩, ⟨3, 1, .w1c, .status, 0, .none⟩, ⟨4, 1, .w1c, .status, 0, .none⟩, ⟨5, 27, .rsv, .none, 0, .none⟩]⟩,
  -- TCH_GRP_OPT
  ⟨0x180018, 0, 1, 0, 1, .tch, [⟨0, 2, .rw, .c, 0, .threeAs 0⟩, ⟨2, 1, .rw, .c, 0, .none⟩, ⟨3, 5, .rsv, .none, 0, .none⟩, ⟨8, 8, .rw, .c, 0x20, .atLeast 1⟩, ⟨16, 16, .rw, .c, 0x100, .none⟩]⟩,
  -- TCH_REPSEQ
  ⟨0x18001c, 0, 1, 0, 1, .tch, [⟨0, 32, .ro, .status, 0, .none⟩]⟩,
  -- TCH_EL_RAW
  ⟨0x180100, 0x8, 12, 0, 1, .none, [⟨0, 16, .ro, .status, 0, .none⟩, ⟨16, 16, .ro, .status, 0, .none⟩]⟩,
  -- TCH_EL_ST
  ⟨0x180104, 0x8, 12, 0, 1, .none, [⟨0, 16, .ro, .status, 0, .none⟩, ⟨16, 1, .ro, .status, 0, .none⟩, ⟨17, 1, .ro, .status, 0, .none⟩, ⟨18, 1, .ro, .status, 0, .none⟩, ⟨19, 13, .rsv, .none, 0, .none⟩]⟩,
  -- TCH_REF
  ⟨0x180200, 0x4, 48, 0, 1, .none, [⟨0, 16, .ro, .status, 0, .none⟩, ⟨16, 16, .ro, .status, 0, .none⟩]⟩,
  -- HAP_ID
  ⟨0x190000, 0, 1, 0, 1, .hap, [⟨0, 4, .ro, .status, 0, .none⟩, ⟨4, 28, .rsv, .none, 0, .none⟩]⟩,
  -- HAP_SEL
  ⟨0x190004, 0, 1, 0, 1, .hap, [⟨0, 3, .rw, .d, 0, .none⟩, ⟨3, 29, .rsv, .none, 0, .none⟩]⟩]

/-- Register rows, part 8. -/
def regRows8 : List RegRow := [
  -- HAP_STAT
  ⟨0x190010, 0, 1, 0, 1, .hap, [⟨0, 3, .ro, .status, 0, .none⟩, ⟨3, 1, .ro, .status, 0, .none⟩, ⟨4, 1, .ro, .status, 0, .none⟩, ⟨5, 1, .ro, .status, 0, .none⟩, ⟨6, 1, .w1c, .status, 0, .none⟩, ⟨7, 1, .w1c, .status, 0, .none⟩, ⟨8, 1, .w1c, .status, 0, .none⟩, ⟨9, 7, .rsv, .none, 0, .none⟩, ⟨16, 8, .ro, .status, 0, .none⟩, ⟨24, 8, .rsv, .none, 0, .none⟩]⟩,
  -- HAP_DRV
  ⟨0x190014, 0, 1, 0, 1, .hap, [⟨0, 10, .rw, .c, 0xfa, .none⟩, ⟨10, 6, .rsv, .none, 0, .none⟩, ⟨16, 16, .rw, .c, 0, .none⟩]⟩,
  -- HAP_TIM
  ⟨0x190018, 0, 1, 0, 1, .hap, [⟨0, 12, .rw, .c, 0xc8, .none⟩, ⟨12, 4, .rsv, .none, 0, .none⟩, ⟨16, 9, .rw, .c, 0x64, .clamp 0 400⟩, ⟨25, 7, .rsv, .none, 0, .none⟩]⟩,
  -- HAP_LIM
  ⟨0x19001c, 0, 1, 0, 1, .hap, [⟨0, 9, .rw, .c, 0x32, .clamp 20 500⟩, ⟨9, 7, .rsv, .none, 0, .none⟩, ⟨16, 12, .rw, .c, 0x40, .none⟩, ⟨28, 4, .rsv, .none, 0, .none⟩]⟩,
  -- HAP_FREQ
  ⟨0x190020, 0, 1, 0, 1, .hap, [⟨0, 20, .ro, .status, 0, .none⟩, ⟨20, 10, .ro, .status, 0, .none⟩, ⟨30, 2, .rsv, .none, 0, .none⟩]⟩,
  -- HAP_CNT
  ⟨0x190024, 0, 1, 0, 1, .hap, [⟨0, 16, .ro, .status, 0, .none⟩, ⟨16, 16, .ro, .status, 0, .none⟩]⟩,
  -- NET_ID
  ⟨0x1a0000, 0, 1, 0, 1, .net, [⟨0, 3, .ro, .status, 0, .none⟩, ⟨3, 29, .rsv, .none, 0, .none⟩]⟩,
  -- NET_CFG
  ⟨0x1a0004, 0, 1, 0, 1, .net, [⟨0, 1, .rw, .d, 0, .none⟩, ⟨1, 3, .rw, .c, 5, .none⟩, ⟨4, 28, .rsv, .none, 0, .none⟩]⟩,
  -- NET_IP
  ⟨0x1a0008, 0, 1, 0, 1, .net, [⟨0, 32, .rw, .c, 0, .none⟩]⟩,
  -- NET_MAC_LO
  ⟨0x1a000c, 0, 1, 0, 1, .net, [⟨0, 32, .rw, .c, 0, .none⟩]⟩,
  -- NET_MAC_HI
  ⟨0x1a0010, 0, 1, 0, 1, .net, [⟨0, 16, .rw, .c, 0, .none⟩, ⟨16, 16, .rsv, .none, 0, .none⟩]⟩,
  -- NET_UDP
  ⟨0x1a0014, 0, 1, 0, 1, .net, [⟨0, 16, .rw, .c, 0, .none⟩, ⟨16, 16, .rw, .c, 0, .none⟩]⟩,
  -- NET_PCP_MAP
  ⟨0x1a0018, 0, 1, 0, 1, .net, [⟨0, 24, .rw, .c, 0xfac688, .none⟩, ⟨24, 8, .rsv, .none, 0, .none⟩]⟩,
  -- NET_PTP_CFG
  ⟨0x1a0200, 0, 1, 0, 1, .ptp, [⟨0, 1, .rw, .d, 0, .none⟩, ⟨1, 7, .rsv, .none, 0, .none⟩, ⟨8, 8, .rw, .c, 0xf8, .none⟩, ⟨16, 16, .rsv, .none, 0, .none⟩]⟩,
  -- NET_PTP_STAT
  ⟨0x1a0204, 0, 1, 0, 1, .net, [⟨0, 1, .ro, .status, 0, .none⟩, ⟨1, 1, .ro, .status, 0, .none⟩, ⟨2, 3, .ro, .status, 0, .none⟩, ⟨5, 27, .rsv, .none, 0, .none⟩]⟩,
  -- NET_PTP_OFFSET
  ⟨0x1a0208, 0, 1, 0, 1, .net, [⟨0, 32, .ro, .status, 0, .none⟩]⟩,
  -- NET_MDIO
  ⟨0x1a0300, 0, 1, 0, 1, .net, [⟨0, 16, .rw, .d, 0, .none⟩, ⟨16, 5, .rw, .d, 0, .none⟩, ⟨21, 5, .rw, .d, 0, .none⟩, ⟨26, 2, .rw, .d, 0, .none⟩, ⟨28, 1, .rw, .d, 0, .none⟩, ⟨29, 1, .ro, .status, 0, .none⟩, ⟨30, 1, .ro, .status, 0, .none⟩, ⟨31, 1, .wo, .d, 0, .none⟩]⟩,
  -- NET_VLAN
  ⟨0x1a0400, 0x4, 64, 0, 1, .net, [⟨0, 12, .rw, .c, 0, .none⟩, ⟨12, 4, .rw, .c, 0, .none⟩, ⟨16, 1, .rw, .c, 0, .none⟩, ⟨17, 14, .rsv, .none, 0, .none⟩, ⟨31, 1, .rw, .c, 0, .none⟩]⟩,
  -- NET_DROP
  ⟨0x1a0020, 0x4, 8, 0, 1, .none, [⟨0, 32, .ro, .status, 0, .none⟩]⟩,
  -- NET_P_CFG
  ⟨0x1a0100, 0x20, 4, 0, 1, .netPort, [⟨0, 1, .rw, .d, 0, .none⟩, ⟨1, 2, .rw, .c, 0, .none⟩, ⟨3, 1, .rw, .c, 1, .none⟩, ⟨4, 28, .rsv, .none, 0, .none⟩]⟩,
  -- NET_P_STAT
  ⟨0x1a0104, 0x20, 4, 0, 1, .netPort, [⟨0, 1, .ro, .status, 0, .none⟩, ⟨1, 3, .ro, .status, 0, .none⟩, ⟨4, 1, .w1c, .status, 0, .none⟩, ⟨5, 27, .rsv, .none, 0, .none⟩]⟩,
  -- NET_P_CBS
  ⟨0x1a0108, 0x20, 4, 0, 1, .netPort, [⟨0, 10, .rw, .c, 0xc8, .none⟩, ⟨10, 6, .rsv, .none, 0, .none⟩, ⟨16, 10, .rw, .c, 0, .none⟩, ⟨26, 6, .rsv, .none, 0, .none⟩]⟩,
  -- NET_P_RSV
  ⟨0x1a010c, 0x20, 4, 0, 1, .netPort, [⟨0, 16, .ro, .status, 0, .none⟩, ⟨16, 16, .ro, .status, 0, .none⟩]⟩,
  -- MBX_ID
  ⟨0x1b0000, 0, 1, 0, 1, .none, [⟨0, 6, .ro, .status, 0x20, .none⟩, ⟨6, 26, .rsv, .none, 0, .none⟩]⟩]

/-- Register rows, part 9. -/
def regRows9 : List RegRow := [
  -- MBX_LOCK
  ⟨0x1b0004, 0, 1, 0, 1, .none, [⟨0, 1, .w1, .d, 0, .none⟩, ⟨1, 31, .rsv, .none, 0, .none⟩]⟩,
  -- MBX_PEND
  ⟨0x1b0008, 0, 1, 0, 1, .none, [⟨0, 32, .ro, .status, 0, .none⟩]⟩,
  -- MBX_CH_CFG
  ⟨0x1b0100, 0x40, 32, 0, 1, .none, [⟨0, 8, .wl, .d, 0, .none⟩, ⟨8, 8, .wl, .d, 0, .none⟩, ⟨16, 1, .wl, .d, 0, .none⟩, ⟨17, 1, .wl, .d, 0, .none⟩, ⟨18, 14, .rsv, .none, 0, .none⟩]⟩,
  -- MBX_CH_STAT
  ⟨0x1b0104, 0x40, 32, 0, 1, .none, [⟨0, 4, .ro, .status, 0, .none⟩, ⟨4, 1, .w1c, .status, 0, .none⟩, ⟨5, 1, .w1c, .status, 0, .none⟩, ⟨6, 1, .ro, .status, 0, .none⟩, ⟨7, 1, .rsv, .none, 0, .none⟩, ⟨8, 8, .ro, .status, 0, .none⟩, ⟨16, 16, .rsv, .none, 0, .none⟩]⟩,
  -- MBX_CH_TX
  ⟨0x1b0110, 0x40, 32, 0x4, 4, .none, [⟨0, 32, .wo, .d, 0, .none⟩]⟩,
  -- MBX_CH_RX
  ⟨0x1b0120, 0x40, 32, 0x4, 4, .none, [⟨0, 32, .ro, .status, 0, .none⟩]⟩,
  -- LCK_REQ
  ⟨0x1c0000, 0x4, 64, 0, 1, .none, [⟨0, 2, .wo, .d, 0, .none⟩, ⟨2, 30, .rsv, .none, 0, .none⟩]⟩,
  -- LCK_STAT
  ⟨0x1c0100, 0x4, 64, 0, 1, .none, [⟨0, 8, .ro, .status, 0, .none⟩, ⟨8, 1, .ro, .status, 0, .none⟩, ⟨9, 1, .ro, .status, 0, .none⟩, ⟨10, 1, .ro, .status, 0, .none⟩, ⟨11, 21, .rsv, .none, 0, .none⟩]⟩,
  -- LCK_HELD_LO
  ⟨0x1c0200, 0, 1, 0, 1, .none, [⟨0, 32, .ro, .status, 0, .none⟩]⟩,
  -- LCK_HELD_HI
  ⟨0x1c0204, 0, 1, 0, 1, .none, [⟨0, 32, .ro, .status, 0, .none⟩]⟩,
  -- LCK_FORCED
  ⟨0x1c0208, 0, 1, 0, 1, .none, [⟨0, 32, .ro, .status, 0, .none⟩]⟩,
  -- LCK_BADREL
  ⟨0x1c020c, 0, 1, 0, 1, .none, [⟨0, 32, .ro, .status, 0, .none⟩]⟩,
  -- CRC_ID
  ⟨0x1d0000, 0, 1, 0, 1, .none, [⟨0, 4, .ro, .status, 8, .none⟩, ⟨4, 28, .rsv, .none, 0, .none⟩]⟩,
  -- CRC_STAT
  ⟨0x1d0004, 0, 1, 0, 1, .none, [⟨0, 8, .ro, .status, 0, .none⟩, ⟨8, 24, .rsv, .none, 0, .none⟩]⟩,
  -- CRC_U_CTRL
  ⟨0x1d0100, 0x40, 8, 0, 1, .crc, [⟨0, 1, .rw, .d, 0, .none⟩, ⟨1, 1, .w1s, .d, 0, .none⟩, ⟨2, 1, .w1s, .d, 0, .none⟩, ⟨3, 1, .ro, .status, 0, .none⟩, ⟨4, 28, .rsv, .none, 0, .none⟩]⟩,
  -- CRC_U_CFG
  ⟨0x1d0104, 0x40, 8, 0, 1, .crc, [⟨0, 5, .rw, .c, 0x1f, .none⟩, ⟨5, 1, .rw, .c, 1, .none⟩, ⟨6, 1, .rw, .c, 1, .none⟩, ⟨7, 1, .rw, .c, 1, .none⟩, ⟨8, 2, .rw, .c, 0, .threeAs 0⟩, ⟨10, 22, .rsv, .none, 0, .none⟩]⟩,
  -- CRC_U_POLY
  ⟨0x1d0108, 0x40, 8, 0, 1, .crc, [⟨0, 32, .rw, .c, 0x1edc6f41, .none⟩]⟩,
  -- CRC_U_INIT
  ⟨0x1d010c, 0x40, 8, 0, 1, .crc, [⟨0, 32, .rw, .c, 0xffffffff, .none⟩]⟩,
  -- CRC_U_FOLD
  ⟨0x1d0110, 0x40, 8, 0, 1, .crc, [⟨0, 32, .rw, .c, 0, .none⟩]⟩,
  -- CRC_U_SEQ
  ⟨0x1d0114, 0x40, 8, 0, 1, .crc, [⟨0, 32, .rw, .c, 0, .none⟩]⟩,
  -- CRC_U_RUN
  ⟨0x1d0118, 0x40, 8, 0, 1, .crc, [⟨0, 32, .rw, .c, 0xffffffff, .none⟩]⟩,
  -- CRC_U_RESULT
  ⟨0x1d011c, 0x40, 8, 0, 1, .crc, [⟨0, 32, .ro, .status, 0, .none⟩]⟩,
  -- CRC_U_DATA
  ⟨0x1d0120, 0x40, 8, 0, 1, .crc, [⟨0, 32, .wo, .d, 0, .none⟩]⟩,
  -- CRC_U_STAT
  ⟨0x1d0124, 0x40, 8, 0, 1, .crc, [⟨0, 1, .w1c, .status, 0, .none⟩, ⟨1, 1, .w1c, .status, 0, .none⟩, ⟨2, 6, .rsv, .none, 0, .none⟩, ⟨8, 8, .ro, .status, 0, .none⟩, ⟨16, 16, .rsv, .none, 0, .none⟩]⟩]

/-- Register rows, part 10. -/
def regRows10 : List RegRow := [
  -- CRC_U_OWNER
  ⟨0x1d0128, 0x40, 8, 0, 1, .crc, [⟨0, 8, .rw, .c, 0x10, .owner⟩, ⟨8, 24, .rsv, .none, 0, .none⟩]⟩,
  -- FUS_ID
  ⟨0x1e0000, 0, 1, 0, 1, .none, [⟨0, 4, .ro, .status, 0, .none⟩, ⟨4, 1, .ro, .status, 0, .none⟩, ⟨5, 1, .ro, .status, 0, .none⟩, ⟨6, 2, .rsv, .none, 0, .none⟩, ⟨8, 8, .ro, .status, 0, .none⟩, ⟨16, 1, .ro, .status, 0, .none⟩, ⟨17, 15, .rsv, .none, 0, .none⟩]⟩,
  -- FUS_UNITS
  ⟨0x1e0004, 0, 1, 0, 1, .none, [⟨0, 8, .ro, .status, 0, .none⟩, ⟨8, 6, .ro, .status, 0, .none⟩, ⟨14, 2, .rsv, .none, 0, .none⟩, ⟨16, 3, .ro, .status, 0, .none⟩, ⟨19, 1, .rsv, .none, 0, .none⟩, ⟨20, 4, .ro, .status, 0, .none⟩, ⟨24, 4, .ro, .status, 0, .none⟩, ⟨28, 1, .ro, .status, 0, .none⟩, ⟨29, 3, .rsv, .none, 0, .none⟩]⟩,
  -- FUS_PCI
  ⟨0x1e0008, 0, 1, 0, 1, .none, [⟨0, 16, .ro, .status, 0, .none⟩, ⟨16, 16, .ro, .status, 0, .none⟩]⟩,
  -- FUS_VFLOOR
  ⟨0x1e000c, 0, 1, 0, 1, .none, [⟨0, 32, .ro, .status, 0, .none⟩]⟩,
  -- FUS_TRIM
  ⟨0x1e0010, 0, 1, 0, 1, .none, [⟨0, 16, .ro, .status, 0, .none⟩, ⟨16, 16, .rsv, .none, 0, .none⟩]⟩,
  -- FUS_ROWS
  ⟨0x1e0014, 0, 1, 0, 1, .none, [⟨0, 8, .ro, .status, 0, .none⟩, ⟨8, 1, .ro, .status, 0, .none⟩, ⟨9, 23, .rsv, .none, 0, .none⟩]⟩,
  -- FUS_UID_LO
  ⟨0x1e0018, 0, 1, 0, 1, .none, [⟨0, 32, .ro, .status, 0, .none⟩]⟩,
  -- FUS_UID_HI
  ⟨0x1e001c, 0, 1, 0, 1, .none, [⟨0, 32, .ro, .status, 0, .none⟩]⟩,
  -- FUS_KEY
  ⟨0x1e0040, 0x30, 2, 0x4, 12, .none, [⟨0, 32, .ro, .status, 0, .none⟩]⟩,
  -- HRT_STAT
  ⟨0x1f0000, 0, 1, 0, 1, .none, [⟨0, 1, .ro, .status, 0, .none⟩, ⟨1, 1, .ro, .status, 0, .none⟩, ⟨2, 1, .ro, .status, 0, .none⟩, ⟨3, 29, .rsv, .none, 0, .none⟩]⟩,
  -- HRT_BOOT
  ⟨0x1f0004, 0, 1, 0, 1, .none, [⟨0, 4, .ro, .status, 0, .none⟩, ⟨4, 1, .ro, .status, 0, .none⟩, ⟨5, 1, .ro, .status, 0, .none⟩, ⟨6, 1, .ro, .status, 0, .none⟩, ⟨7, 1, .ro, .status, 0, .none⟩, ⟨8, 8, .ro, .status, 0, .none⟩, ⟨16, 16, .rsv, .none, 0, .none⟩]⟩,
  -- HRT_IMG_VER
  ⟨0x1f0008, 0, 1, 0, 1, .none, [⟨0, 32, .ro, .status, 0, .none⟩]⟩,
  -- HRT_TIME
  ⟨0x1f000c, 0, 1, 0, 1, .none, [⟨0, 32, .ro, .status, 0, .none⟩]⟩,
  -- HRT_AVS
  ⟨0x1f0020, 0, 1, 0, 1, .none, [⟨0, 10, .ro, .status, 0x320, .none⟩, ⟨10, 10, .ro, .status, 0, .none⟩, ⟨20, 1, .ro, .status, 0, .none⟩, ⟨21, 11, .rsv, .none, 0, .none⟩]⟩,
  -- HRT_DPR_STAT
  ⟨0x1f0400, 0, 1, 0, 1, .none, [⟨0, 12, .ro, .status, 0, .none⟩, ⟨12, 12, .ro, .status, 0, .none⟩, ⟨24, 1, .ro, .status, 0, .none⟩, ⟨25, 7, .rsv, .none, 0, .none⟩]⟩,
  -- HRT_MT_CFG
  ⟨0x1f0404, 0, 1, 0, 1, .none, [⟨0, 16, .ro, .status, 0x7d0, .none⟩, ⟨16, 1, .ro, .status, 1, .none⟩, ⟨17, 1, .ro, .status, 1, .none⟩, ⟨18, 1, .ro, .status, 1, .none⟩, ⟨19, 13, .rsv, .none, 0, .none⟩]⟩,
  -- HRT_MT_STAT
  ⟨0x1f0408, 0, 1, 0, 1, .none, [⟨0, 1, .ro, .status, 0, .none⟩, ⟨1, 1, .ro, .status, 0, .none⟩, ⟨2, 1, .ro, .status, 0, .none⟩, ⟨3, 1, .ro, .status, 0, .none⟩, ⟨4, 4, .rsv, .none, 0, .none⟩, ⟨8, 8, .ro, .status, 0, .none⟩, ⟨16, 8, .ro, .status, 0, .none⟩, ⟨24, 8, .ro, .status, 0, .none⟩]⟩,
  -- HRT_MT_PASS
  ⟨0x1f040c, 0, 1, 0, 1, .none, [⟨0, 8, .ro, .status, 0, .none⟩, ⟨8, 8, .ro, .status, 0, .none⟩, ⟨16, 8, .ro, .status, 0, .none⟩, ⟨24, 8, .rsv, .none, 0, .none⟩]⟩,
  -- HRT_MT_FAIL
  ⟨0x1f0410, 0, 1, 0, 1, .none, [⟨0, 2, .ro, .status, 0, .none⟩, ⟨2, 6, .ro, .status, 0, .none⟩, ⟨8, 6, .ro, .status, 0, .none⟩, ⟨14, 2, .rsv, .none, 0, .none⟩, ⟨16, 16, .ro, .status, 0, .none⟩]⟩]

/-- Every register row of the system pages. -/
def regRows : List RegRow :=
  regRows0 ++ regRows1 ++ regRows2 ++ regRows3 ++ regRows4 ++ regRows5 ++ regRows6 ++ regRows7 ++ regRows8 ++ regRows9 ++ regRows10

/-- A register found at an offset: its row and its two indexes. -/
structure RegHit where
  row : RegRow
  i : Nat
  k : Nat
  deriving DecidableEq, Repr

/-- Whether the row holds the register at `off`, and its indexes. -/
def RegRow.hit (r : RegRow) (off : Nat) : Option RegHit :=
  if off < r.base then none else
    let d := off - r.base
    let i := if r.n1 ≤ 1 then 0 else d / r.s1
    let e := d - i * r.s1
    let k := if r.n2 ≤ 1 then 0 else e / r.s2
    if i < r.n1 && k < r.n2 && e == k * r.s2 then some ⟨r, i, k⟩ else none

/-- The register assigned to a BAR0 offset of the system pages, if any. -/
def findReg (off : Nat) : Option RegHit := regRows.findSome? (fun r => r.hit off)

/-- The reset value of a row's register. -/
def RegRow.reset (r : RegRow) : Nat := r.fields.foldl (fun a f => a ||| (f.rst <<< f.lo)) 0

/-- The reset value of the register at `off`; 0 where none is assigned (R14). -/
def regReset (off : Nat) : Nat :=
  match findReg off with
  | some h => h.row.reset
  | none => 0

/-- The stored registers that differ from their reset value: key and value, keys strictly rising.
A key is the BAR0 offset, plus 0x1000_0000 times the bank for a register that a selector register banks. -/
abbrev RegFile := List (Nat × Word)

/-- Bank stride of a key. -/
def bankStride : Nat := 0x10000000

/-- The value stored under `key`: an unlisted register holds its reset value. -/
def RegFile.get (r : RegFile) (key : Nat) : Word :=
  match r.find? (fun e => e.1 == key) with
  | some e => e.2
  | none => BitVec.ofNat 32 (regReset (key % bankStride))

/-- Inserts a pair, keys staying in rising order. -/
def RegFile.ins (r : RegFile) (key : Nat) (v : Word) : RegFile :=
  match r with
  | [] => [(key, v)]
  | e :: es => if e.1 < key then e :: RegFile.ins es key v else (key, v) :: e :: es

/-- Stores `v` under `key`, keeping the canonical form. -/
def RegFile.put (r : RegFile) (key : Nat) (v : Word) : RegFile :=
  let r' := r.filter (fun e => e.1 != key)
  if v == BitVec.ofNat 32 (regReset (key % bankStride)) then r' else RegFile.ins r' key v

/-- Keys strictly rising and no entry at its reset value. -/
def RegFile.wf (r : RegFile) : Bool :=
  (r.zip (r.drop 1)).all (fun p => p.1.1 < p.2.1) &&
  r.all (fun e => e.2 != BitVec.ofNat 32 (regReset (e.1 % bankStride)))

end Sys2Proof.Machine
end

