-- ==== Sys2Proof/Machine/StCluster.lean ====
section
/-! DEFINITION. What the Crucible cluster and the raster pipeline hold: bundles with their registers, masks and outstanding
returns (R377-R382, R401), workgroups with their scratch (R383), jobs, the raster job state (R352), draws in progress and
the targets' cached and flagged tiles (R345-R371), save areas (R394) and failed cores (R397). -/
namespace Sys2Proof.Machine

/-- Where a bundle stands (R394 STATE). Memory wait, code 1, follows from the outstanding returns. -/
inductive BState where
  | ready | barrier
  /-- Waiting for lock `k` by the strand of this lane. -/
  | lock (k lane : Nat)
  | exited
  deriving DecidableEq, Repr

/-- One lane of a fragment bundle: pixel, whether its fragment can reach a target (covered, and passed early tests), depth
(R360). -/
structure Frag where
  x : Nat
  y : Nat
  live : Bool
  z : Nat
  vary : List Nat
  deriving DecidableEq, Repr

/-- An outstanding load, atomic or sampling request: whether it is a sample, the first destination register and their
number, and the values to be written, by register and lane. -/
structure Pend where
  sample : Bool
  reg : Nat
  count : Nat
  vals : List (Nat × Nat × Word)
  deriving DecidableEq, Repr

/-- The words of a bundle's registers that are not 0: 16 × register + lane and the word, rising. -/
abbrev VRegs := List (Nat × Word)

/-- A bundle (R377, R394, R401). KIND: 0 compute, 1 vertex, 2 fragment. -/
structure Bundle where
  slice : Nat
  seq : Word
  core : Nat
  slot : Nat
  kind : Nat
  /-- Workgroup index of a compute bundle. -/
  wg : Nat
  /-- Bundle index in the workgroup, or the first draw entry of a vertex bundle. -/
  idx : Nat
  /-- Number of the last issue on the cluster, for the order of R378. -/
  issued : Nat
  pc : Word
  exec : BitVec 16
  live : BitVec 16
  p : List (BitVec 16)
  regs : Nat
  /-- Number of the free value for REG_BASE (R394): the place in the partition is not stated. -/
  base : Nat
  v : VRegs
  st : BState
  pend : List Pend
  px : List Frag
  /-- Register words that exited shading lanes delivered (R404): lane and registers. -/
  outs : List (Nat × List Word)
  deriving DecidableEq, Repr

/-- A resident workgroup. -/
structure WGroup where
  slice : Nat
  seq : Word
  w : Nat
  x : Nat
  y : Nat
  z : Nat
  core : Nat
  scrOff : Nat
  scrKib : Nat
  seed : Nat
  scratch : Mem
  barCount : Nat
  barGen : Nat
  /-- Some strand has exited. -/
  exited : Bool
  deriving DecidableEq, Repr

/-- A tile-cached target of a raster job: blend mode and write mask, the logical content of the tiles that the job has
touched, and its flagged tiles with their value (R365, R369, R370). Tile (tx, ty) is 1024 × ty + tx. -/
structure Target where
  handle : Nat
  mode : Nat
  wmask : Nat
  cache : Mem
  touched : List Nat
  flags : List Nat
  value : Word
  deriving DecidableEq, Repr

/-- SHADERS (R351). -/
structure Shaders where
  vary : Nat
  flags : Nat
  vs : Nat
  fs : Nat
  const : Word
  deriving DecidableEq, Repr

/-- A DRAW in progress (R354). -/
structure Draw where
  topo : Nat
  index : Nat
  first : Nat
  count : Nat
  ioff : Nat
  /-- Next entry whose vertex bundle is to be dispatched. -/
  next : Nat
  /-- Shaded entries: position and varyings. -/
  verts : List (Nat × List Word)
  /-- Next triangle of the draw. -/
  tri : Nat
  /-- Fragment bundles of the present primitive that wait for dispatch. -/
  quads : List (List Frag)
  /-- Fragments of the present primitive that shading has delivered: pixel, depth, outputs. -/
  done : List (Frag × List Word)
  deriving DecidableEq, Repr

/-- A rectangle. -/
structure Rect where
  x : Nat
  y : Nat
  w : Nat
  h : Nat
  deriving DecidableEq, Repr

/-- Stencil state (R362). -/
structure StencilSt where
  func : Nat
  ref : Nat
  rmask : Nat
  wmask : Nat
  fail : Nat
  zfail : Nat
  pass : Nat
  en : Bool
  deriving DecidableEq, Repr

/-- The job state of a raster job (R352). -/
structure RasterSt where
  pos : Nat
  vp : Rect
  sc : Rect
  cull : Nat
  front : Nat
  clampZ : Bool
  dfunc : Nat
  dwrite : Bool
  dtest : Bool
  sten : StencilSt
  sh : Option Shaders
  vOff : Word
  vStride : Word
  vCount : Nat
  prims : Nat
  /-- COLOUR0-COLOUR3 and DEPTH. -/
  targets : List Target
  draw : Option Draw
  deriving DecidableEq, Repr

/-- A raster or compute job whose effect has been issued: its payload, its next workgroup, quanta used before the present
one, and its raster state. -/
structure CruJob where
  slice : Nat
  seq : Word
  pl : List Byte
  next : Nat
  quanta : Nat
  ras : Option RasterSt
  deriving DecidableEq, Repr

/-- An older content of a surface that a slice's cache window may still hold (R386). -/
structure OldSurf where
  slice : Nat
  surf : Surface
  deriving DecidableEq, Repr

/-- The cluster. -/
structure Cluster where
  /-- Slice of the present quantum (R21). -/
  turn : Nat
  /-- A job of that slice has used the quantum and ended (R393). -/
  used : Bool
  /-- Instructions issued, for R378. -/
  issues : Nat
  failed : BitVec 48
  jobs : List CruJob
  wgs : List WGroup
  bundles : List Bundle
  old : List OldSurf
  /-- Save areas: slice, core and record (R394). -/
  saves : List (Nat × Nat × List Byte)
  deriving DecidableEq, Repr

/-- The cluster as a reset leaves it: every area zero (R379). -/
def Cluster.reset : Cluster where
  turn := 0
  used := false
  issues := 0
  failed := 0
  jobs := []
  wgs := []
  bundles := []
  old := []
  saves := []

end Sys2Proof.Machine
end

