-- ==== Sys2Proof/Machine/StDram.lean ====
section
/-! DEFINITION. What the machine holds of the DRAM controller (R462-R491) and of the background memory test
(R499-R504). -/
namespace Sys2Proof.Machine

/-- One helper write into the DRAM (R487): what lies in the training region and the guest area's first 16 MiB. -/
structure HelperWrite where
  chan : Nat
  rank : Nat
  addr : Nat
  count : Nat
  prbs : Bool
  pat : List Word
  deriving DecidableEq, Repr

/-- The DRAM controller. -/
structure Dram where
  /-- Credits left in the window, one count per port (R472). -/
  credits : List Nat
  /-- Requests waiting, oldest first. -/
  waiting : List DramReq
  /-- Open rows: channel, bank, row. -/
  rows : List (Nat × Nat × Nat)
  /-- Postponed refreshes: channel, bank, count (R479). -/
  postponed : List (Nat × Nat × Nat)
  /-- MR4 refresh rate field of each channel: 0 normal, 1 twice, 2 four times and above, 3 above the limit. -/
  mr4 : List Nat
  /-- DRAM temperature at the last MR4 read, per channel. -/
  temp : List Nat
  /-- Temperature stored with the Temper results (R485). -/
  storedTemp : List Nat
  /-- Drift adjustments made since training, per channel, in ps (R488). -/
  drift : List Int
  /-- Retraining steps deferred by self-refresh entry (R490): channel, drift, sign. -/
  deferred : List (Nat × Nat × Bool)
  /-- Delays written through DRC_T_DLY: index word and value. -/
  dly : List (Nat × Nat)
  /-- Training results are stored with a good CRC (R484, R485). -/
  stored : Bool
  helper : List HelperWrite
  /-- DRC_MAP of the boot configuration (R463). -/
  map : Word
  deriving DecidableEq, Repr

/-- The controller after power-on reset. -/
def Dram.reset : Dram where
  credits := List.replicate 21 0
  waiting := []
  rows := []
  postponed := []
  mr4 := [0, 0, 0, 0]
  temp := [0, 0, 0, 0]
  storedTemp := [0, 0, 0, 0]
  drift := [0, 0, 0, 0]
  deferred := []
  dly := []
  stored := false
  helper := []
  map := 0

/-- Where the background test of one memory stands (R499-R501). -/
structure TestPos where
  /-- Bank, or group of eight banks in cluster scratch. -/
  bank : Nat
  window : Nat
  borrowed : Bool
  preempts : Nat
  deriving DecidableEq, Repr

/-- The test of the three memories: Hearth RAM, core scratch, cluster scratch. -/
abbrev MemTest := List TestPos

end Sys2Proof.Machine
end

