-- ==== Sys2Proof/Machine/State.lean ====
section
/-! DEFINITION. The state of the SX8 model, its faults and refusals, and the state after power-on reset. -/
namespace Sys2Proof.Machine

/-- What the block sends to the outside, in the order it sends it. -/
inductive OutEv where
  /-- A memory write TLP with its PASID (R164). -/
  | hostWrite (port : Nat) (pasid : BitVec 20) (addr : Nat) (data : List Byte)
  /-- An MSI-X message (R570). -/
  | msi (port : Nat) (addr : DWord) (data : Word)
  /-- A UDP datagram from the billet port (`quench` false) or the quench port. -/
  | udp (quench : Bool) (dst : NetId) (data : List Byte)
  /-- A frame sent on an external port: 0-3. -/
  | eth (port : Nat) (tc : Nat) (frame : EthFrame)
  /-- An ARP reply and an ICMP echo reply (R573). -/
  | arpReply (port : Nat) (vlan : BitVec 12) (mac : BitVec 48) (ip own : Word)
  | echoReply (port : Nat) (vlan : BitVec 12) (mac : BitVec 48) (ip : Word) (data : List Byte)
  /-- An MDIO transaction (R580): operation, Clause 45 write, PHY, register, data. -/
  | mdio (op : Nat) (write : Bool) (phy reg data : Nat)
  /-- The answer to a register read that has a row of its own. -/
  | readData (v : Word)
  /-- The interrupt line of a mailbox channel to Hearth or a Knaby core (R591). -/
  | mbxIrq (master channel : Nat)
  /-- A refused DRAM read answers zeros marked poisoned (R468). -/
  | dramPoison
  /-- A frame that a TDM port drives, slot words MSB first (R552). -/
  | tdm (port : Nat) (slots : List Word)
  /-- A 1 ms block of chime samples in the TDM0 slots of the mask; every other slot carries 0 (R559). -/
  | bypass (slots : Nat) (samples : List Int)
  /-- An AVTP packet: port, stream, destination, VLAN field, format, presentation time in ns, frames (R577). -/
  | avtp (port stream dest vlan format pres : Nat) (frames : List (List Int))
  /-- An Ulinex frame (R429). -/
  | ulx (m : UlxMsg)
  deriving DecidableEq, Repr

/-- The machine. -/
structure State where
  /-- Commands waiting, first in, first out. -/
  pending : List Instr
  /-- Time since power-on reset, in us. -/
  time : Nat
  /-- Free values drawn so far. -/
  fresh : Nat
  /-- What has been sent to the outside, newest first. -/
  out : List OutEv
  regs : RegFile
  fuses : Fuses
  boot : Boot
  power : Power
  slices : List Slice
  /-- Order number of the next accepted billet (R54). -/
  order : Nat
  slag : Slag
  cfg : CfgCheck
  ports : List PciPort
  net : Net
  locks : List Lock
  chans : List Channel
  /-- MBX_LOCK has been written (R9 type W1). -/
  mbxLockDone : Bool
  pair : Pair
  dram : Dram
  memtest : MemTest
  disp : Display
  cru : Cluster
  touch : List TouchGroup
  haps : List Hap
  aud : Audio
  deriving DecidableEq, Repr

/-- Faults. -/
inductive Fault where
  /-- Raised by no command: the manual gives the block no event that stops it. Safe. -/
  | halted
  deriving DecidableEq, Repr

/-- Refusals. -/
inductive Refusal where
  /-- Raised by the dispatch of a command that has no meaning yet; its row's mnemonic. Safe. -/
  | notModelled (mnemonic : String)
  deriving DecidableEq, Repr

/-- The outcome type of a meaning. -/
abbrev Out := Host.Outcome State Fault Refusal

/-- The fuse rows of the model's part: an SX8-8P-I, key slots unprogrammed. DESIGN CHOICE: the spec names no part. -/
def Fuses.reset : Fuses where
  tier := 8
  pair := true
  gradeE := false
  vendor := 0
  vfloor := 0
  trim := 0
  rows := 0
  rowsOk := false
  uid := 0
  key0 := List.replicate 12 0
  key1 := List.replicate 12 0

/-- Start-up state before step 1 of R656. -/
def Boot.reset : Boot where
  step := 0
  sealedOnce := false
  failed := false
  slotB := false
  fallback := false
  reason := 0
  imgVer := 0
  recs := []
  log2n := 0
  bond := false
  rank := false
  limpAtBoot := false
  limpOnEscalate := false
  subsys := 0
  faultChime := 0xFF
  limpOut := none
  env := none
  lastReset := 0
  rstPend := 0
  rstBlk := 0
  warmStep := 0
  resetLow := false
  warmLow := false
  pgHold := false
  mainEn := false
  mainPg := false
  hearthDown := false
  knabyDown := false
  knabyStopped := false
  knabyTimes := []
  warm4Times := []
  refclkOk := false
  xtal := false
  clockBad := 0
  supplyBad := 0
  thermalBad := 0
  checkerBad := 0
  contentBad := 0
  waitRefclk := false
  warmTries := 0
  warmCause := 0
  avsMv := 800

/-- The machine right after power-on reset, before step 1 of R656. -/
def State.reset : State where
  pending := []
  time := 0
  fresh := 0
  out := []
  regs := []
  fuses := Fuses.reset
  boot := Boot.reset
  power := Power.reset
  slices := List.replicate 16 Slice.reset
  order := 0
  slag := Slag.reset
  cfg := CfgCheck.reset
  ports := [PciPort.reset, PciPort.reset]
  net := Net.reset
  locks := List.replicate 64 Lock.free
  chans := List.replicate 32 Channel.empty
  mbxLockDone := false
  pair := Pair.reset
  dram := Dram.reset
  memtest := List.replicate 3 ⟨0, 0, false, 0⟩
  disp := Display.reset
  cru := Cluster.reset
  touch := List.replicate 8 TouchGroup.reset
  haps := List.replicate 8 Hap.reset
  aud := Audio.reset

end Sys2Proof.Machine
end

