-- ==== Sys2Proof/Machine/Ops.lean ====
section
/-! DEFINITION. The shared operations: registers, the variant's units, outside events, Slag entries (R627-R634),
interrupts (R569, R570), host memory writes with their hold and dirty log (R165, R166, R181), result slots and replies
(R43, R59-R65). -/
namespace Sys2Proof.Machine

/-! ## Registers and slices -/

/-- The stored value of the register with this key. -/
def State.reg (s : State) (off : Nat) : Nat := (s.regs.get off).toNat
/-- A field of a stored register. -/
def State.fld (s : State) (off lo w : Nat) : Nat := bits (s.reg off) lo w
/-- A one-bit field. -/
def State.flag (s : State) (off i : Nat) : Bool := (s.reg off).testBit i
/-- Stores a register. -/
def State.setReg (s : State) (off v : Nat) : State := { s with regs := s.regs.put off (BitVec.ofNat 32 v) }
/-- Stores a field of a register. -/
def State.setFld (s : State) (off lo w v : Nat) : State := s.setReg off (putBits (s.reg off) lo w v)
/-- Stores a one-bit field. -/
def State.setFlag (s : State) (off i : Nat) (b : Bool) : State := s.setFld off i 1 (b2n b)
/-- Adds to a field, saturating at its largest value. -/
def State.incSat (s : State) (off lo w : Nat) : State := s.setFld off lo w (sat w (s.fld off lo w + 1))
/-- Adds 1 to a field, wrapping. -/
def State.incWrap (s : State) (off lo w : Nat) : State := s.setFld off lo w (s.fld off lo w + 1)

/-- Slice `n`. -/
def State.slice (s : State) (n : Nat) : Slice := s.slices.getD n Slice.reset
/-- Replaces slice `n`. -/
def State.setSlice (s : State) (n : Nat) (x : Slice) : State := { s with slices := putAt s.slices n x }
/-- Changes slice `n`. -/
def State.modSlice (s : State) (n : Nat) (f : Slice → Slice) : State := { s with slices := modAt s.slices n f }
/-- Sends an event to the outside. -/
def State.emit (s : State) (e : OutEv) : State := { s with out := e :: s.out }
/-- The next free-value number, and the state that has drawn it. -/
def State.draw (s : State) : Nat × State := (s.fresh, { s with fresh := s.fresh + 1 })

/-! ## Sending over Ulinex (R430) -/

/-- Changes the pair side. -/
def State.modPair (s : State) (f : Pair → Pair) : State := { s with pair := f s.pair }
/-- Sets the role with ULX_STAT.ROLE. -/
def State.setRole (s : State) (r : Role) : State :=
  (s.modPair (fun p => { p with role := r })).setFld R.ULX_STAT 0 2
    (match r with | .solo => 0 | .active => 1 | .standby => 2)

/-- Frames that wait go out while the link is up and fewer than 64 are unacknowledged. -/
def Pair.pump : Nat → Pair → List OutEv → Pair × List OutEv
  | 0, p, o => (p, o)
  | k + 1, p, o =>
    match p.waiting with
    | m :: r =>
      if p.unacked.length < 64 then
        Pair.pump k { p with waiting := r, lseq := p.lseq + 1, unacked := p.unacked ++ [(p.lseq + 1, m)] } (.ulx m :: o)
      else (p, o)
    | [] => (p, o)

/-- Sends what can be sent. -/
def State.ulxPump (s : State) : State :=
  if s.flag R.ULX_STAT 2 then
    let r := Pair.pump 64 s.pair s.out
    { s with pair := r.1, out := r.2 }
  else s

/-- Sends a frame: before every waiting frame of a higher priority number, after those of its own (R430). -/
def State.ulxSend (s : State) (m : UlxMsg) : State :=
  { s with pair := { s.pair with waiting := insertBy UlxMsg.prio m s.pair.waiting } }.ulxPump

/-- The ACTIVE device forwards gPTP time and lock (R439). -/
def State.sendGptp (s : State) : State :=
  if s.pair.role = .active then s.ulxSend (.event (.gptp s.net.time (s.flag R.NET_PTP_STAT 0))) else s

/-! ## The variant (R1, R680) -/

/-- Outputs present; also touch groups and haptic channels. -/
def State.nOut (s : State) : Nat := s.fuses.tier
/-- Crucible cores present. -/
def State.nCores (s : State) : Nat := if s.fuses.tier = 8 then 48 else if s.fuses.tier = 6 then 32 else 16
/-- Anvil dies present. -/
def State.nDies (s : State) : Nat := if s.fuses.tier = 8 then 3 else if s.fuses.tier = 6 then 2 else 1
/-- External Ethernet ports present. -/
def State.nEth (s : State) : Nat := if s.fuses.tier = 4 then 2 else 4
/-- DRAM channels present. -/
def State.nDrc (s : State) : Nat := if s.fuses.tier = 4 then 2 else 4
/-- Touch electrodes present. -/
def State.nElec (s : State) : Nat := 12 * s.fuses.tier
/-- Configured slices N (R161). -/
def State.nSlices (s : State) : Nat := 2 ^ s.boot.log2n
/-- Hearth time in ms (R629). -/
def State.ms (s : State) : Nat := s.time / 1000
/-- Whether this device writes replies and drives outputs: SOLO or ACTIVE (R37). -/
def State.leads (s : State) : Bool := s.pair.role != .standby
/-- Whether the device is in a welded pair. -/
def State.welded (s : State) : Bool := s.pair.role != .solo
/-- gPTP lock (R576); a STANDBY device goes by the forwarded state (R439). -/
def State.ptpLocked (s : State) : Bool := if s.leads then s.flag R.NET_PTP_STAT 0 else s.pair.ptp

/-! ## PCIe ports -/

/-- Port `p`. -/
def State.port (s : State) (p : Nat) : PciPort := s.ports.getD p PciPort.reset
/-- Changes port `p`. -/
def State.modPort (s : State) (p : Nat) (f : PciPort → PciPort) : State := { s with ports := modAt s.ports p f }
/-- A condition of R566 holds, so the port holds its requests. -/
def PciPort.holds (p : PciPort) : Bool := !p.linkUp || !p.bme || !p.pasidEn || p.d3

/-- Pages a write of `len` bytes at `a` touches. -/
def pagesOf (a len : Nat) : List Nat :=
  if len = 0 then [] else (List.range ((a + len - 1) / 4096 - a / 4096 + 1)).map (· + a / 4096)

/-- Inserts into a strictly rising list. -/
def insNat (x : Nat) : List Nat → List Nat
  | [] => [x]
  | y :: ys => if x < y then x :: y :: ys else if x = y then y :: ys else y :: insNat x ys

/-- The log after one logged write (R181): pages inside the range are set, a write that touches none is counted. -/
def DirtyLog.note (d : DirtyLog) (a len : Nat) : DirtyLog :=
  let inside := (pagesOf a len).filterMap (fun p =>
    if d.guestBase / 4096 ≤ p && p < d.guestBase / 4096 + d.pages then some (p - d.guestBase / 4096) else none)
  if inside = [] then { d with outside := sat 16 (d.outside + 1) }
  else { d with dirty := inside.foldl (fun l x => insNat x l) d.dirty }

/-- Issues one held or new request of port `p`. Memory writes are logged (R181); a message uses the entry as it now
stands, and sets the pending bit of a masked one (R570). -/
def State.issueReq (s : State) (p : Nat) (r : HostReq) : State :=
  match r with
  | .mem pasid a d =>
    { s with
      out := .hostWrite p pasid a d :: s.out
      slices := s.slices.map (fun x =>
        match x.dirty with
        | some l => if x.binding = .pcie p pasid then { x with dirty := some (l.note a d.length) } else x
        | none => x) }
  | .flush pasid a d => s.emit (.hostWrite p pasid a d)
  | .msi e =>
    let x := (s.port p).msix.getD e MsixEntry.reset
    if x.masked then s.modPort p (fun q => { q with msix := modAt q.msix e (fun m => { m with pend := true }) })
    else s.emit (.msi p (BitVec.ofNat 64 (x.addrLo.toNat + 2 ^ 32 * x.addrHi.toNat)) x.data)

/-- A request of port `p`: issued at once, or held behind those already held (R566). -/
def State.request (s : State) (p : Nat) (r : HostReq) : State :=
  let q := s.port p
  if q.holds || q.held ≠ [] then s.modPort p (fun q => { q with held := q.held ++ [r] })
  else s.issueReq p r

/-- Issues the held requests of a port in their order (R566). -/
def State.drainPort (s : State) (p : Nat) : State :=
  if (s.port p).holds then s
  else ((s.port p).held).foldl (fun s r => s.issueReq p r) (s.modPort p (fun q => { q with held := [] }))

/-- A memory write for slice `n`; none for a slice without PCIe binding or on a STANDBY device (R164, R185). -/
def State.hostWrite (s : State) (n a : Nat) (d : List Byte) : State :=
  match (s.slice n).binding with
  | .pcie p pasid => if s.leads then s.request p (.mem pasid a d) else s
  | _ => s

/-- Raises interrupt `k` of slice `n`: 0 reply, 1 completion, 2 quench, 3 event (R569). A masked entry sets its pending
bit; a message already waiting takes the new event in (R570). -/
def State.irq (s : State) (n k : Nat) : State :=
  match (s.slice n).binding with
  | .pcie p _ =>
    let e := 4 * n + k
    if ((s.port p).msix.getD e MsixEntry.reset).masked then
      s.modPort p (fun q => { q with msix := modAt q.msix e (fun m => { m with pend := true }) })
    else if (s.port p).held.contains (.msi e) then s
    else s.request p (.msi e)
  | _ => s

/-! ## The Slag log -/

/-- Severity of an entry (R628). -/
def slagSeverity (cls : Nat) (warn : Bool) : Nat :=
  if cls = 0 || cls = 1 || cls = 24 then 0
  else if cls = 4 then 2
  else if warn then 0
  else if cls = 25 then 2
  else 1

/-- Whether two events merge (R630). -/
def SlagEntry.repeats (old new : SlagEntry) : Bool :=
  old.cls == new.cls && old.sev == new.sev && old.unit == new.unit && old.code == new.code &&
  new.time < old.time + 1000

/-- Whether an entry asserts FAULT_N (R634). -/
def Slag.asserts (g : Slag) (e : SlagEntry) (force : Bool) : Bool :=
  force || e.sev == 2 || (e.sev == 1 && g.fmask.testBit e.cls)

/-- FAULT_N is driven low by the log (R634). -/
def Slag.faultN (g : Slag) : Bool := g.cause != 0 || g.hw

/-- The log after an event of the entry `e` (R630, R631, R632, R634). -/
def Slag.record (g : Slag) (e : SlagEntry) (force : Bool) : Slag :=
  let f := g.asserts e force
  let e := if f then { e with react := e.react ||| 1 } else e
  let g := { g with
    sticky := g.sticky ||| 2 ^ e.cls
    cause := if f then g.cause ||| 2 ^ e.cls else g.cause }
  match g.log with
  | o :: _ =>
    if o.repeats e then { g with merged := sat 8 (g.merged + 1) }
    else { g with
      log := (e :: g.log).take 255
      wrapped := g.wrapped || g.log.length == 255
      total := sat 8 (g.total + 1)
      first := if g.first.isNone && e.sev != 0 && !e.injected then some e else g.first }
  | [] => { g with
      log := [e]
      total := sat 8 (g.total + 1)
      first := if g.first.isNone && e.sev != 0 && !e.injected then some e else g.first }

/-- The reaction bits of R629, without R_FAULT: bit 1 ISOLATE, 2 TAKEOVER, 3 LIMP, 4 RESTORE, 5 RESET. -/
structure React where
  isolate : Bool := false
  takeover : Bool := false
  limp : Bool := false
  restore : Bool := false
  reset : Bool := false
  deriving DecidableEq, Repr

/-- Bits [29:24] of the record. -/
def React.code (r : React) : Nat :=
  2 * b2n r.isolate + 4 * b2n r.takeover + 8 * b2n r.limp + 16 * b2n r.restore + 32 * b2n r.reset

/-- Makes an entry and raises slice 0's event interrupt (R632); while Hearth restarts the event is held (R641). -/
def State.slagEntry (s : State) (e : SlagEntry) (force : Bool) : State :=
  if s.boot.hearthDown then { s with slag := { s.slag with held := s.slag.held ++ [(e, force)] } }
  else State.irq { s with slag := s.slag.record { e with time := s.ms % 2 ^ 32 } force } 0 3

/-- A detected fault of a class with its unit and mechanism code. -/
def State.slagX (s : State) (cls unit code : Nat) (r : React) (warn force : Bool) : State :=
  s.slagEntry ⟨cls, slagSeverity cls warn, false, unit, code, r.code, 0⟩ force

/-- An entry of its class's usual severity. -/
def State.slagErr (s : State) (cls unit code : Nat) : State := s.slagX cls unit code {} false false
/-- A warning-class entry. -/
def State.slagWarn (s : State) (cls unit code : Nat) : State := s.slagX cls unit code {} true false

/-! ## SLG_ACC (R618) -/

/-- Records one refused register access that sets the bits `bs` of SLG_ACC, by `master`, at BAR0 offset `off`. -/
def State.accFlags (s : State) (bs : List Nat) (master off : Nat) : State :=
  if bs = [] then s else
  let v := s.reg R.SLG_ACC
  let v1 := putBits (v ||| maskOf bs) 16 16 (sat 16 (bits v 16 16 + 1))
  let first := bits v 0 5 == 0
  let v2 := if first then putBits v1 8 8 master else v1
  let s1 := s.setReg R.SLG_ACC v2
  let s2 := if first then s1.setReg R.SLG_ACC_ADDR (off / 4 * 4) else s1
  (bs.filter (fun b => !v.testBit b)).foldl (fun s b => s.slagWarn 23 b 0x14) s2

/-! ## Result slots and replies -/

/-- Status codes (R61). -/
def S_ACCEPTED : Nat := 0x0001
/-- Effect complete. -/
def S_DONE : Nat := 0x0002
/-- R61. -/
def E_CHECK : Nat := 0x8001
/-- R61. -/
def E_LENGTH : Nat := 0x8002
/-- R61. -/
def E_FORMAT : Nat := 0x8003
/-- R61. -/
def E_SEQ_GAP : Nat := 0x8004
/-- R61. -/
def E_SEQ_OLD : Nat := 0x8005
/-- R61. -/
def E_SEQ_REUSE : Nat := 0x8006
/-- R61. -/
def E_OPCODE : Nat := 0x8007
/-- R61. -/
def E_VARIANT : Nat := 0x8008
/-- R61. -/
def E_DENIED : Nat := 0x8009
/-- R61. -/
def E_PARAM : Nat := 0x800A
/-- R61. -/
def E_BOUNDS : Nat := 0x800B
/-- R61. -/
def E_STATE : Nat := 0x800C
/-- R61. -/
def E_POWER : Nat := 0x800D
/-- R61. -/
def E_NO_SLOT : Nat := 0x800E
/-- R61. -/
def E_NO_RESOURCE : Nat := 0x800F
/-- R61. -/
def E_DEADLINE : Nat := 0x8101
/-- R61. -/
def E_RESET_CUT : Nat := 0x8102
/-- R61. -/
def E_QUENCHED : Nat := 0x8103
/-- R61. -/
def E_JOB_FAULT : Nat := 0x8104
/-- R61. -/
def E_DATA : Nat := 0x8105

/-- The lowest FREE slot (R63). -/
def Slice.freeSlot (x : Slice) : Option Nat :=
  firstIdx 64 (fun k => (x.slots.getD k Slot.empty).st == .free)

/-- Writes the reply of the billet in hand (R43, R46, R48, R51): a ring record with its tail, shadow and interrupt, or
a record of the next reply datagram. A STANDBY device writes none (R37). -/
def State.putReply (s : State) (n : Nat) (r : Reply) (irq : Bool) : State :=
  if !s.leads then s else
  let s := if s.pair.role == .active then
      let x := s.slice n
      s.ulxSend (.reply n (some r) (x.rqTail + 1) (x.sqHead + 1) x.db)
    else s
  match (s.slice n).binding with
  | .pcie _ _ =>
    let x := s.slice n
    let s := s.hostWrite n (x.rqBase.toNat + 16 * (x.rqTail.toNat % 256)) r.bytes
    let t := x.rqTail + 1
    let s := s.modSlice n (fun x => { x with rqTail := t, sqHead := x.sqHead + 1 })
    let s := s.hostWrite n (x.rqBase.toNat + 0x1000) (leBytes 4 t.toNat)
    if irq then s.irq n 0 else s
  | .eth _ => s.modSlice n (fun x => { x with udpOut := x.udpOut ++ [r] })
  | .unbound => s

/-- The journal entry made for `seq`, if held (R57). -/
def Slice.entry (x : Slice) (seq : Word) : Option JEntry := x.journal.find? (fun e => e.seq == seq)

/-- Changes the journal entry of `seq`. -/
def Slice.modEntry (x : Slice) (seq : Word) (f : JEntry → JEntry) : Slice :=
  { x with journal := x.journal.map (fun e => if e.seq == seq then f e else e) }

/-- OPEN entries: WAIT and ISSUED (R68). -/
def JEntry.isOpen (e : JEntry) : Bool := e.st == .openWait || e.st == .openIssued

/-- Number of OPEN entries. -/
def Slice.openCount (x : Slice) : Nat := (x.journal.filter JEntry.isOpen).length

/-- Moves an OPEN entry to DONE (R63, R68): the slot, if any, becomes DONE with status and value, and the completion
interrupt is raised when FLAGS.IRQ_DONE asks for it. -/
def State.endEntry (s : State) (n : Nat) (e : JEntry) (status value : Nat) : State :=
  let s := s.modSlice n (fun x => x.modEntry e.seq (fun e => { e with st := .done, applied := none, here := none }))
  match e.slot with
  | some k =>
    let s := s.modSlice n (fun x => { x with
      slots := modAt x.slots k (fun sl =>
        { sl with st := .done, status := BitVec.ofNat 16 status, value := BitVec.ofNat 64 value }) })
    if e.body.flags.getLsbD 1 && s.leads then s.irq n 1 else s
  | none => s

/-- Completes an OPEN entry. While welded, the ACTIVE device forwards a slot completion, and the STANDBY device's slot waits
for the forwarded one and takes its values; one that was forwarded counts after a takeover too (R438, R441). -/
def State.complete (s : State) (n : Nat) (seq : Word) (status : Nat) (value : Nat) : State :=
  match (s.slice n).entry seq with
  | some e =>
    if !e.isOpen then s
    else if e.slot.isNone then s.endEntry n e status value
    else match s.pair.completions.find? (fun c => c.1 == n && c.2.1 == seq), s.pair.role with
      | some c, _ =>
        { s with pair := { s.pair with completions := s.pair.completions.erase c } }.endEntry n e c.2.2.1.toNat c.2.2.2.toNat
      | none, .solo => s.endEntry n e status value
      | none, .active =>
        (s.ulxSend (.complete (.slot n seq (BitVec.ofNat 16 status) (BitVec.ofNat 64 value)))).endEntry n e status value
      | none, .standby => s.modSlice n (fun x => x.modEntry seq (fun e =>
          { e with here := some (BitVec.ofNat 16 status, BitVec.ofNat 64 value) }))
  | none => s

/-- Completes an entry for which the spec states no VALUE. -/
def State.completeOpen (s : State) (n : Nat) (seq : Word) (status : Nat) : State :=
  s.draw.2.complete n seq status (Config.slotValue s.draw.1).toNat

/-- Completes an entry for which the spec states VALUE_LO alone. -/
def State.completeLo (s : State) (n : Nat) (seq : Word) (status lo : Nat) : State :=
  s.draw.2.complete n seq status (lo % 2 ^ 32 + (Config.slotValue s.draw.1).toNat / 2 ^ 32 * 2 ^ 32)

/-- Completes an entry for which the spec states VALUE_HI alone. -/
def State.completeHi (s : State) (n : Nat) (seq : Word) (status hi : Nat) : State :=
  s.draw.2.complete n seq status ((Config.slotValue s.draw.1).toNat % 2 ^ 32 + hi * 2 ^ 32)

end Sys2Proof.Machine
end

