-- ==== Sys2Proof/Machine/Gate.lean ====
section
/-! DEFINITION. Who reaches which register, and how an access is split and judged before its fields are (R14, R610-R615,
R657, R684). -/
namespace Sys2Proof.Machine

/-- The master ID under which a requester reaches the system pages, if it does: a PCIe port only while slice 0 is bound
to it (R14, R169); REG_READ and REG_WRITE act as master 16. -/
def State.sysMaster (s : State) (r : Requester) : Option Nat :=
  match r with
  | .master id => if 16 < id.val then none else some id.val
  | .port p => match (s.slice 0).binding with
    | .pcie q _ => if q = p.val then some 16 else none
    | _ => none

/-- The first seal has been reached, so BAR0 is served (R657). -/
def State.served (s : State) : Bool := s.boot.sealedOnce

/-- Whether a system-page offset belongs to an absent unit of this variant (R3, R684). GSEL- and SEL-banked views are
judged where they are read. -/
def State.absentReg (s : State) (off : Nat) : Bool :=
  let pg := off / 0x1000
  let lo := off % 0x1000
  (0x110 ≤ pg && pg < 0x118 && s.nOut ≤ pg - 0x110) ||
  (0x120 ≤ pg && pg < 0x128 && s.nOut ≤ pg - 0x120 && lo < 0x800) ||
  (pg == 0x130 && 0x100 ≤ lo && lo < 0x200 && s.nOut ≤ (lo - 0x100) / 0x20) ||
  (pg == 0x130 && 0x800 ≤ lo && s.nOut ≤ (lo - 0x800) / 0x100) ||
  (pg == 0x160 && !s.fuses.pair) ||
  (pg == 0x1A0 && 0x100 ≤ lo && lo < 0x180 && s.nEth ≤ (lo - 0x100) / 0x20)

/-- Outcome of the first two steps of R615: the access ends, or goes on as this master. -/
inductive Judged where
  | stop (s : State)
  | go (master : Nat)

/-- Steps 1 and 2 of R615 for a write to an assigned offset of a system page: unreachable, then narrow. -/
def State.gateWrite (s : State) (a : Access) (off : Nat) (byteWritable : Bool) : Judged :=
  if !(s.served || a.req.isMaster) || a.be = 0 then .stop s else
  match s.sysMaster a.req with
  | none => .stop (s.accFlags [4] 16 off)
  | some m =>
    if s.absentReg off then .stop s
    else if a.be ≠ 15 && !byteWritable then .stop (s.accFlags [0] m off)
    else .go m

/-- The effect of a judged write. -/
def Judged.run (j : Judged) (f : Nat → State) : State :=
  match j with
  | .stop s => s
  | .go m => f m

/-- Flags SLG_ACC.RSV where the write data has a 1 in a reserved bit (R615 step 3d). -/
def State.rsvCheck (s : State) (m off v rsvMask : Nat) : State :=
  if v &&& rsvMask = 0 then s else s.accFlags [3] m off

/-- Whether a read of a system page returns register contents to this requester (R14, R657): before the first seal only
the HRT page, from port 0. -/
def State.readable (s : State) (r : Requester) (off : Nat) : Bool :=
  if s.served then (s.sysMaster r).isSome && !s.absentReg off
  else match r with
    | .port p => p.val == 0 && off / 0x1000 == 0x1F0
    | .master _ => true

/-- The bytes a read returns (R611): a PCIe completion carries the whole DW. A zero-length read returns 0 (R612). -/
def readBytes (a : Access) (v : Nat) : Word := if a.be = 0 then 0 else BitVec.ofNat 32 v

end Sys2Proof.Machine
end

