-- ==== Sys2Proof/Machine/Mem.lean ====
section
/-! DEFINITION. Addressed memories: surfaces and the Anvil. A memory lists address and byte pairs, addresses strictly
rising. Under a background of zeros no listed byte is zero; under undefined contents every written byte is listed. -/
namespace Sys2Proof.Machine

/-- What an unlisted address reads as: 0, or the free contents of a surface created without CLEAR (R99). -/
def background (seed : Option Nat) (a : Nat) : Byte :=
  match seed with
  | none => 0
  | some k => Config.undefByte k a

/-- Whether a written byte is listed. -/
def lists (seed : Option Nat) (b : Byte) : Bool := seed.isSome || b != 0

/-- The byte at `a`. -/
def Mem.get (m : Mem) (seed : Option Nat) (a : Nat) : Byte :=
  match m.find? (fun e => e.1 == a) with
  | some e => e.2
  | none => background seed a

/-- The listed pairs of the bytes `bs` from address `a`. -/
def Mem.cells (seed : Option Nat) : Nat → List Byte → Mem
  | _, [] => []
  | a, b :: bs => if lists seed b then (a, b) :: Mem.cells seed (a + 1) bs else Mem.cells seed (a + 1) bs

/-- Writes the bytes `bs` from address `a`. -/
def Mem.write (m : Mem) (seed : Option Nat) (a : Nat) (bs : List Byte) : Mem :=
  m.filter (fun e => e.1 < a) ++ Mem.cells seed a bs ++ m.filter (fun e => a + bs.length ≤ e.1)

/-- `n` bytes from address `a`. -/
def Mem.read (m : Mem) (seed : Option Nat) (a n : Nat) : List Byte :=
  (List.range n).map (fun i => m.get seed (a + i))

/-- Addresses strictly rising. -/
def Mem.rising : Mem → Bool
  | [] => true
  | [_] => true
  | x :: y :: r => decide (x.1 < y.1) && Mem.rising (y :: r)

/-- The canonical form. -/
def Mem.wf (m : Mem) (seed : Option Nat) : Bool := Mem.rising m && m.all (fun e => lists seed e.2)

/-! ## Surfaces -/

/-- The surface of a handle. -/
def Slice.surf (x : Slice) (h : Nat) : Option Surface := x.surfaces.find? (fun u => u.handle == h)

/-- Size of a surface in bytes, before rounding to pages. -/
def Surface.bytes (u : Surface) : Nat := u.stride * u.height
/-- Pages charged (R97). -/
def Surface.pages (u : Surface) : Nat := ceilDiv u.bytes 4096

/-- Bytes per pixel of a format code; 0 for an undefined code (R98). -/
def bpp (f : Nat) : Nat :=
  if f = 0 then 1
  else if 1 ≤ f && f ≤ 3 then 2
  else if f = 4 || f = 5 then 3
  else if 6 ≤ f && f ≤ 0xA then 4
  else if f = 0x10 || f = 0x11 || f = 0x20 || f = 0x21 then 4
  else 0

/-- Bytes `off`..`off + n` of the surface. -/
def Surface.read (u : Surface) (off n : Nat) : List Byte := u.mem.read u.seed off n
/-- Writes bytes at an offset. -/
def Surface.write (u : Surface) (off : Nat) (bs : List Byte) : Surface := { u with mem := u.mem.write u.seed off bs }

/-- The bytes of a rectangle, row by row. -/
def Surface.readRect (u : Surface) (x y w h : Nat) : List Byte :=
  let b := bpp u.format
  (List.range h).flatMap (fun r => u.read ((y + r) * u.stride + x * b) (w * b))

/-- Writes a rectangle from packed rows. -/
def Surface.writeRect (u : Surface) (x y w h : Nat) (bs : List Byte) : Surface :=
  let b := bpp u.format
  foldN h (fun u r => u.write ((y + r) * u.stride + x * b) ((bs.drop (r * w * b)).take (w * b))) u

/-- Replaces the surface of its handle. -/
def Slice.putSurf (x : Slice) (u : Surface) : Slice :=
  { x with surfaces := x.surfaces.map (fun v => if v.handle == u.handle then u else v) }

/-- Pages in use by the slice's surfaces. -/
def Slice.pagesUsed (x : Slice) : Nat := sumBy Surface.pages x.surfaces

end Sys2Proof.Machine
end

