-- ==== Sys2Proof/Machine/Billets.lean ====
section
/-! DEFINITION. How an opcode is described: the checks it adds to those of R53, its effect at issue, its completion, its
re-issue and its projection (R54, R71, R79-R86). -/
namespace Sys2Proof.Machine

/-- One check of R53: its step, whether it fails, and the RESULT of the rejection (R707). -/
structure Chk where
  step : Nat
  bad : Bool
  res : Nat
  deriving DecidableEq, Repr

/-- The status of a rejection at a step of R53. -/
def stepStatus (n : Nat) : Nat :=
  if n = 1 then E_LENGTH else if n = 2 then E_CHECK else if n = 3 then E_FORMAT else if n = 6 then E_OPCODE
  else if n = 7 then E_VARIANT else if n = 8 then E_DENIED else if n = 9 then E_LENGTH else if n = 10 then E_PARAM
  else if n = 11 then E_BOUNDS else if n = 12 then E_STATE else if n = 13 then E_POWER else if n = 14 then E_NO_SLOT
  else E_NO_RESOURCE

/-- The first failure in the order of R53's steps, and in list order within a step: status and RESULT. -/
def firstFail (l : List Chk) : Option (Nat × Nat) :=
  (List.range 16).findSome? (fun st =>
    (l.find? (fun c => c.step == st && c.bad)).map (fun c => (stepStatus st, c.res)))

/-- Header field codes (R707). -/
def fOPCODE : Nat := 0x80000000
/-- GROUP. -/
def fGROUP : Nat := 0x8000000E
/-- DEADLINE. -/
def fDEADLINE : Nat := 0x80000010
/-- A cause that no field names. -/
def fNONE : Nat := 0xFFFFFFFF

/-- Reserved payload bytes from `off` must be 0; the first that is not names the cause (R80, R707). -/
def resv (p : List Byte) (off n : Nat) : Chk :=
  ⟨10, rd p off n != 0, off + ((p.drop off).take n).findIdx (fun b => b != 0)⟩

/-- Nature of an opcode (R79). -/
inductive Nature where
  | idem | trans | transient
  deriving DecidableEq, Repr

/-- Who may send an opcode (R86); `owner` checks stand among the opcode's own. -/
inductive Who where
  | zero | any | hardy | diag
  deriving DecidableEq, Repr

/-- One opcode. -/
structure OpDef where
  code : Nat
  /-- The length its payload layout requires (R53 step 9). -/
  len : BilletMsg → Nat
  slot : Bool := false
  imm : Bool := false
  takesG : Bool := false
  takesD : Bool := false
  who : Who := .any
  pcie : Bool := false
  nature : Nature := .idem
  /-- Checks of steps 7 to 15, against the present and the projected state. -/
  checks : State → State → Nat → BilletMsg → List Chk := fun _ _ _ _ => []
  /-- Inline RESULT, from projected state. -/
  result : State → Nat → BilletMsg → Nat := fun _ _ _ => 0
  /-- An immediate opcode's effect at acceptance, with its RESULT (R81). -/
  now : State → Nat → BilletMsg → State × Nat := fun s _ _ => (s, 0)
  /-- Whether the next effect may be issued. -/
  ready : State → Nat → JEntry → Bool := fun _ _ _ => true
  /-- The state change at issue (R82); an effect that ends at once completes its entry here. -/
  issue : State → Nat → JEntry → State := fun s n e => s.complete n e.seq S_DONE 0
  /-- What the rest of the effect will still change in object state (R54). -/
  project : State → Nat → JEntry → State := fun s _ _ => s
  /-- Hardware reports the effect complete or failed: status, value, data (R68). -/
  finish : State → Nat → JEntry → EffResult → State := fun s _ _ _ => s
  /-- The part that runs over time starts again (R71). -/
  restart : State → Nat → JEntry → State := fun s _ _ => s
  /-- The result that the journal records when the entry is staged (R271). -/
  mark : State → BilletMsg → Option (Half × DWord) := fun _ _ => none

/-- A fixed payload length. -/
def fixedLen (n : Nat) : BilletMsg → Nat := fun _ => n

/-- The whole billet stream of R41 for slice `n`. -/
def checkStream (m : BilletMsg) (n : Nat) : List Byte :=
  leBytes 4 n ++ leBytes 4 m.seq.toNat ++
  leBytes 2 m.opcode.toNat ++ leBytes 2 m.length.toNat ++ leBytes 4 m.seq.toNat ++ leBytes 4 m.tag.toNat ++
  leBytes 2 m.flags.toNat ++ leBytes 2 m.group.toNat ++ leBytes 4 m.deadline.toNat ++
  leBytes 4 m.res14.toNat ++ leBytes 4 m.res18.toNat ++ leBytes 4 0 ++ m.payload

/-- The check value of R41. -/
def billetCrc (m : BilletMsg) (n : Nat) : Word := crc32c (checkStream m n)

/-- A DEADLINE that frame `f` would miss (R83); 0 asks for none. -/
def missesDeadline (deadline f : Word) : Bool := deadline != 0 && decide (0 < sdiff f deadline)

end Sys2Proof.Machine
end

