-- ==== Sys2Proof/Machine/Mailbox.lean ====
section
/-! DEFINITION. Hardware locks (R581-R585, R597) and mailbox channels (R586-R596). -/
namespace Sys2Proof.Machine

/-! ## Locks -/

/-- Lock `k`. -/
def State.lock (s : State) (k : Nat) : Lock := s.locks.getD k Lock.free
/-- Changes lock `k`. -/
def State.modLock (s : State) (k : Nat) (f : Lock → Lock) : State := { s with locks := modAt s.locks k f }

/-- Grants a freed lock to the request that has waited longest (R583). -/
def Lock.grant (l : Lock) : Lock :=
  match l.holder with
  | .none =>
    match l.waiting with
    | [] => l
    | m :: ms =>
      if m = 3 then
        match l.strands with
        | [] => { l with waiting := ms }
        | t :: ts => { l with holder := .strand t, strands := ts, waiting := if ts = [] then ms else ms ++ [3] }
      else { l with holder := .master m, waiting := ms }
  | _ => l

/-- Master `m` asks for the lock with ACQ (R582): a free lock is taken, a held one records one waiting request. -/
def Lock.acq (l : Lock) (m : Nat) : Lock :=
  match l.holder with
  | .none => { l with holder := .master m }
  | _ => if l.waiting.contains m || l.holder.id = some m then l else { l with waiting := l.waiting ++ [m] }

/-- TRY (R582). -/
def Lock.try (l : Lock) (m : Nat) : Lock :=
  match l.holder with
  | .none => { l with holder := .master m }
  | _ => l

/-- Frees the lock and passes it on (R583). -/
def Lock.release (l : Lock) : Lock := Lock.grant { l with holder := .none }

/-- CANCEL (R582). -/
def Lock.cancel (l : Lock) (m : Nat) : Lock := { l with waiting := l.waiting.filter (· ≠ m) }

/-- What LCK_k_STAT reads for master `m` (R582, R597). -/
def Lock.stat (l : Lock) (m : Nat) : Nat :=
  (match l.holder.id with
   | none => 0x200
   | some h => if h = m then 0 else 0x100 + h) + (if l.waiting.contains m then 0x400 else 0)

/-- REL by a register master (R582): a release by another than the holder is counted. -/
def State.lockRel (s : State) (k m : Nat) : State :=
  if (s.lock k).holder = .master m then s.modLock k Lock.release
  else (s.incSat R.LCK_BADREL 0 32).slagWarn 23 k 0x14

/-- The masters that may use locks and channels through registers (R581). -/
def State.lockMaster (s : State) (m : Nat) : Bool := m ≤ 2 || (m == 4 && s.fuses.pair) || m == 16

/-- Frees every lock of master `m` without REL and cancels its waiting requests (R584). -/
def State.forceLocks (s : State) (m : Nat) : State :=
  foldN 64 (fun s k =>
    let s := s.modLock k (fun l => l.cancel m)
    if (s.lock k).holder = .master m then
      ((s.modLock k Lock.release).incSat R.LCK_FORCED 0 32).slagWarn 23 k 0x14
    else s) s

/-- Frees the locks held by the strands that `p` names, without REL, and drops their waiting requests (R424, R584). -/
def State.forceStrands (s : State) (p : StrandId → Bool) : State :=
  foldN 64 (fun s k =>
    let s := s.modLock k (fun l =>
      let ts := l.strands.filter (fun t => !p t)
      { l with strands := ts, waiting := if ts = [] then l.waiting.filter (· ≠ 3) else l.waiting })
    match (s.lock k).holder with
    | .strand t =>
      if p t then ((s.modLock k Lock.release).incSat R.LCK_FORCED 0 32).slagWarn 23 k 0x14 else s
    | _ => s) s

/-- Frees every lock and cancels every request: warm reset, RESET_N, power-on reset (R584). -/
def State.clearLocks (s : State) : State := { s with locks := List.replicate 64 Lock.free }

/-- The lock write common to the four rows: gate, reserved bits, then the operation of the writing master. -/
def State.lockWrite (s : State) (k : Nat) (a : Access) (f : State → Nat → State) : State :=
  let off := R.LCK_REQ k
  (s.gateWrite a off false).run (fun m =>
    let s := s.rsvCheck m off a.data.toNat 0xFFFFFFFC
    if s.lockMaster m then f s m else s)

/-- LCK_k_REQ written with OP ACQ (R582). -/
def execLckAcq (k : Fin 64) (a : Access) (s : State) : Out :=
  .next (s.lockWrite k.val a (fun s m => s.modLock k.val (fun l => l.acq m)))

/-- LCK_k_REQ written with OP TRY (R582). -/
def execLckTry (k : Fin 64) (a : Access) (s : State) : Out :=
  .next (s.lockWrite k.val a (fun s m => s.modLock k.val (fun l => l.try m)))

/-- LCK_k_REQ written with OP REL (R582, R583). -/
def execLckRel (k : Fin 64) (a : Access) (s : State) : Out :=
  .next (s.lockWrite k.val a (fun s m => s.lockRel k.val m))

/-- LCK_k_REQ written with OP CANCEL (R582). -/
def execLckCancel (k : Fin 64) (a : Access) (s : State) : Out :=
  .next (s.lockWrite k.val a (fun s m => s.modLock k.val (fun l => l.cancel m)))

/-! ## Channels -/

/-- Channel `k`. -/
def State.chan (s : State) (k : Nat) : Channel := s.chans.getD k Channel.empty
/-- Changes channel `k`. -/
def State.modChan (s : State) (k : Nat) (f : Channel → Channel) : State := { s with chans := modAt s.chans k f }
/-- SENDER, RECEIVER and MODE of channel `k`. -/
def State.chSender (s : State) (k : Nat) : Nat := s.fld (R.MBX_CH_CFG k) 0 8
/-- RECEIVER. -/
def State.chReceiver (s : State) (k : Nat) : Nat := s.fld (R.MBX_CH_CFG k) 8 8
/-- MODE 1, doorbell. -/
def State.chBell (s : State) (k : Nat) : Bool := s.flag (R.MBX_CH_CFG k) 16

/-- Whether channel `k` is enabled (R586, R581, R593). -/
def State.chOn (s : State) (k : Nat) : Bool :=
  s.flag (R.MBX_CH_CFG k) 17 && s.chSender k != s.chReceiver k && s.lockMaster (s.chSender k) && s.lockMaster (s.chReceiver k)

/-- The interrupt of master `m` for channel `k` (R591): Hearth and the Knaby cores have a line, slice 0 polls. -/
def State.mbxIrq (s : State) (m k : Nat) : State := if m ≤ 2 then s.emit (.mbxIrq m k) else s

/-- Places a message or a doorbell value in the receiving half of channel `k` (R588, R589, R591). -/
def State.chanDeliver (s : State) (k : Nat) (ws : List Word) : State :=
  let c := s.chan k
  if s.chBell k then
    let v := c.bell ||| ws.getD 3 0
    let s1 := s.modChan k (fun c => { c with bell := v })
    if v = c.bell then s1 else s1.mbxIrq (s.chReceiver k) k
  else if c.msgs.length < 8 then
    let s1 := s.modChan k (fun c => { c with msgs := c.msgs ++ [ws] })
    let s1 := if c.msgs = [] then s1.mbxIrq (s.chReceiver k) k else s1
    if c.dropped then s1.mbxIrq (s.chSender k) k else s1
  else s.modChan k (fun c => { c with dropped := true })

/-- TX3 written by master `m` (R588-R590, R593). A message for the partner leaves in a Ulinex EVENT frame. -/
def State.mbxSend (s : State) (k m : Nat) (v : Word) : State :=
  if !s.chOn k then s
  else if s.chSender k ≠ m then s.modChan k (fun c => { c with foreign := sat 8 (c.foreign + 1) })
  else if (s.chan k).rxReset then s.modChan k (fun c => { c with aborted := true })
  else
    let ws := if s.chBell k then [0, 0, 0, v] else (s.chan k).tx ++ [v]
    if s.chReceiver k = 4 then s.ulxSend (.event (.mailbox k ws)) else s.chanDeliver k ws

/-- TX0, TX1 or TX2 written (R588, R589). -/
def State.mbxStage (s : State) (k j m : Nat) (v : Word) : State :=
  if !s.chOn k then s
  else if s.chSender k ≠ m then s.modChan k (fun c => { c with foreign := sat 8 (c.foreign + 1) })
  else if s.chBell k then s
  else s.modChan k (fun c => { c with tx := putAt c.tx j v })

/-- What RXj of channel `k` reads for master `m` (R588, R589). -/
def State.rxValue (s : State) (k j m : Nat) : Word :=
  if s.chOn k && s.chReceiver k == m then
    if s.chBell k then (if j = 3 then (s.chan k).bell else 0)
    else match (s.chan k).msgs with
      | ws :: _ => ws.getD j 0
      | [] => 0
  else 0

/-- A read of RX3 by master `m` removes the message or clears the pending word (R588). -/
def State.mbxTake (s : State) (k m : Nat) : State :=
  if s.chOn k && s.chReceiver k == m then
    if s.chBell k then s.modChan k (fun c => { c with bell := 0 })
    else s.modChan k (fun c => { c with msgs := c.msgs.drop 1 })
  else s

/-- The reset of master `m` as receiver (R590): its channels are cleared, ABORTED and RX_RESET set, the sender told. -/
def State.rxResetStart (s : State) (m : Nat) : State :=
  foldN 32 (fun s k =>
    if s.chOn k && s.chReceiver k == m then
      let s := s.modChan k (fun c => { c with msgs := [], bell := 0, tx := [0, 0, 0], aborted := true, rxReset := true })
      let s := s.mbxIrq (s.chSender k) k
      if s.chSender k = 16 then s.slagWarn 23 k 0x14 else s
    else s) s

/-- Master `m` leaves reset: sends to it are accepted again (R590). -/
def State.rxResetEnd (s : State) (m : Nat) : State :=
  foldN 32 (fun s k => if s.chReceiver k = m then s.modChan k (fun c => { c with rxReset := false }) else s) s

/-- A warm reset clears every channel; Hearth sees ABORTED on each channel it sends on (R590). -/
def State.clearChannels (s : State) : State :=
  foldN 32 (fun s k => s.modChan k (fun c =>
    { c with msgs := [], bell := 0, tx := [0, 0, 0], aborted := c.aborted || (s.chOn k && s.chSender k == 0) })) s

/-- MBX_CHk_TX3 written (R588). -/
def execMbxSend (k : Fin 32) (a : Access) (s : State) : Out :=
  .next ((s.gateWrite a (R.MBX_CH_TX k.val 3) false).run (fun m => s.mbxSend k.val m a.data))

/-- MBX_CHk_RX3 read, at any width (R588, R614). -/
def execMbxReceive (k : Fin 32) (a : Access) (s : State) : Out :=
  .next (
    if a.be = 0 || !s.served then s.emit (.readData 0) else
    match s.sysMaster a.req with
    | none => s.emit (.readData 0)
    | some m => (s.mbxTake k.val m).emit (.readData (s.rxValue k.val 3 m)))

/-- MBX_LOCK written (R587, R9 type W1): the first write is taken, each later one sets SLG_ACC.LOCKED. -/
def State.mbxLockWrite (s : State) (m : Nat) (v : Word) : State :=
  let fl := (if s.mbxLockDone then [1] else []) ++ (if v.toNat / 2 = 0 then [] else [3])
  let s1 := s.accFlags fl m R.MBX_LOCK
  if s.mbxLockDone then s1
  else { s1.setReg R.MBX_LOCK (v.toNat % 2) with mbxLockDone := true }

/-- MBX_LOCK written (R587). -/
def execMbxLock (a : Access) (s : State) : Out :=
  .next ((s.gateWrite a R.MBX_LOCK false).run (fun m => s.mbxLockWrite m a.data))

end Sys2Proof.Machine
end

