-- ==== Sys2Proof/Machine/HostNet.lean ====
section
/-! DEFINITION. The PCIe endpoints (R562-R570, R706), the switch and its stack (R571-R573), gPTP (R576), reservations
(R578), gate lists (R144) and the MDIO bus (R580). -/
namespace Sys2Proof.Machine

/-! ## PCIe -/

/-- Slice 0 is bound to PCIe port `p`. -/
def State.sysPort (s : State) (p : Nat) : Bool :=
  match (s.slice 0).binding with
  | .pcie q _ => q == p
  | _ => false

/-- FLR, link down or D3hot on slice 0's port: the locks of ID 16 are freed, its channels reset (R584, R590). -/
def State.loseHost (s : State) (p : Nat) : State :=
  if s.sysPort p then ((s.forceLocks 16).rxResetStart 16).rxResetEnd 16 else s

/-- Sets or clears a condition of R566 on a port. -/
def PciPort.setCause (q : PciPort) (c : HoldCause) (on : Bool) : PciPort :=
  match c with
  | .linkDown => { q with linkUp := !on, width := if on then 0 else q.width, speed := if on then 0 else q.speed }
  | .busMasterOff => { q with bme := !on }
  | .pasidOff => { q with pasidEn := !on }
  | .d3hot => { q with d3 := on }

/-- A port responds: port 1 does not when bonded (R565). -/
def State.portPresent (s : State) (p : Nat) : Bool := !(s.boot.bond && p == 1)

/-- The configuration space and BAR4/5 at their reset values (R567). -/
def PciPort.cfgReset (q : PciPort) : PciPort :=
  { q with bme := false, pasidEn := false, d3 := false, msix := List.replicate 64 MsixEntry.reset }

/-- Function Level Reset (R567). -/
def execPcieFlr (p : Fin 2) (s : State) : Out :=
  .next (if s.portPresent p.val then
    ((s.modPort p.val PciPort.cfgReset).loseHost p.val).slagErr 19 p.val 0x14 else s)

/-- A condition of R566 begins. -/
def execPcieHoldStart (p : Fin 2) (c : HoldCause) (s : State) : Out :=
  .next (if s.portPresent p.val then
    let s1 := s.modPort p.val (fun q => q.setCause c true)
    match c with
    | .linkDown => s1.loseHost p.val
    | .d3hot => s1.loseHost p.val
    | _ => s1
  else s)

/-- A condition of R566 ends; once none holds, the held requests are issued in order. -/
def execPcieHoldEnd (p : Fin 2) (c : HoldCause) (width : Fin 16) (speed : Fin 8) (s : State) : Out :=
  .next (if s.portPresent p.val then
    let s1 := s.modPort p.val (fun q => q.setCause c false)
    let s2 := match c with
      | .linkDown => s1.modPort p.val (fun q => { q with width := width.val, speed := speed.val })
      | _ => s1
    s2.drainPort p.val
  else s)

/-- PERST_N low: link down and reset as under R566 and R567 (R706). -/
def execPciePerst (p : Fin 2) (s : State) : Out :=
  .next (if s.portPresent p.val then
    (s.modPort p.val (fun q => (q.setCause .linkDown true).cfgReset)).loseHost p.val else s)

/-- 1 ms after a failed billet fetch the fetch may be made again (R568). -/
def execFetchRetry (n : Fin 16) (s : State) : Out :=
  .next (s.modSlice n.val (fun x => { x with fetchRetry := false }))

/-- Slice `n` is bound to port `p`. -/
def State.boundTo (s : State) (n p : Nat) : Bool :=
  match (s.slice n).binding with
  | .pcie q _ => q == p
  | _ => false

/-- Clears the mask of an entry; its pending message is sent while its slice is bound to the port (R569, R570). -/
def State.msixUnmask (s : State) (p e : Nat) : State :=
  let x := (s.port p).msix.getD e MsixEntry.reset
  let send := x.pend && s.boundTo (e / 4) p
  let s := s.modPort p (fun q => { q with
    msix := modAt q.msix e (fun m => { m with masked := false, pend := m.pend && !send }) })
  if send then s.request p (.msi e) else s

/-- MSIX_UNMASK. -/
def execMsixUnmask (p : Fin 2) (e : Fin 64) (s : State) : Out := .next (s.msixUnmask p.val e.val)

/-! ## Switch and stack -/

/-- One more datagram or frame dropped for reason `k` (R580 NET_DROP). -/
def State.netDrop (s : State) (k : Nat) : State := s.incSat (R.NET_DROP k) 0 32

/-- The entry of a VLAN in force. -/
def State.vlanEntry (s : State) (vid : Nat) : Option Nat :=
  firstIdx 64 (fun k => s.flag (R.NET_VLAN k) 31 && s.fld (R.NET_VLAN k) 0 12 == vid)

/-- External ports that are members of the VLAN; absent ports read 0 (R684). -/
def State.vlanPorts (s : State) (k : Nat) : List Nat :=
  (maskList 4 (s.fld (R.NET_VLAN k) 12 4)).filter (fun p => p < s.nEth)

/-- The internal port is a member. -/
def State.vlanInternal (s : State) (k : Nat) : Bool := s.flag (R.NET_VLAN k) 16

/-- The device's MAC address. -/
def State.netMac (s : State) : Nat := s.reg R.NET_MAC_LO + 2 ^ 32 * s.fld R.NET_MAC_HI 0 16

/-- Traffic class of a PCP (R580). -/
def State.pcpClass (s : State) (pcp : Nat) : Nat := s.fld R.NET_PCP_MAP (3 * pcp) 3

/-- An external port runs: present and enabled. -/
def State.ethOn (s : State) (p : Nat) : Bool := p < s.nEth && s.flag (R.NET_P_CFG p) 0

/-- Learns a source address (R572): up to 1024 entries. -/
def State.learn (s : State) (mac : BitVec 48) (vlan : BitVec 12) (p : Nat) : State :=
  let f := s.net.fwd.filter (fun e => !(e.mac == mac && e.vlan == vlan))
  if f.length < 1024 then { s with net := { s.net with fwd := ⟨mac, vlan, p⟩ :: f } } else s

/-- A frame reaches the internal port (R573): a frame without a row of its own is dropped and counted. -/
def State.internalRx (s : State) (f : EthFrame) : State :=
  if f.served && s.flag R.NET_CFG 0 then s else s.netDrop 7

/-- A frame at an external port: dropped, learned and forwarded (R572, R573). -/
def State.bridge (s : State) (p : Nat) (f : EthFrame) : State :=
  if !s.ethOn p then s
  else match f.kind with
  | .unsupported => s.netDrop 7
  | .gptp => s.internalRx f
  | .plain =>
    if 9018 < f.len then s.netDrop 7 else
    match s.vlanEntry f.vlan.toNat with
    | none => s.netDrop 7
    | some k =>
      if !(s.vlanPorts k).contains p then s.netDrop 7 else
      let s := s.learn f.src f.vlan p
      let tc := s.pcpClass f.pcp.toNat
      let bcast := f.dst.toNat / 2 ^ 40 % 2 = 1
      let flood := (s.vlanPorts k).filter (fun q => q ≠ p && s.ethOn q)
      if f.dst.toNat = s.netMac then (if s.vlanInternal k then s.internalRx f else s.netDrop 7)
      else if bcast then
        let s := flood.foldl (fun s q => s.emit (.eth q tc f)) s
        if s.vlanInternal k then s.internalRx f else s
      else match s.net.fwd.find? (fun e => e.mac == f.dst && e.vlan == f.vlan) with
        | some e => if e.port ≠ p && flood.contains e.port then s.emit (.eth e.port tc f) else s
        | none => flood.foldl (fun s q => s.emit (.eth q tc f)) s

/-- ETH_FRAME_RX. -/
def execEthFrameRx (p : Fin 4) (f : EthFrame) (s : State) : Out := .next (s.bridge p.val f)

/-- The stack answers for NET_IP on every VLAN of NET_VLAN with the internal port (R573). -/
def State.stackAnswers (s : State) (p : Nat) (vlan : BitVec 12) (target : Word) : Bool :=
  s.ethOn p && s.flag R.NET_CFG 0 && target.toNat == s.reg R.NET_IP &&
  (match s.vlanEntry vlan.toNat with
   | some k => s.vlanInternal k && (s.vlanPorts k).contains p
   | none => false)

/-- ARP_REQUEST (R573, R579). -/
def execArpRequest (p : Fin 4) (vlan : BitVec 12) (target : Word) (mac : BitVec 48) (ip : Word) (s : State) : Out :=
  .next (if s.stackAnswers p.val vlan target then s.emit (.arpReply p.val vlan mac ip target) else s)

/-- ICMP_ECHO (R573). -/
def execIcmpEcho (p : Fin 4) (vlan : BitVec 12) (target : Word) (mac : BitVec 48) (ip : Word) (data : List Byte)
    (s : State) : Out :=
  .next (if s.stackAnswers p.val vlan target then s.emit (.echoReply p.val vlan mac ip data) else s)

/-! ## Port rate and reservations -/

/-- Rate of a port in 100 kbit/s by NET_Pp_STAT.RATE. -/
def rateUnits (r : Nat) : Nat :=
  if r = 1 then 10000 else if r = 2 then 25000 else if r = 3 then 50000 else if r = 4 then 100000 else 0

/-- The sum of the reservations of traffic class `tc` on port `p`, in 100 kbit/s. -/
def State.rsvSum (s : State) (p tc : Nat) : Nat :=
  sumBy AvtpStream.rsv (s.net.avtp.filter (fun e => !e.listener && e.port == p && e.tc == tc))

/-- The limit of a class on a port in 100 kbit/s: SLOPE x rate / 1000 (R578). Class 3 is SLOPE_A, class 2 SLOPE_B. -/
def State.rsvLimit (s : State) (p tc : Nat) : Nat :=
  s.fld (R.NET_P_CBS p) (if tc = 3 then 0 else 16) 10 * rateUnits (s.fld (R.NET_P_STAT p) 1 3) / 1000

/-- Shows the reservations in NET_Pp_RSV. -/
def State.showRsv (s : State) (p : Nat) : State :=
  s.setReg (R.NET_P_RSV p) (sat 16 (s.rsvSum p 3) + 65536 * sat 16 (s.rsvSum p 2))

/-- A port's link comes up, goes down or changes speed (R571, R578). -/
def execEthLinkChange (p : Fin 4) (rate : Fin 5) (s : State) : Out :=
  .next (
    if !s.ethOn p.val then s else
    let off := R.NET_P_STAT p.val
    let s := (s.setFlag off 0 (rate.val != 0)).setFld off 1 3 rate.val
    if rate.val ≠ 0 && (s.rsvLimit p.val 3 < s.rsvSum p.val 3 || s.rsvLimit p.val 2 < s.rsvSum p.val 2) then
      (s.setFlag off 4 true).slagErr 20 p.val 0x13
    else s)

/-- A gate cycle starts on a port: a loaded list whose base has come takes over (R144). -/
def execGateCycleStart (p : Fin 4) (now : DWord) (s : State) : Out :=
  .next (
    let g := s.net.gates.getD p.val ⟨none, none⟩
    match g.loaded with
    | some l => if p.val < s.nEth && l.base ≤ now.toNat then
        { s with net := { s.net with gates := putAt s.net.gates p.val ⟨some l, none⟩ } } else s
    | none => s)

/-! ## gPTP -/

/-- A Sync from the master on port `p` (R576): the offset, the run of good intervals and the lock. A STANDBY device keeps
synchronising but goes by the forwarded time (R439). -/
def execGptpSync (p : Fin 4) (now : DWord) (offset : Word) (s : State) : Out :=
  .next (
    if !s.flag R.NET_PTP_CFG 0 || !s.ethOn p.val || !s.flag (R.NET_P_CFG p.val) 3 then s else
    let o := offset.toInt.natAbs
    let good := if o ≤ 100 then min 16 (s.net.goodSyncs + 1) else 0
    let s := { s with net := { s.net with goodSyncs := good, time := if s.leads then now.toNat else s.net.time } }
    let s := s.setReg R.NET_PTP_OFFSET offset.toNat
    let s := (s.setFlag R.NET_PTP_STAT 1 false).setFld R.NET_PTP_STAT 2 3 p.val
    if good = 16 then s.setFlag R.NET_PTP_STAT 0 true
    else if 1000 < o then
      if s.flag R.NET_PTP_STAT 0 then (s.setFlag R.NET_PTP_STAT 0 false).slagErr 20 0 0x13 else s
    else s)

/-- No Sync for 3 s (R576); with `gm` the device has become grandmaster, which is always locked. -/
def execGptpSyncTimeout (gm : Bool) (s : State) : Out :=
  .next (
    if !s.flag R.NET_PTP_CFG 0 || s.flag R.NET_PTP_STAT 1 then s else
    let was := s.flag R.NET_PTP_STAT 0
    let s := { s with net := { s.net with goodSyncs := 0 } }
    let s := if was then (s.setFlag R.NET_PTP_STAT 0 false).slagErr 20 0 0x13 else s
    if gm then (s.setFlag R.NET_PTP_STAT 1 true).setFlag R.NET_PTP_STAT 0 true else s)

/-! ## MDIO -/

/-- A write of NET_MDIO with GO: OP and C45_WR as the operation names them (R580). -/
def State.mdioGo (s : State) (v op : Nat) (wr : Bool) : State :=
  let v := putBits (putBits v 26 2 op) 28 1 (b2n wr)
  if s.flag R.NET_MDIO 29 then s
  else
    let s := s.setReg R.NET_MDIO (v &&& 0x1FFFFFFF)
    if !s.leads then s.setFlag R.NET_MDIO 30 true
    else (s.setFlag R.NET_MDIO 29 true).emit (.mdio op wr (bits v 21 5) (bits v 16 5) (bits v 0 16))

/-- Gate of an MDIO write. -/
def State.mdioWrite (s : State) (a : Access) (op : Nat) (wr : Bool) : State :=
  (s.gateWrite a R.NET_MDIO false).run (fun _ => s.mdioGo a.data.toNat op wr)

/-- Clause 22 read. -/
def execMdioC22Read (a : Access) (s : State) : Out := .next (s.mdioWrite a 0 (a.data.getLsbD 28))
/-- Clause 22 write. -/
def execMdioC22Write (a : Access) (s : State) : Out := .next (s.mdioWrite a 1 (a.data.getLsbD 28))
/-- Clause 45 address. -/
def execMdioC45Address (a : Access) (s : State) : Out := .next (s.mdioWrite a 2 false)
/-- Clause 45 write. -/
def execMdioC45Write (a : Access) (s : State) : Out := .next (s.mdioWrite a 2 true)
/-- Clause 45 read. -/
def execMdioC45Read (a : Access) (s : State) : Out := .next (s.mdioWrite a 3 (a.data.getLsbD 28))

/-- The transaction ends; a read delivers its data (R580). -/
def execMdioDone (v : BitVec 16) (s : State) : Out :=
  .next (
    if s.flag R.NET_MDIO 29 then
      let op := s.fld R.NET_MDIO 26 2
      let s := s.setFlag R.NET_MDIO 29 false
      if op = 0 || op = 3 then s.setFld R.NET_MDIO 0 16 v.toNat else s
    else s)

end Sys2Proof.Machine
end

