-- ==== Sys2Proof/Machine/Audio.lean ====
section
/-! DEFINITION. The audio block (R541-R560) and the opcodes of class 0x06 (R128-R134). -/
namespace Sys2Proof.Machine

/-- Changes the audio block. -/
def State.modAud (s : State) (f : Audio → Audio) : State := { s with aud := f s.aud }
/-- Mixer output `j`. -/
def Audio.out (a : Audio) (j : Nat) : AudOut := a.outs.getD j AudOut.reset
/-- Changes mixer output `j`. -/
def State.modAudOut (s : State) (j : Nat) (f : AudOut → AudOut) : State :=
  s.modAud (fun a => { a with outs := modAt a.outs j f })

/-- The audio block can play (R559): running, PLL locked, powered, and in no reset. -/
def State.audioPath (s : State) : Bool :=
  s.flag R.AUD_CFG 0 && s.flag R.AUD_STAT 0 && s.power.st ≤ 1 && !(3 ≤ s.power.step && 2 ≤ s.power.target) &&
  s.boot.warmStep == 0 && !bit s.boot.rstBlk 2

/-- Ends each billet of a list with S_DONE. -/
def State.doneAll (s : State) (l : List (Nat × Word)) : State := l.foldl (fun s e => s.completeOpen e.1 e.2 S_DONE) s

/-! ## Gains and routes (R545, R546, R553) -/

/-- Gain of the cross-point with this key. -/
def Audio.cross (a : Audio) (k : Nat) : Gain := ((a.xp.find? (fun e => e.1 == k)).map Prod.snd).getD Gain.off
/-- Sets a cross-point. -/
def Audio.setCross (a : Audio) (k : Nat) (g : Gain) : Audio :=
  let l := a.xp.filter (fun e => e.1 != k)
  { a with xp := if g == Gain.off then l else insertBy Prod.fst (k, g) l }

/-- ROUTE_RAMP in samples (R546). -/
def State.routeRamp (s : State) : Nat := rampSamples (max 5 (s.fld R.AUD_CFG 8 8))

/-- A safety chime plays on output `j` of the normal path. -/
def Audio.safetyOn (a : Audio) (j : Nat) : Bool :=
  a.players.any (fun p => match p.cur with
    | some c => c.safety && !c.fault && c.started != 0 && c.outs.testBit j
    | none => false)

/-- The ramp to silence of a changed mapping begins, unless it runs or a safety chime plays on the output (R553, R560). -/
def State.startMap (s : State) (j : Nat) : State :=
  let o := s.aud.out j
  let going := match o.mapGain.ramp with
    | some r => r.toOff
    | none => false
  if o.mapNext.isNone || going || s.aud.safetyOn j then s
  else s.modAudOut j (fun o => { o with mapGain := o.mapGain.rampTo none s.routeRamp none none })

/-- A write of AUD_OUTj_MAP (R553). -/
def State.audMapWrite (s : State) (j v : Nat) : State :=
  let w := v &&& 0xFFFF0003
  if s.reg (R.AUD_OUT_MAP j) = w then s
  else ((s.setReg (R.AUD_OUT_MAP j) w).modAudOut j (fun o => { o with mapNext := some (BitVec.ofNat 32 w) })).startMap j

/-- AUD_OUT_MAP_WRITE. -/
def execAudOutMapWrite (j : Fin 16) (a : Access) (s : State) : Out :=
  .next ((s.gateWrite a (R.AUD_OUT_MAP j.val) false).run (fun m =>
    (s.rsvCheck m (R.AUD_OUT_MAP j.val) a.data.toNat 0xFFFC).audMapWrite j.val a.data.toNat))

/-- A gain whose ramp has ended, ended. -/
def Gain.settle (g : Gain) : Gain := if g.ended then g.endRamp else g
/-- The billet that ends with it. -/
def Gain.due (g : Gain) : List (Nat × Word) := if g.ended then g.doneSrc.toList else []

/-- An output's ramps end: the mapping changes at silence (R553). -/
def AudOut.settle (o : AudOut) (ramp : Nat) : AudOut :=
  let o := { o with gain := o.gain.settle, duck := o.duck.settle }
  if o.mapGain.ended then
    let g := o.mapGain.endRamp
    if g.q.isNone then { o with map := o.mapNext.getD o.map, mapNext := none, mapGain := g.rampTo (some 0) ramp none none }
    else { o with mapGain := g }
  else o

/-- AUD_RAMP_END (R545, R546, R553, R558): every ramp whose last sample has been played ends. -/
def execAudRampEnd (s : State) : Out :=
  .next (
    let a := s.aud
    let due := a.inGain.flatMap Gain.due ++ a.xp.flatMap (fun e => e.2.due) ++ a.outs.flatMap (fun o => o.gain.due)
    let quiet := maskOf ((List.range 16).filter (fun j => (a.out j).duck.ended && !a.safetyOn j))
    let n := s.routeRamp
    let s := s.modAud (fun a => { a with
      inGain := a.inGain.map Gain.settle
      outs := a.outs.map (fun o => o.settle n)
      xp := (a.xp.map (fun e => (e.1, e.2.settle))).filter (fun e => e.2 != Gain.off) })
    (s.setReg R.AUD_DUCK_STAT (s.reg R.AUD_DUCK_STAT &&& (0xFFFF ^^^ quiet))).doneAll due)

/-! ## Chimes (R556-R559) -/

/-- One sample of a playing chime has been played. -/
def Chime.tick (c : Chime) : Chime :=
  if c.started = 0 then c
  else if (chimeTimes (c.num / 8)).2 * 48 ≤ c.pos + 1 && (c.times = 0 || c.started < c.times)
    then { c with pos := 0, started := c.started + 1 }
  else { c with pos := c.pos + 1 }

/-- The last repeat has been played. -/
def Chime.over (c : Chime) : Bool :=
  c.started != 0 && c.times != 0 && c.times ≤ c.started && (chimeTimes (c.num / 8)).1 * 48 ≤ c.pos

/-- The sample a chime gives now. -/
def Chime.now (c : Chime) : Int := if c.started = 0 then 0 else chimeSample c.num c.pos
/-- Its sample times its gain. -/
def Chime.scaled (c : Chime) : Int := if c.now = 0 || c.gain = -32768 then 0 else c.now * gainG c.gain

/-- The billet of an ended chime completes: repeats started, and 1 where a safety chime took its player (R557). -/
def State.endChime (s : State) (c : Chime) (hi : Nat) : State :=
  match c.src with
  | some (n, seq) => s.complete n seq S_DONE (c.started + hi * 2 ^ 32)
  | none => s

/-- Changes player `p`. -/
def State.modPlayer (s : State) (p : Nat) (f : Player → Player) : State :=
  s.modAud (fun a => { a with players := modAt a.players p f })

/-- A player at a block boundary: its chime ends, gives way, or starts (R557). -/
def State.playerBlock (s : State) (p : Nat) : State :=
  let x := s.aud.players.getD p ⟨none, none⟩
  match x.cur, x.next with
  | some c, some d =>
    let s := s.endChime c 1
    if d.stop then (s.endChime d 0).modPlayer p (fun _ => ⟨none, none⟩)
    else s.modPlayer p (fun _ => ⟨some { d with started := 1 }, none⟩)
  | some c, none =>
    if c.stop || c.over then (s.endChime c 0).modPlayer p (fun _ => ⟨none, none⟩)
    else if c.started = 0 then s.modPlayer p (fun _ => ⟨some { c with started := 1 }, none⟩)
    else s
  | _, _ => s

/-- Puts a chime on a player: a free one, or for a safety chime that of the normal chime that started last (R557). -/
def State.putChime (s : State) (c : Chime) : Option State :=
  let c := { c with no := s.aud.chimeNo }
  let s := s.modAud (fun a => { a with chimeNo := a.chimeNo + 1 })
  match firstIdx 4 (fun p => (s.aud.players.getD p ⟨none, none⟩).cur.isNone) with
  | some p => some (s.modPlayer p (fun _ => ⟨some c, none⟩))
  | none =>
    if !c.safety then none else
    let rank := fun p => match s.aud.players.getD p ⟨none, none⟩ with
      | ⟨some d, none⟩ => if d.safety then 0 else d.no + 1
      | _ => 0
    let best := maxBy rank (List.range 4)
    if best = 0 then none
    else (firstIdx 4 (fun p => rank p == best)).map (fun p => s.modPlayer p (fun x => { x with next := some c }))

/-- A cause of FAULT_N that FAULT_CHIME has not sounded for makes it play once (R646). -/
def State.faultChimeDue (s : State) : State :=
  let seen := s.aud.faultSeen
  let new := s.slag.cause &&& (0xFFFFFFFF ^^^ seen) != 0 || (s.slag.hw && !s.aud.hwSeen)
  let s := s.modAud (fun a => { a with faultSeen := s.slag.cause, hwSeen := s.slag.hw })
  if new && s.boot.faultChime < 64 then
    (s.putChime ⟨s.boot.faultChime, true, true, 1, 0, 1, 0, 0, false, none, 0⟩).getD s
  else s

/-- Output `j` begins or ends ducking (R558). -/
def State.duckEdge (s : State) (was now : Bool) (j : Nat) : State :=
  if now && !was then
    (s.modAudOut j (fun o => { o with
      duck := o.duck.rampTo (some (sgn 16 (s.fld R.AUD_DUCK 0 16))) (48 * max 1 (s.fld R.AUD_DUCK 16 8)) none none })).setFlag
      R.AUD_DUCK_STAT j true
  else if was && !now then
    (s.modAudOut j (fun o => { o with
      duck := o.duck.rampTo (some 0) (480 * max 1 (s.fld R.AUD_DUCK 24 8)) none none })).startMap j
  else s

/-- Chimes that play on the bypass: every safety chime while the normal path cannot play, and FAULT_CHIME always. -/
def State.onBypass (s : State) (c : Chime) : Bool := c.safety && c.started != 0 && (c.fault || !s.audioPath)

/-- The chimes of the players. -/
def Audio.chimes (a : Audio) : List Chime := a.players.filterMap Player.cur

/-- A block of the bypass (R559): 48 samples of its chimes, unscaled. -/
def State.bypassBlock (s : State) : State :=
  let l := s.aud.chimes.filter s.onBypass
  let s := s.setFlag R.AUD_STAT 1 (l != [])
  if l = [] || s.power.st = 5 then s else
  let at_ := fun (c : Chime) i => foldN i (fun c _ => c.tick) c
  let block := (List.range 48).map (fun i => sat32 (l.foldl (fun a c => a + (at_ c i).now) 0))
  let s := if s.leads then s.emit (.bypass (s.fld R.AUD_BYP 0 16) block) else s
  s.modAud (fun a => { a with players := a.players.map (fun p =>
    { p with cur := p.cur.map (fun c => if s.onBypass c then at_ c 48 else c) }) })

/-- CHIME_BLOCK (R557-R559): a 1 ms block boundary. -/
def execChimeBlock (s : State) : Out :=
  .next (
    let was := s.aud
    let s := s.faultChimeDue
    let s := foldN 4 State.playerBlock s
    let s := foldN 16 (fun s j => s.duckEdge (was.safetyOn j) (s.aud.safetyOn j) j) s
    s.bypassBlock)

/-- AUD_PLL_LOCK (R559). -/
def execAudPllLock (s : State) : Out := .next (s.setFlag R.AUD_STAT 0 true)
/-- AUD_PLL_UNLOCK (R559, R632): safety chimes move to the bypass at the next block boundary. -/
def execAudPllUnlock (s : State) : Out :=
  .next (if s.flag R.AUD_STAT 0 then (s.setFlag R.AUD_STAT 0 false).slagErr 13 0 0x0E else s)

/-- A warm reset or a reset of AUD: normal chimes end with E_RESET_CUT (R560). -/
def State.chimesCut (s : State) (status : Nat) (atBlock : Bool) : State :=
  foldN 4 (fun s p =>
    match (s.aud.players.getD p ⟨none, none⟩).cur with
    | some c =>
      if c.safety then s else
      let s := match c.src with
        | some (n, seq) => s.completeOpen n seq status
        | none => s
      s.modPlayer p (fun x => if atBlock then { x with cur := some { c with src := none, stop := true } } else ⟨x.next, none⟩)
    | none => s) s

/-- AUD_CHIMEp as it reads (R561). -/
def State.chimeReg (s : State) (p : Nat) : Nat :=
  match (s.aud.players.getD p ⟨none, none⟩).cur with
  | some c => c.num + 64 * b2n c.safety + 128 + 256 * sat 8 c.started + 65536 * c.outs
  | none => 0

/-! ## A sample period (R544, R550-R555) -/

/-- The inputs of this period: the ACTIVE device forwards its own, and a STANDBY device uses the forwarded ones; none while
none is in (R439, R444). -/
def State.takePins (s : State) (pins : AudioPins) : Option (AudioPins × State) :=
  match s.pair.role with
  | .solo => some (pins, s)
  | .active => some (pins, s.ulxSend (.event (.samples pins)))
  | .standby =>
    match s.aud.fwd with
    | p :: r => some (p, s.modAud (fun a => { a with fwd := r }))
    | [] => none

/-- A flag of AUD_STAT is set with the entry of its fault (R552-R555). -/
def State.audFault (s : State) (bit unit : Nat) : State := (s.setFlag R.AUD_STAT bit true).slagErr 21 unit 0x13

/-- The microphones of one period: inputs 16 to 23. A disabled one reads 0. -/
def State.runMics (s : State) (pins : AudioPins) : List Mic × Bool × List (Nat × Int) :=
  foldN 8 (fun r k =>
    if s.flag R.AUD_PDM_CFG k then
      let m := (s.aud.mics.getD k Mic.reset).run (s.flag R.AUD_PDM_CFG (8 + k)) (r.2.1, sampleOf 24 (pins.mics.getD k 0).toNat)
      (putAt r.1 k m.1, m.2.1, r.2.2 ++ [(16 + k, m.2.2)])
    else r) (s.aud.mics, false, [])

/-- Slots of a TDM port. -/
def State.tdmSlots (s : State) (p : Nat) : Nat := s.fld (R.AUD_TDM_CFG p) 3 4 + 1
/-- A port runs at 44.1 kHz through the resampler (R541). -/
def State.tdm44 (s : State) (p : Nat) : Bool := s.flag (R.AUD_TDM_CFG p) 0 && s.flag (R.AUD_TDM_CFG p) 2

/-- The TDM inputs of one period: inputs 24 to 31. -/
def State.tdmInputs (s : State) (pins : AudioPins) (seed : Nat) : List (Nat × Int) :=
  (List.range 8).filterMap (fun k =>
    let m := s.reg (R.AUD_TDMIN_MAP k)
    let p := bits m 0 2
    let t := bits m 4 4
    if m.testBit 31 && s.flag (R.AUD_TDM_CFG p) 0 && t < s.tdmSlots p then
      let w := tdmWidth (s.fld (R.AUD_TDM_CFG p) 7 2)
      let raw := if s.tdm44 p then Config.resampled seed p t else (pins.tdm.getD p []).getD t 0
      some (24 + k, sampleOf w (raw.toNat / 2 ^ (32 - w)))
    else none)

/-- A frame of a guest stream: its bytes, if host memory gave them in time (R554). -/
def GuestStream.frame (g : GuestStream) (bytes : Option (List Byte)) : Option (List Int) :=
  let b := ringBytes g.format
  match bytes with
  | some l => if l.length = b * g.channels then
      some ((List.range g.channels).map (fun c => sampleOf (fmtWidth g.format) (rd l (b * c) b % 2 ^ fmtWidth g.format))) else none
  | none => none

/-- The guest streams of one period. -/
def State.runStreams (s : State) (rings : List (Nat × List Byte)) : State × List (Nat × Int) :=
  s.aud.streams.foldl (fun r g =>
    let f := g.frame ((rings.find? (fun e => e.1 == g.first)).map Prod.snd)
    let s := if f.isNone then r.1.audFault 3 g.first else r.1
    let s := s.doneAll g.src.toList
    let s := s.modAud (fun a => { a with streams := a.streams.map (fun h => if h.first == g.first then
      { h with off := (h.off + ringBytes h.format * h.channels) % h.bytes, count := h.count + 1, src := none } else h) })
    (s, r.2 ++ (f.getD []).zipIdx.map (fun e => (g.first + e.2, e.1)))) (s, [])

/-- The listener streams of one period: each plays the frame whose presentation time has come (R555). -/
def State.runListeners (s : State) (now : Nat) : State × List (Nat × Int) :=
  let due := fun (t : AvtpStream) => t.frames.takeWhile (fun f => f.1 ≤ now)
  let l := s.net.avtp.filter AvtpStream.listener
  ({ s with net := { s.net with avtp := s.net.avtp.map (fun t =>
      if t.listener then { t with frames := t.frames.drop (due t).length } else t) } },
   l.flatMap (fun t => (((due t).getLast?.map Prod.snd).getD []).zipIdx.map (fun e => (t.first + e.2, e.1))))

/-- One output of the mixer (R544) from the scaled inputs: the output as it stands after, the clip flag and y. -/
def Audio.mixOut (a : Audio) (x : List Clip) (j : Nat) (clip : Bool) : AudOut × Clip :=
  let o := a.out j
  let acc := a.xp.foldl (fun acc e =>
    if e.1 % 16 = j then acc + ((x.getD (e.1 / 16) (false, 0)).2) * e.2.factor else acc) 0
  let play := a.chimes.filter (fun c => !c.fault && c.outs.testBit j)
  let acc := (play.filter (fun c => !c.safety)).foldl (fun t c => t + c.scaled) acc
  let v := Clip.sat (clip, 0) (asr (acc + 8388608) 24)
  let v := scaleSat (scaleSat v o.gain.factor) o.duck.factor
  let q := runEq o.eq v
  let sft := (play.filter Chime.safety).foldl (fun t c => t + c.scaled) 0
  let v := q.2.sat (q.2.2 + asr (sft + 8388608) 24)
  let l := limitStep o.limit o.attackUs o.releaseMs o.env v.2
  let y := if o.delay = 0 then l.2 else o.line.getD (o.delay - 1) 0
  ({ o with eq := q.1, env := l.1, line := (l.2 :: o.line).take 4800 }, v.1, y)

/-- The frame of a TDM port, and whether a slot is named by several outputs (R552, R553). -/
def State.tdmFrame (s : State) (p : Nat) (y : List Clip) : List Word × Bool :=
  let w := tdmWidth (s.fld (R.AUD_TDM_CFG p) 7 2)
  let named := fun t => (List.range 16).filter (fun j =>
    let m := (s.aud.out j).map.toNat
    bits m 0 2 == p && m.testBit (16 + t))
  ((List.range (s.tdmSlots p)).map (fun t =>
    match named t with
    | j :: _ =>
      let v := (scaleSat (y.getD j (false, 0)) (s.aud.out j).mapGain.factor).2
      BitVec.ofNat 32 (unsgn w (toWidth w v) * 2 ^ (32 - w))
    | [] => 0),
   (List.range (s.tdmSlots p)).any (fun t => 1 < (named t).length))

/-- A TDM port drives its frame: none in a period that it drops, a resampled one at 147 of 160 periods at 44.1 kHz, and none
while the bypass drives TDM0 (R541, R552, R559). Only the device that leads drives pins (R457). -/
def State.driveTdm (s : State) (y : List Clip) (seed p : Nat) : State :=
  if !s.flag (R.AUD_TDM_CFG p) 0 then s else
  let f := s.tdmFrame p y
  let s := if f.2 then (if s.flag R.AUD_STAT 2 then s else s.audFault 2 p) else s
  let ph := s.aud.tdmPhase.getD p 0 + 147
  let at44 := s.tdm44 p
  let s := if at44 then s.modAud (fun a => { a with tdmPhase := putAt a.tdmPhase p (ph % 160) }) else s
  if at44 && ph < 160 then s else
  let f := if at44 then f.1.zipIdx.map (fun e =>
      if (List.range 16).any (fun j => bits (s.aud.out j).map.toNat 0 2 == p && (s.aud.out j).map.toNat.testBit (16 + e.2))
        then Config.resampled seed (4 + p) e.2 else 0) else f.1
  if 0 < s.aud.tdmDrop.getD p 0 then s.modAud (fun a => { a with tdmDrop := modAt a.tdmDrop p (· - 1) })
  else
    let s := s.modAud (fun a => { a with lastTdm := putAt a.lastTdm p f })
    if s.leads && !(p = 0 && s.flag R.AUD_STAT 1) then s.emit (.tdm p f) else s

/-- The talkers take the outputs they carry, with the time of sampling (R555, R577). -/
def State.feedTalkers (s : State) (y : List Clip) (now : Nat) : State :=
  { s with net := { s.net with avtp := s.net.avtp.map (fun t =>
    if t.listener then t
    else { t with frames := t.frames ++ [(now, (List.range t.channels).map (fun c => (y.getD (t.first + c) (false, 0)).2))] }) } }

/-- One sample of every ramp and of every chime on the normal path has been played. -/
def Audio.tick (a : Audio) : Audio :=
  { a with
    inGain := a.inGain.map Gain.tick
    xp := a.xp.map (fun e => (e.1, e.2.tick))
    outs := a.outs.map (fun o => { o with gain := o.gain.tick, duck := o.duck.tick, mapGain := o.mapGain.tick })
    players := a.players.map (fun p => { p with cur := p.cur.map (fun c => if c.fault then c else c.tick) }) }

/-- The mixer of one period from its 32 raw inputs: the outputs y with the clip flag. -/
def Audio.mix (a : Audio) (raw : List Int) (clip : Bool) : Audio × Bool × List Clip :=
  let x := (List.range 32).map (fun i => scaleSat (false, raw.getD i 0) (a.inGain.getD i Gain.unity).factor)
  let r := foldN 16 (fun (r : List AudOut × Bool × List Clip) j =>
      let m := a.mixOut x j r.2.1
      (r.1 ++ [m.1], m.2.1, r.2.2 ++ [m.2])) ([], clip || x.any Prod.fst, [])
  ({ a with outs := r.1 }, r.2.1, r.2.2)

/-- AUD_SAMPLE (R544). `rings` holds the frames of guest streams that host memory has given, by first input; `now` is the
gPTP time in ns. -/
def execAudSample (pins : AudioPins) (rings : List (Nat × List Byte)) (now : DWord) (s : State) : Out :=
  .next (
    if !s.audioPath then s else
    match s.takePins pins with
    | none => s
    | some (pins, s) =>
      let (seed, s) := if (List.range 4).any s.tdm44 then s.draw else (0, s)
      let m := s.runMics pins
      let s := s.modAud (fun a => { a with mics := m.1 })
      let g := s.runStreams rings
      let l := g.1.runListeners now.toNat
      let src := m.2.2 ++ s.tdmInputs pins seed ++ g.2 ++ l.2
      let raw := (List.range 32).map (fun i => ((src.find? (fun e => e.1 == i)).map Prod.snd).getD 0)
      let s := l.1
      let r := s.aud.mix raw m.2.1
      let s := s.modAud (fun _ => r.1)
      let s := if r.2.1 then s.setFlag R.AUD_STAT 6 true else s
      let s := foldN 4 (fun s p => s.driveTdm r.2.2 seed p) s
      (s.feedTalkers r.2.2 now.toNat).modAud Audio.tick)

/-- TDM_SLIP (R552): a slave port repeats its last frame (`again`) or drops the next one. -/
def execTdmSlip (p : Fin 4) (again : Bool) (s : State) : Out :=
  .next (
    if !s.flag (R.AUD_TDM_CFG p.val) 0 || s.flag (R.AUD_TDM_CFG p.val) 1 then s else
    let s := (s.audFault 5 p.val).incSat R.AUD_STAT 16 16
    if again then
      if s.leads && s.audioPath then s.emit (.tdm p.val (s.aud.lastTdm.getD p.val [])) else s
    else s.modAud (fun a => { a with tdmDrop := modAt a.tdmDrop p.val (· + 1) }))

/-- The offset that is behind, of two within a ring (R442, R554). -/
def lesserPos (ring a b : Nat) : Nat := if (a + ring - b % ring) % ring ≤ ring / 2 then b else a

/-- AUD_STREAM_POS (R554): the stream from input `i` writes its consumed offset after 48 frames. In a pair, `other` is the
offset that the other device has reported. -/
def execAudStreamPos (i : Fin 16) (other : Word) (s : State) : Out :=
  .next (
    match s.aud.streams.find? (fun g => g.first == i.val && 48 ≤ g.count) with
    | none => s
    | some g =>
      let v := if s.welded then lesserPos g.bytes g.off other.toNat else g.off
      (s.modAud (fun a => { a with streams := a.streams.map (fun h =>
        if h.first == i.val then { h with count := h.count - 48 } else h) })).hostWrite g.slice g.posAddr (leBytes 4 v))

/-! ## Opcodes -/

/-- A gain outside −96.0 to +12.0 dB that is not off. -/
def gainBad (g : Nat) : Bool := g != 0x8000 && (sgn 16 g < -24576 || 3072 < sgn 16 g)
/-- A gain field's value. -/
def gainVal (g : Nat) : Option Int := if g = 0x8000 then none else some (sgn 16 g)

/-- An input belongs to an open stream. -/
def State.inputUsed (s : State) (i : Nat) : Bool :=
  s.aud.streams.any (fun g => g.first ≤ i && i < g.first + g.channels) ||
  s.net.avtp.any (fun t => t.listener && t.first ≤ i && i < t.first + t.channels)
/-- An output feeds a talker. -/
def State.outputUsed (s : State) (j : Nat) : Bool :=
  s.net.avtp.any (fun t => !t.listener && t.first ≤ j && j < t.first + t.channels)

/-- Slice `n` owns the inputs of a stream, those that exist. -/
def State.ownsInputs (s : State) (n first count : Nat) : Bool :=
  (List.range count).all (fun k => 32 ≤ first + k || s.aud.inOwner.getD (first + k) 0 == n)
/-- Slice `n` owns the outputs of a stream. -/
def State.ownsOutputs (s : State) (n first count : Nat) : Bool :=
  (List.range count).all (fun k => 16 ≤ first + k || (s.aud.out (first + k)).owner == n)

/-- The new gain of a cross-point (R546). -/
def crossTo (g : Gain) (goal : Option Int) (n : Nat) (src : Option (Nat × Word)) : Gain :=
  match g.now, goal with
  | none, none => Gain.off
  | none, some q => g.rampTo (some q) n none src
  | some _, none => g.rampTo none n none src
  | some _, some q => g.rampTo none n (some (q, n)) src

/-- The billet of a ramp that is given up (R560). -/
def Gain.src (g : Gain) : List (Nat × Word) := (g.ramp.bind (·.src)).toList

/-- AUD_ROUTE's effect for the billet `seq` of slice `n`. -/
def State.route (s : State) (n : Nat) (e : JEntry) : State :=
  let b := e.body.payload
  let k := 16 * u8 b 0 + u8 b 1
  let len := if u16 b 4 = 0 then s.routeRamp else rampSamples (u16 b 4)
  let old := s.aud.cross k
  let g := crossTo old (gainVal (u16 b 2)) len (some (n, e.seq))
  let s := (s.modAud (fun a => a.setCross k g)).doneAll (old.src.filter (fun x => x != (n, e.seq)))
  if g.ramp.isNone then s.complete n e.seq S_DONE 0 else s

/-- AUD_ROUTE (R129, R546). -/
def opAudRoute : OpDef where
  code := 0x0600
  len := fixedLen 8
  who := .zero
  checks _ _ _ m :=
    let b := m.payload
    [⟨10, 31 < u8 b 0, 0⟩, ⟨10, 15 < u8 b 1, 1⟩, ⟨10, gainBad (u16 b 2), 2⟩,
     ⟨10, u16 b 4 != 0 && (u16 b 4 < 5 || 500 < u16 b 4), 4⟩, resv b 6 2]
  issue := State.route
  restart := State.route

/-- AUD_GAIN's effect. -/
def State.setGain (s : State) (n : Nat) (e : JEntry) : State :=
  let b := e.body.payload
  let i := u8 b 1
  let old := if u8 b 0 = 0 then s.aud.inGain.getD i Gain.unity else (s.aud.out i).gain
  let g := if old.now.isNone && u16 b 2 = 0x8000 then Gain.off
    else old.rampTo (gainVal (u16 b 2)) (48 * u16 b 4) none (some (n, e.seq))
  let s := if u8 b 0 = 0 then s.modAud (fun a => { a with inGain := putAt a.inGain i g })
    else s.modAudOut i (fun o => { o with gain := g })
  let s := s.doneAll (old.src.filter (fun x => x != (n, e.seq)))
  if g.ramp.isNone then s.complete n e.seq S_DONE 0 else s

/-- AUD_GAIN (R130). -/
def opAudGain : OpDef where
  code := 0x0601
  len := fixedLen 8
  checks _ p n m :=
    let b := m.payload
    let own := if u8 b 0 = 0 then p.ownsInputs n (u8 b 1) 1 && u8 b 1 < 32 else p.ownsOutputs n (u8 b 1) 1 && u8 b 1 < 16
    [⟨8, n != 0 && !own, 1⟩, ⟨10, 1 < u8 b 0, 0⟩, ⟨10, (if u8 b 0 = 0 then 31 else 15) < u8 b 1, 1⟩, ⟨10, gainBad (u16 b 2), 2⟩,
     ⟨10, u16 b 4 = 0 || 10000 < u16 b 4, 4⟩, resv b 6 2]
  issue := State.setGain
  restart := State.setGain

/-- AUD_STREAM (R131, R543). -/
def opAudStream : OpDef where
  code := 0x0602
  len := fixedLen 24
  slot := true
  pcie := true
  nature := .trans
  checks _ p n m :=
    let b := m.payload
    let i := u8 b 1
    [⟨8, !(i < 32 && p.ownsInputs n i (u8 b 2)) || p.aud.inOwner.getD i 0 != n, 1⟩,
     ⟨10, u8 b 0 != 1 && u8 b 0 != 2, 0⟩, ⟨10, u8 b 2 = 0 || 8 < u8 b 2, 2⟩, ⟨10, 2 < u8 b 3, 3⟩,
     ⟨10, u32 b 4 % 4096 != 0 || u32 b 4 = 0 || 0x100000 < u32 b 4, 4⟩, ⟨11, 16 < i + u8 b 2, 1⟩,
     ⟨12, if u8 b 0 = 1 then (List.range (u8 b 2)).any (fun k => p.inputUsed (i + k))
          else !p.aud.streams.any (fun g => g.first == i), 1⟩]
  issue s n e :=
    let b := e.body.payload
    if u8 b 0 = 1 then
      s.modAud (fun a => { a with streams := a.streams ++
        [⟨n, u8 b 1, u8 b 2, u8 b 3, u32 b 4, u64 b 8, u64 b 0x10, 0, 0, some (n, e.seq)⟩] })
    else
      let gone := s.aud.streams.filter (fun g => g.first == u8 b 1)
      let s := s.modAud (fun a => { a with streams := a.streams.filter (fun g => g.first != u8 b 1) })
      (s.doneAll (gone.flatMap (fun g => g.src.toList))).completeOpen n e.seq S_DONE

/-- s32 at `o`. -/
def pay32 (l : List Byte) (o : Nat) : Int := sgn 32 (u32 l o)

/-- AUD_EQ (R132, R547). -/
def opAudEq : OpDef where
  code := 0x0603
  len := fixedLen 24
  who := .zero
  checks _ _ _ m :=
    let b := m.payload
    [⟨10, 15 < u8 b 0, 0⟩, ⟨10, 7 < u8 b 1, 1⟩, resv b 2 2]
  issue s n e :=
    let b := e.body.payload
    (s.modAudOut (u8 b 0) (fun o => { o with eq := modAt o.eq (u8 b 1) (fun q => { q with
      b0 := pay32 b 4, b1 := pay32 b 8, b2 := pay32 b 12, a1 := pay32 b 16, a2 := pay32 b 20 }) })).complete n e.seq S_DONE 0

/-- AUD_DYN (R132, R548, R549). -/
def opAudDyn : OpDef where
  code := 0x0604
  len := fixedLen 12
  who := .zero
  checks _ _ _ m :=
    let b := m.payload
    [⟨10, 15 < u8 b 0, 0⟩, resv b 1 1, ⟨10, i16 b 2 < -5120 || 0 < i16 b 2, 2⟩, ⟨10, u16 b 4 < 10 || 10000 < u16 b 4, 4⟩,
     ⟨10, u16 b 6 = 0 || 5000 < u16 b 6, 6⟩, ⟨10, 4800 < u16 b 8, 8⟩, resv b 0xA 2]
  issue s n e :=
    let b := e.body.payload
    (s.modAudOut (u8 b 0) (fun o => { o with
      limit := i16 b 2, attackUs := u16 b 4, releaseMs := u16 b 6, delay := u16 b 8 })).complete n e.seq S_DONE 0

/-- A chime of a CHIME_PLAY payload. -/
def chimeOf (b : List Byte) (src : Option (Nat × Word)) : Chime :=
  ⟨u8 b 0, u8 b 1 == 1, false, u16 b 2, i16 b 4, u8 b 6, 0, 0, false, src, 0⟩

/-- CHIME_PLAY (R133, R557). -/
def opChimePlay : OpDef where
  code := 0x0605
  len := fixedLen 8
  slot := true
  nature := .transient
  checks s p n m :=
    let b := m.payload
    [⟨8, u8 b 1 = 1 && n != 0 && !bit (s.slice n).perm 1, fOPCODE⟩, ⟨10, 63 < u8 b 0, 0⟩, ⟨10, 1 < u8 b 1, 1⟩,
     ⟨10, gainBad (u16 b 4), 4⟩, resv b 7 1, ⟨15, (p.putChime (chimeOf b none)).isNone, fNONE⟩]
  issue s n e :=
    match s.putChime (chimeOf e.body.payload (some (n, e.seq))) with
    | some t => t
    | none => s.complete n e.seq S_DONE 0

/-- The chime of a billet is to stop at the end of the block. -/
def Chime.stopIf (src : Nat × Word) (c : Chime) : Chime := if c.src = some src then { c with stop := true } else c

/-- CHIME_STOP (R134). -/
def opChimeStop : OpDef where
  code := 0x0606
  len := fixedLen 4
  checks s _ n m :=
    let q := BitVec.ofNat 32 (u32 m.payload 0)
    let ok := match (s.slice n).entry q with
      | some e => e.body.opcode == 0x0605
      | none => false
    [⟨10, !ok, 0⟩]
  issue s n e :=
    let q := BitVec.ofNat 32 (u32 e.body.payload 0)
    (s.modAud (fun a => { a with players := a.players.map (fun p =>
      ⟨p.cur.map (Chime.stopIf (n, q)), p.next.map (Chime.stopIf (n, q))⟩) })).complete n e.seq S_DONE 0

/-- AUD_ASSIGN (R128). -/
def opAudAssign : OpDef where
  code := 0x0607
  len := fixedLen 4
  nature := .trans
  who := .zero
  checks _ p _ m :=
    let b := m.payload
    [⟨10, 1 < u8 b 0, 0⟩, ⟨10, (if u8 b 0 = 0 then 31 else 15) < u8 b 1, 1⟩, ⟨10, p.nSlices ≤ u8 b 2, 2⟩, resv b 3 1,
     ⟨12, if u8 b 0 = 0 then p.inputUsed (u8 b 1) else p.outputUsed (u8 b 1), 1⟩]
  issue s n e :=
    let b := e.body.payload
    (if u8 b 0 = 0 then s.modAud (fun a => { a with inOwner := putAt a.inOwner (u8 b 1) (u8 b 2) })
     else s.modAudOut (u8 b 1) (fun o => { o with owner := u8 b 2 })).complete n e.seq S_DONE 0

/-- Audio opcodes. -/
def audioOps : List OpDef :=
  [opAudRoute, opAudGain, opAudStream, opAudEq, opAudDyn, opChimePlay, opChimeStop, opAudAssign]

/-! ## AVTP and gate lists (R141-R144, R577, R578) -/

/-- A port field: absent ports fail step 7, numbers above 3 step 10. -/
def chkEth (p : State) (v off : Nat) : List Chk := [⟨7, p.nEth ≤ v && v < 4, off⟩, ⟨10, 3 < v, off⟩]

/-- The open stream of an ID. -/
def State.avtpOf (s : State) (id : Nat) : Option AvtpStream := s.net.avtp.find? (fun t => t.streamId == id)
/-- Changes the open streams. -/
def State.modAvtp (s : State) (f : List AvtpStream → List AvtpStream) : State := { s with net := { s.net with avtp := f s.net.avtp } }

/-- AVTP_LISTEN (R141, R543). -/
def opAvtpListen : OpDef where
  code := 0x0800
  len := fixedLen 16
  nature := .trans
  checks _ p n m :=
    let b := m.payload
    let i := u8 b 8
    [⟨8, n != 0 && !(i < 32 && p.ownsInputs n i (max 1 (u8 b 9))), 8⟩, ⟨10, u8 b 9 = 0 || 8 < u8 b 9, 9⟩, ⟨10, 2 < u8 b 10, 10⟩] ++
    chkEth p (u8 b 11) 11 ++
    [resv b 12 4, ⟨11, 16 < i + u8 b 9, 8⟩, ⟨12, (p.avtpOf (u64 b 0)).isSome, 0⟩,
     ⟨12, (List.range (u8 b 9)).any (fun k => p.inputUsed (i + k)), 8⟩]
  issue s n e :=
    let b := e.body.payload
    (s.modAvtp (· ++ [⟨u64 b 0, n, true, u8 b 11, u8 b 8, u8 b 9, u8 b 10, 0, 0, 0, 0, 0, []⟩])).complete n e.seq S_DONE 0

/-- The reservation of a talker in 100 kbit/s (R578). -/
def talkerRsv (channels format : Nat) : Nat :=
  ceilDiv (8000 * 8 * (66 + 6 * channels * (fmtWidth format / 8))) 100000

/-- AVTP_TALK (R142, R577, R578). -/
def opAvtpTalk : OpDef where
  code := 0x0801
  len := fixedLen 24
  nature := .trans
  checks _ p n m :=
    let b := m.payload
    let j := u8 b 0x10
    let tc := p.pcpClass (bits (u16 b 0xE) 13 3)
    let port := u8 b 0x13
    [⟨8, n != 0 && !(j < 16 && p.ownsOutputs n j (max 1 (u8 b 0x11))), 0x10⟩] ++ chkEth p port 0x13 ++
    [⟨10, bit (u16 b 0xE) 12 || (tc != 3 && tc != 2), 0xE⟩, ⟨10, u8 b 0x11 = 0 || 8 < u8 b 0x11, 0x11⟩, ⟨10, 2 < u8 b 0x12, 0x12⟩,
     ⟨10, 50000 < u32 b 0x14, 0x14⟩, ⟨11, 16 < j + u8 b 0x11, 0x10⟩, ⟨12, (p.avtpOf (u64 b 0)).isSome, 0⟩,
     ⟨15, p.rsvLimit port tc < p.rsvSum port tc + talkerRsv (u8 b 0x11) (u8 b 0x12), fNONE⟩]
  issue s n e :=
    let b := e.body.payload
    ((s.modAvtp (· ++ [⟨u64 b 0, n, false, u8 b 0x13, u8 b 0x10, u8 b 0x11, u8 b 0x12, u32 b 0x14, rd b 8 6, u16 b 0xE,
        talkerRsv (u8 b 0x11) (u8 b 0x12), s.pcpClass (bits (u16 b 0xE) 13 3), []⟩])).showRsv (u8 b 0x13)).complete n e.seq S_DONE 0

/-- AVTP_CLOSE (R143, R578). -/
def opAvtpClose : OpDef where
  code := 0x0802
  len := fixedLen 8
  checks _ p n m :=
    [⟨8, n != 0 && (match p.avtpOf (u64 m.payload 0) with
      | some t => t.slice != n
      | none => false), 0⟩]
  issue s n e :=
    let id := u64 e.body.payload 0
    let s := match s.avtpOf id with
      | some t => (s.modAvtp (List.filter (fun t => t.streamId != id))).showRsv t.port
      | none => s
    s.complete n e.seq S_DONE 0

/-- The intervals of a NET_GATE payload. -/
def gateEntries (b : List Byte) : List GateEntry :=
  (List.range (u8 b 1)).map (fun i => ⟨u8 b (0x14 + 8 * i), u32 b (0x10 + 8 * i)⟩)

/-- NET_GATE (R144). -/
def opNetGate : OpDef where
  code := 0x0803
  len := fun m => 16 + 8 * max 1 (u8 m.payload 1)
  nature := .trans
  who := .zero
  checks _ p _ m :=
    let b := m.payload
    chkEth p (u8 b 0) 0 ++
    [⟨10, u8 b 1 = 0 || 64 < u8 b 1, 1⟩, resv b 2 2, ⟨10, sumBy GateEntry.ns (gateEntries b) != u32 b 4, 4⟩] ++
    (List.range (u8 b 1)).map (fun i => resv b (0x15 + 8 * i) 3)
  issue s n e :=
    let b := e.body.payload
    { s with net := { s.net with gates := modAt s.net.gates (u8 b 0) (fun g =>
      { g with loaded := some ⟨u64 b 8, u32 b 4, gateEntries b⟩ }) } }.complete n e.seq S_DONE 0

/-- Network opcodes. -/
def avtpOps : List OpDef := [opAvtpListen, opAvtpTalk, opAvtpClose, opNetGate]

/-- A block of frames for listener `id` (R555): dropped as late, or queued for its presentation times. -/
def State.avtpFrames (s : State) (id pres now : Nat) (frames : List (List Word)) : State :=
  match s.avtpOf id with
  | some t =>
    if !t.listener || 6 < frames.length || frames.any (fun f => f.length != t.channels) then s
    else if pres < now then s.audFault 4 t.first
    else
      let w := fmtWidth t.format
      let new := frames.zipIdx.map (fun e =>
        (pres + e.2 * 62500 / 3, e.1.map (fun v => sampleOf w (v.toNat % 2 ^ w))))
      s.modAvtp (List.map (fun u => if u.streamId == id then { u with frames := u.frames ++ new } else u))
  | none => s

/-- AVTP_PACKET_RX (R555, R577): a packet of `stream` at port `p` with presentation time `pres`, at gPTP time `now`. A STANDBY
device takes the forwarded blocks instead (R439). -/
def execAvtpPacketRx (p : Fin 4) (stream pres now : DWord) (frames : List (List Word)) (s : State) : Out :=
  .next (
    let mine := match s.avtpOf stream.toNat with
      | some t => t.listener && t.port == p.val
      | none => false
    if !mine || !s.ethOn p.val || !s.leads then s
    else
      let s := if s.welded then s.ulxSend (.event (.avtp stream pres frames)) else s
      s.avtpFrames stream.toNat pres.toNat now.toNat frames)

/-- AVTP_PACKET_TX (R555, R577): the talker sends six frames with the presentation time of the first. -/
def execAvtpPacketTx (stream : DWord) (s : State) : Out :=
  .next (
    match s.avtpOf stream.toNat with
    | some t =>
      if t.listener || t.frames.length < 6 then s
      else
        let six := t.frames.take 6
        let pres := ((six.head?.map Prod.fst).getD 0) + t.presUs * 1000
        let data := six.map (fun f => f.2.map (toWidth (fmtWidth t.format)))
        let s := s.modAvtp (List.map (fun u => if u.streamId == t.streamId then { u with frames := u.frames.drop 6 } else u))
        if s.ethOn t.port && s.leads then s.emit (.avtp t.port t.streamId t.destMac t.vlan t.format pres data) else s
    | none => s)

end Sys2Proof.Machine
end

