-- ==== Sys2Proof/Machine/Cfg.lean ====
section
/-! DEFINITION. Configuration integrity: the covered set, block and device check values, the shadow and the references,
open windows, passes and the reaction to a mismatch (R619-R626). -/
namespace Sys2Proof.Machine

/-- The bits of a field. -/
def RegField.mask (f : RegField) : Nat := (2 ^ f.w - 1) <<< f.lo

/-- A field of the covered set (R619). -/
def RegField.covered (f : RegField) : Bool :=
  f.ty == .wl || f.ty == .w1 || (f.cls == .c && f.ty == .rw)

/-- The covered bits of a register (R619). -/
def RegRow.covMask (r : RegRow) : Nat := (r.fields.filter RegField.covered).foldl (fun a f => a ||| f.mask) 0

/-- The BAR0 base of configuration block `b` (R619). -/
def cfgBase (b : Nat) : Nat :=
  if b < 5 then 0x100000 + 0x1000 * b
  else if b < 13 then 0x110000 + 0x1000 * (b - 5)
  else if b < 21 then 0x120000 + 0x1000 * (b - 13)
  else if b = 21 then 0x128000
  else 0x130000 + 0x10000 * (b - 22)

/-- The configuration block of a BAR0 offset, 35 for none (R619). -/
def cfgBlock (off : Nat) : Nat :=
  if off < 0x100000 then 35
  else if off < 0x105000 then (off - 0x100000) / 0x1000
  else if off < 0x110000 then 35
  else if off < 0x118000 then 5 + (off - 0x110000) / 0x1000
  else if off < 0x120000 then 35
  else if off < 0x128000 then 13 + (off - 0x120000) / 0x1000
  else if off < 0x130000 then 21
  else if off < 0x200000 then 22 + (off - 0x130000) / 0x10000
  else 35

/-- The registers of a row as (offset, bank) pairs: eight banks for the windows that TCH_GSEL and HAP_SEL select. -/
def RegRow.places (r : RegRow) : List (Nat × Nat) :=
  (List.range r.n1).flatMap (fun i => (List.range r.n2).flatMap (fun k =>
    let off := r.base + r.s1 * i + r.s2 * k
    let banks := if (0x180010 ≤ off && off < 0x180200) || (0x190010 ≤ off && off < 0x190028) then 8 else 1
    (List.range banks).map (fun b => (off, b))))

/-- The covered registers of block `b` in ascending offset: key, offset within the block, covered bits (R620). The banks
of a selected window follow each other at their common offset. DESIGN CHOICE: the manual does not order them. -/
def cfgRegs (b : Nat) : List (Nat × Nat × Nat) :=
  sortBy (fun x => x.2.1) (regRows.flatMap (fun r =>
    let m := r.covMask
    if m = 0 then [] else
      r.places.filterMap (fun p =>
        if cfgBlock p.1 = b then some (p.1 + bankStride * p.2, p.1 - cfgBase b, m) else none)))

/-- Whether the register behind a key belongs to an absent unit and reads 0 (R619, R684). -/
def State.absentKey (s : State) (key : Nat) : Bool :=
  s.absentReg (key % bankStride) || s.nOut ≤ key / bankStride

/-- The value stored under a key, for the registers whose home is not the register file too. -/
def State.cfgStored (s : State) (key : Nat) : Nat :=
  if key = R.SLG_FMASK then s.slag.fmask else s.reg key

/-- Stores a value under a key. -/
def State.cfgStore (s : State) (key v : Nat) : State :=
  if key = R.SLG_FMASK then { s with slag := { s.slag with fmask := v } } else s.setReg key v

/-- The block check value over stored values `f` (R620). -/
def blockCrc (s : State) (b : Nat) (f : Nat → Nat) : Word :=
  crc32c (leBytes 4 (cfgBase b) ++ (cfgRegs b).flatMap (fun x =>
    leBytes 4 x.2.1 ++ leBytes 4 (if s.absentKey x.1 then 0 else f x.1 &&& x.2.2)))

/-- The device check value over 35 block values (R620). -/
def deviceCrc (l : List Word) : Word := crc32c (l.flatMap (fun w => leBytes 4 w.toNat))

/-- The value the shadow holds for a key. -/
def State.shadowOf (s : State) (key : Nat) : Nat := (RegFile.get s.cfg.shadow key).toNat

/-- The reference of each block of `blocks` is committed from the shadow, its generation incremented (R621). -/
def State.commitBlocks (s : State) (blocks : List Nat) : State :=
  blocks.foldl (fun s b => { s with cfg := { s.cfg with
    refs := putAt s.cfg.refs b (blockCrc s b s.shadowOf)
    gens := modAt s.cfg.gens b (· + 1) } }) s

/-- The shadow takes the stored value of the keys. -/
def State.shadowKeys (s : State) (keys : List Nat) : State :=
  { s with cfg := { s.cfg with
    shadow := keys.foldl (fun sh k => RegFile.put sh k (BitVec.ofNat 32 (s.cfgStored k))) s.cfg.shadow } }

/-- Whether the register behind a key holds a covered field. -/
def coveredKey (key : Nat) : Bool :=
  match findReg (key % bankStride) with
  | some h => h.row.covMask != 0
  | none => false

/-- The covered keys that a state change has touched: those whose stored value differs, and those it wrote. -/
def State.touchedKeys (s0 s : State) (wrote : List Nat) : List Nat :=
  let cand := if s0.regs = s.regs then [] else (s0.regs ++ s.regs).map (·.1)
  let diff := cand.filter (fun k => s0.reg k != s.reg k)
  let diff := if s0.slag.fmask = s.slag.fmask then diff else R.SLG_FMASK :: diff
  ((diff ++ wrote).filter coveredKey).foldl (fun l k => insNat k l) []

/-- The commit at the state change of a billet (R621): the covered fields it wrote enter the shadow as stored, and every
block touched is committed. -/
def State.commitAfter (s : State) (s0 : State) (wrote : List Nat) : State :=
  match State.touchedKeys s0 s wrote with
  | [] => s
  | ks => (s.shadowKeys ks).commitBlocks (ks.foldl (fun l k => insNat (cfgBlock (k % bankStride)) l) [])

/-- Every covered key. -/
def allCovered : List Nat := (List.range 35).flatMap (fun b => (cfgRegs b).map (·.1))

/-- A write of 1 to CFG_CTRL.COMMIT (R621, R622): the shadow takes the stored values, every block is committed, and the
window closes. -/
def State.cfgCommit (s : State) : State :=
  let s := (s.shadowKeys allCovered).commitBlocks (List.range 35)
  { s with cfg := { s.cfg with opened := false } }

/-- A write to CFG_CTRL by master `m` (R626): REACTION is judged against CHECK_EN as it stood, CHECK_EN is taken, then
OPEN, then COMMIT. -/
def State.cfgCtrlWrite (s : State) (m v : Nat) : State :=
  let en := s.flag R.CFG_CTRL 0
  let rsv := v &&& 0xFFFFFFC8 != 0
  let s := s.accFlags ((if en then [2] else []) ++ (if rsv then [3] else [])) m R.CFG_CTRL
  let s := if en then s else s.setFld R.CFG_CTRL 4 2 (Norm.apply (.threeAs 2) (bits v 4 2))
  let s := s.setFlag R.CFG_CTRL 0 (bit v 0)
  let s := if bit v 1 then { s with cfg := { s.cfg with opened := true } } else s
  if bit v 2 then s.cfgCommit else s

/-- CFG_CTRL written with OPEN set (R622). -/
def execCfgOpen (a : Access) (s : State) : Out :=
  .next ((s.gateWrite a R.CFG_CTRL false).run (fun m => s.cfgCtrlWrite m (a.data.toNat ||| 2)))

/-- CFG_CTRL written with COMMIT set (R621, R622). -/
def execCfgCommit (a : Access) (s : State) : Out :=
  .next ((s.gateWrite a R.CFG_CTRL false).run (fun m => s.cfgCtrlWrite m (a.data.toNat ||| 4)))

/-- A window has stood open for OPEN_MAX_MS: it closes without a commit (R622). -/
def execCfgOpenTimeout (s : State) : Out :=
  if !s.cfg.opened then .next s else
  .next ({ s with cfg := { s.cfg with opened := false, openTo := true } }.slagWarn 11 0 0x0B)

/-- Passes run now (R623, R625). -/
def State.passesRun (s : State) : Bool :=
  s.flag R.CFG_CTRL 0 && s.cfg.sealed && !s.cfg.opened && s.boot.warmStep == 0 && !s.boot.hearthDown && s.power.st < 3

/-- Knaby rewrites the covered fields of block `b` from its shadow (R624). -/
def State.rewriteBlock (s : State) (b : Nat) : State :=
  (cfgRegs b).foldl (fun s x =>
    if s.absentKey x.1 then s
    else s.cfgStore x.1 ((s.cfgStored x.1 &&& (0xFFFFFFFF ^^^ x.2.2)) ||| (s.shadowOf x.1 &&& x.2.2))) s

/-- Knaby restores block `b`; `ok` is false when Hearth's second read mismatches again (R624). -/
def State.restoreBlock (s : State) (b : Nat) (ok : Bool) : State :=
  let s := s.rewriteBlock b
  let s := { s with cfg := { s.cfg with restore := s.cfg.restore.filter (· != b) } }
  if ok then { s with cfg := { s.cfg with restored := true } }
  else s.slagX 11 0 0x0B {} false true

/-- Knaby is restarting or held stopped. -/
def State.knabyAway (s : State) : Bool := s.boot.knabyDown || s.boot.knabyStopped

/-- The reaction to a mismatch of block `b` (R624). -/
def State.cfgMismatch (s : State) (b : Nat) (ok : Bool) : State :=
  let r := s.fld R.CFG_CTRL 4 2
  let s := { s with cfg := { s.cfg with mismatch := true, block := b } }
  let s := s.slagX 11 0 0x0B { restore := 2 ≤ r } false (r == 1)
  if r < 2 then s
  else if s.boot.knabyStopped then s.slagX 11 0 0x0B {} false true
  else if s.boot.knabyDown then { s with cfg := { s.cfg with restore := s.cfg.restore ++ [b] } }
  else s.restoreBlock b ok

/-- What a pass does about one block: an uncorrectable reference is replaced from the shadow with no verdict (R625); a
block whose restore waits gets none (R624). -/
def State.passBlock (stuck refErr : Nat) (s : State) (b : Nat) : State :=
  if refErr.testBit b then
    ({ s with cfg := { s.cfg with refErr := true } }.slagErr 2 0 0x01).commitBlocks [b]
  else if s.cfg.restore.contains b then s
  else if s.cfg.mism.testBit b then s.cfgMismatch b (!stuck.testBit b)
  else s

/-- A configuration pass ends (R623, R624). `refErr`: blocks whose reference or generation word is uncorrectable;
`stuck`: blocks whose second read mismatches after a restore. -/
def execCfgPass (stuck refErr : BitVec 35) (s : State) : Out :=
  if !s.passesRun then .next s else
  let crcs := (List.range 35).map (fun b => blockCrc s b s.cfgStored)
  let mism := (List.range 35).filter (fun b =>
    !refErr.getLsbD b && !s.cfg.restore.contains b && crcs.getD b 0 != s.cfg.refs.getD b 0)
  let s := { s with cfg := { s.cfg with run := deviceCrc crcs, mism := maskOf mism, passes := (s.cfg.passes + 1) % 65536 } }
  .next ((List.range 35).foldl (State.passBlock stuck.toNat refErr.toNat) s)

/-- Knaby has not begun the restore within 50 ms of the mismatch (R624). -/
def execCfgRestoreTimeout (s : State) : Out :=
  if s.cfg.restore = [] then .next s
  else .next ({ s with cfg := { s.cfg with restore := [] } }.slagX 11 0 0x0B {} false true)

/-- Knaby is back: every waiting restore is done (R624). -/
def State.cfgKnabyBack (s : State) : State := s.cfg.restore.foldl (fun s b => s.restoreBlock b true) s

/-- The seal (R621, R616): every block is committed from the shadow. -/
def State.cfgSeal (s : State) : State :=
  let s := s.commitBlocks (List.range 35)
  { s with cfg := { s.cfg with sealed := true } }

end Sys2Proof.Machine
end

