-- ==== Sys2Proof/Machine/Float.lean ====
section
/-! DEFINITION. IEEE 754 arithmetic as R412 fixes it: binary32 and binary16, every result the exact value rounded once to
nearest, ties to even, subnormals kept, one canonical NaN. Values are decoded to exact numbers and rounded from exact
rationals. -/
namespace Sys2Proof.Machine

/-- A binary format: precision in bits, and the exponent of its smallest subnormal. -/
structure Fmt where
  p : Nat
  emin : Int
  ebits : Nat
  deriving DecidableEq, Repr

/-- binary32. -/
def f32 : Fmt := ⟨24, -149, 8⟩
/-- binary16. -/
def f16 : Fmt := ⟨11, -24, 5⟩

/-- Bits of the format. -/
def Fmt.width (f : Fmt) : Nat := f.p + f.ebits
/-- Code of +∞. -/
def Fmt.infCode (f : Fmt) : Nat := (2 ^ f.ebits - 1) * 2 ^ (f.p - 1)
/-- The canonical NaN: 0x7FC0_0000 and 0x7E00 (R412, R414). -/
def Fmt.nanCode (f : Fmt) : Nat := f.infCode + 2 ^ (f.p - 2)

/-- A decoded value; `fin` is (−1)^neg · m · 2^e. -/
inductive FV where
  | nan
  | inf (neg : Bool)
  | fin (neg : Bool) (m : Nat) (e : Int)
  deriving DecidableEq, Repr

/-- Decodes a code of the format. -/
def Fmt.dec (f : Fmt) (x : Nat) : FV :=
  let x := x % 2 ^ f.width
  let neg := x.testBit (f.width - 1)
  let mag := x % 2 ^ (f.width - 1)
  let ex := mag / 2 ^ (f.p - 1)
  let fr := mag % 2 ^ (f.p - 1)
  if ex = 2 ^ f.ebits - 1 then (if fr = 0 then .inf neg else .nan)
  else if ex = 0 then .fin neg fr f.emin
  else .fin neg (fr + 2 ^ (f.p - 1)) (f.emin + (ex - 1 : Nat))

/-- `num / den` rounded to the nearest integer, ties to even. -/
def rneDiv (num den : Nat) : Nat :=
  let q := num / den
  let r := num % den
  if 2 * r < den then q else if den < 2 * r then q + 1 else if q % 2 = 0 then q else q + 1

/-- floor(log2(num / den)) for non-zero arguments. -/
def ratLog (num den : Nat) : Int :=
  let d : Int := (Nat.log2 num : Int) - Nat.log2 den
  let ge := if 0 ≤ d then decide (den * 2 ^ d.toNat ≤ num) else decide (den ≤ num * 2 ^ (-d).toNat)
  if ge then d else d - 1

/-- Rounds (−1)^neg · num / den · 2^e to the format. -/
def Fmt.round (f : Fmt) (neg : Bool) (num den : Nat) (e : Int) : Nat :=
  let sign := b2n neg * 2 ^ (f.width - 1)
  if num = 0 then sign else
  let x := max f.emin (ratLog num den + e - (f.p - 1))
  let m := if x ≤ e then rneDiv (num * 2 ^ (e - x).toNat) den else rneDiv num (den * 2 ^ (x - e).toNat)
  sign + min f.infCode ((x - f.emin).toNat * 2 ^ (f.p - 1) + m)

/-- Code of a value. -/
def Fmt.enc (f : Fmt) : FV → Nat
  | .nan => f.nanCode
  | .inf neg => b2n neg * 2 ^ (f.width - 1) + f.infCode
  | .fin neg m e => f.round neg m 1 e

/-- Negation; a NaN stays. -/
def FV.neg : FV → FV
  | .nan => .nan
  | .inf s => .inf (!s)
  | .fin s m e => .fin (!s) m e

/-- The exact sum; equal and opposite values give +0, two zeros of one sign keep it. -/
def FV.add : FV → FV → FV
  | .nan, _ => .nan
  | _, .nan => .nan
  | .inf s, .inf t => if s = t then .inf s else .nan
  | .inf s, _ => .inf s
  | _, .inf t => .inf t
  | .fin s m e, .fin t n g =>
    let lo := min e g
    let a := m * 2 ^ (e - lo).toNat
    let b := n * 2 ^ (g - lo).toNat
    if s = t then .fin s (a + b) lo
    else if a = b then .fin false 0 lo
    else if b < a then .fin s (a - b) lo
    else .fin t (b - a) lo

/-- The exact product. -/
def FV.mul : FV → FV → FV
  | .nan, _ => .nan
  | _, .nan => .nan
  | .inf s, .inf t => .inf (s != t)
  | .inf s, .fin t n _ => if n = 0 then .nan else .inf (s != t)
  | .fin s m _, .inf t => if m = 0 then .nan else .inf (s != t)
  | .fin s m e, .fin t n g => .fin (s != t) (m * n) (e + g)

/-- Quotient in the format. -/
def Fmt.div (f : Fmt) : FV → FV → Nat
  | .nan, _ => f.nanCode
  | _, .nan => f.nanCode
  | .inf _, .inf _ => f.nanCode
  | .inf s, .fin t _ _ => f.enc (.inf (s != t))
  | .fin s _ _, .inf t => f.enc (.fin (s != t) 0 0)
  | .fin s m e, .fin t n g =>
    if n = 0 then (if m = 0 then f.nanCode else f.enc (.inf (s != t)))
    else f.round (s != t) m n (e - g)

/-- The largest r with r² ≤ x, for x < 4^bits. -/
def isqrt (bits x : Nat) : Nat :=
  foldN bits (fun r i => let c := r + 2 ^ (bits - 1 - i); if c * c ≤ x then c else r) 0

/-- Square root of m · 2^e, rounded once: the integer root carries a sticky bit. -/
def Fmt.sqrtPos (f : Fmt) (m : Nat) (e : Int) : Nat :=
  let odd := e % 2 != 0
  let m := if odd then 2 * m else m
  let e := if odd then e - 1 else e
  let k := 2 * f.p
  let y := m * 4 ^ k
  let r := isqrt (k + f.p + 2) y
  f.round false (2 * r + b2n (r * r != y)) 1 (e / 2 - k - 1)

/-- 1 / √(m · 2^e), rounded once. -/
def Fmt.rsqrtPos (f : Fmt) (m : Nat) (e : Int) : Nat :=
  let odd := e % 2 != 0
  let m := if odd then 2 * m else m
  let e := if odd then e - 1 else e
  let k := 3 * f.p
  let r := isqrt (k + 2) (4 ^ k / m)
  f.round false (2 * r + b2n (r * r * m != 4 ^ k)) 1 (-(e / 2) - k - 1)

/-- √A (R413). -/
def Fmt.sqrt (f : Fmt) : FV → Nat
  | .nan => f.nanCode
  | .inf s => if s then f.nanCode else f.infCode
  | .fin s m e => if m = 0 then f.enc (.fin s 0 0) else if s then f.nanCode else f.sqrtPos m e

/-- 1 / √A (R413). -/
def Fmt.rsqrt (f : Fmt) : FV → Nat
  | .nan => f.nanCode
  | .inf s => if s then f.nanCode else 0
  | .fin s m e => if m = 0 then f.enc (.inf s) else if s then f.nanCode else f.rsqrtPos m e

/-- The exact order of two values that are not NaN: −1, 0 or 1; −0 equals +0. -/
def FV.cmp : FV → FV → Option Int
  | .nan, _ => none
  | _, .nan => none
  | .inf s, .inf t => some (if s = t then 0 else if s then -1 else 1)
  | .inf s, _ => some (if s then -1 else 1)
  | _, .inf t => some (if t then 1 else -1)
  | .fin s m e, .fin t n g =>
    let lo := min e g
    let a : Int := (if s then -1 else 1) * (m * 2 ^ (e - lo).toNat : Nat)
    let b : Int := (if t then -1 else 1) * (n * 2 ^ (g - lo).toNat : Nat)
    some (if a < b then -1 else if a = b then 0 else 1)

/-- The sign bit of a value. -/
def FV.sign : FV → Bool
  | .nan => false
  | .inf s => s
  | .fin s _ _ => s

/-- FMIN and FMAX (R413): −0 lies below +0, a NaN yields the other operand. -/
def FV.minMax (wantMax : Bool) (a b : FV) : FV :=
  match a.cmp b with
  | none => if a = .nan then b else a
  | some c =>
    let aLess := c < 0 || (c == 0 && a.sign && !b.sign)
    if aLess != wantMax then a else b

/-- Rounding modes of F2I. -/
inductive Rm where
  | near | zero | down | up
  deriving DecidableEq, Repr

/-- An exact value rounded to an integer. -/
def toIntRm (rm : Rm) (neg : Bool) (m : Nat) (e : Int) : Int :=
  if 0 ≤ e then (if neg then -1 else 1) * (m * 2 ^ e.toNat : Nat)
  else
    let d := 2 ^ (-e).toNat
    let q := m / d
    let exact := m % d == 0
    let mag : Nat := match rm with
      | .near => rneDiv m d
      | .zero => q
      | .down => if neg && !exact then q + 1 else q
      | .up => if !neg && !exact then q + 1 else q
    (if neg then -1 else 1) * (mag : Int)

/-- A value rounded to an integral value of the format; a zero result keeps the sign of A (R413). -/
def Fmt.integral (f : Fmt) (rm : Rm) : FV → Nat
  | .fin s m e =>
    let i := toIntRm rm s m e
    if i = 0 then f.enc (.fin s 0 0) else f.round (decide (i < 0)) i.natAbs 1 0
  | v => f.enc v

/-- F2I: saturating; NaN gives 0 (R413). -/
def f2i (rm : Rm) (unsigned : Bool) (x : Nat) : Nat :=
  let lo : Int := if unsigned then 0 else -2 ^ 31
  let hi : Int := if unsigned then 2 ^ 32 - 1 else 2 ^ 31 - 1
  match f32.dec x with
  | .nan => 0
  | .inf s => unsgn 32 (if s then lo else hi)
  | .fin s m e => unsgn 32 (clampI lo hi (toIntRm rm s m e))

/-- An integer to the nearest value of a format. -/
def Fmt.ofInt (f : Fmt) (i : Int) : Nat := f.round (decide (i < 0)) i.natAbs 1 0

/-- Conversion between formats. -/
def convFmt (src dst : Fmt) (x : Nat) : Nat := dst.enc (src.dec x)

/-- floor(clamp(A, 0, 1) × (2^W − 1) + 0.5), exact; NaN gives 0 (R364). -/
def f2un (w x : Nat) : Nat :=
  let mx := 2 ^ w - 1
  match f32.dec x with
  | .nan => 0
  | .inf s => if s then 0 else mx
  | .fin s m e =>
    if s then 0
    else if 0 ≤ e then (if m = 0 then 0 else mx)
    else
      let d := 2 ^ (-e).toNat
      if d ≤ m then mx else (2 * m * mx + d) / (2 * d)

/-- A[W − 1:0] / (2^W − 1) as one FP32 division. -/
def un2f (w x : Nat) : Nat := f32.round false (x % 2 ^ w) (2 ^ w - 1) 0

/-- FP32 arithmetic on codes. -/
def fadd (a b : Nat) : Nat := f32.enc ((f32.dec a).add (f32.dec b))
/-- A − B. -/
def fsub (a b : Nat) : Nat := f32.enc ((f32.dec a).add (f32.dec b).neg)
/-- A × B. -/
def fmul (a b : Nat) : Nat := f32.enc ((f32.dec a).mul (f32.dec b))
/-- A / B. -/
def fdiv (a b : Nat) : Nat := f32.div (f32.dec a) (f32.dec b)
/-- A < B; false with a NaN. -/
def flt (a b : Nat) : Bool := (f32.dec a).cmp (f32.dec b) == some (-1)
/-- An integer as FP32. -/
def fOfInt (i : Int) : Nat := f32.ofInt i
/-- clamp(A, lo, hi) of numbers. -/
def fclamp (lo hi a : Nat) : Nat := f32.enc (FV.minMax false (FV.minMax true (f32.dec a) (f32.dec lo)) (f32.dec hi))
/-- 1.0. -/
def fOne : Nat := 0x3F800000

end Sys2Proof.Machine
end

