-- ==== Sys2Proof/Machine/Compose.lean ====
section
/-! DEFINITION. The arithmetic of composition: source formats (R190-R192), blending (R198, R199), the scalers
(R231-R236), and the colour pipeline (R241-R245). Every value is an exact integer. -/
namespace Sys2Proof.Machine

/-- A colour with its alpha: three components and alpha. -/
structure Px where
  r : Nat
  g : Nat
  b : Nat
  a : Nat
  deriving DecidableEq, Repr

/-- Expansion of a colour field of width `w` to 10 bits (R192). -/
def expand10 (w v : Nat) : Nat :=
  if w = 4 then (v <<< 6) ||| (v <<< 2) ||| (v >>> 2)
  else if w = 5 then (v <<< 5) ||| v
  else if w = 6 then (v <<< 4) ||| (v >>> 2)
  else if w = 8 then (v <<< 2) ||| (v >>> 6)
  else v

/-- Expansion of an alpha field of width `w` to 8 bits (R192). -/
def expandA (w v : Nat) : Nat :=
  if w = 1 then v * 255 else if w = 2 then v * 85 else if w = 4 then v * 17 else v

/-- A pixel value unpacked (R190, R192). -/
def unpack (f v : Nat) : Px :=
  if f = 0x01 then ⟨expand10 5 (bits v 11 5), expand10 6 (bits v 5 6), expand10 5 (bits v 0 5), 255⟩
  else if f = 0x02 then ⟨expand10 5 (bits v 10 5), expand10 5 (bits v 5 5), expand10 5 (bits v 0 5), expandA 1 (bits v 15 1)⟩
  else if f = 0x03 then ⟨expand10 4 (bits v 8 4), expand10 4 (bits v 4 4), expand10 4 (bits v 0 4), expandA 4 (bits v 12 4)⟩
  else if f = 0x04 || f = 0x07 then ⟨expand10 8 (bits v 16 8), expand10 8 (bits v 8 8), expand10 8 (bits v 0 8), 255⟩
  else if f = 0x05 then ⟨expand10 8 (bits v 0 8), expand10 8 (bits v 8 8), expand10 8 (bits v 16 8), 255⟩
  else if f = 0x06 then ⟨expand10 8 (bits v 16 8), expand10 8 (bits v 8 8), expand10 8 (bits v 0 8), bits v 24 8⟩
  else if f = 0x08 then ⟨expand10 8 (bits v 0 8), expand10 8 (bits v 8 8), expand10 8 (bits v 16 8), bits v 24 8⟩
  else if f = 0x09 then ⟨bits v 20 10, bits v 10 10, bits v 0 10, expandA 2 (bits v 30 2)⟩
  else ⟨bits v 20 10, bits v 10 10, bits v 0 10, 255⟩

/-- Formats a layer source may have (R190). -/
def layerFormat (f : Nat) : Bool := 1 ≤ f && f ≤ 0xA

/-- Byte offset of pixel (x, y) (R191). -/
def Surface.pixelOff (u : Surface) (x y : Nat) : Nat := y * u.stride + x * bpp u.format

/-- The unpacked pixel (x, y) of a surface. -/
def Surface.pixel (u : Surface) (x y : Nat) : Px :=
  unpack u.format (leNat (u.read (u.pixelOff x y) (bpp u.format)))

/-- x / 255 to the nearest integer (R198). -/
def div255 (x : Nat) : Nat := (x + 127) / 255

/-- Blend of one component (R199): mode 0 opaque, 1 straight, 2 premultiplied; source `sc`, source alpha `ap`, plane
alpha `pa`, accumulator `d`. -/
def blend1 (mode sc ap pa d : Nat) : Nat :=
  let a := div255 ((if mode = 0 then 255 else ap) * pa)
  if mode = 2 then min 1023 (div255 (sc * pa) + div255 (d * (255 - a)))
  else div255 (sc * a + d * (255 - a))

/-- Blend of a pixel into the accumulator (R199). -/
def blendPx (mode pa : Nat) (src d : Px) : Px :=
  ⟨blend1 mode src.r src.a pa d.r, blend1 mode src.g src.a pa d.g, blend1 mode src.b src.a pa d.b, 255⟩

/-! ## Scalers -/

/-- Source position of output index `i` in 1/64 pixels (R231). -/
def scalePos (i src dst : Nat) : Int :=
  let num : Int := (2 * i + 1 : Nat) * (src : Int) - dst
  (64 * num + dst).fdiv (2 * dst)

/-- Weights of the cubic set for phase `p`: taps at k - 1, k, k + 1, k + 2 (R236). -/
def cubic (p : Int) : List Int :=
  let wm1 := (-p * p * p + 128 * p * p - 4096 * p + 64).fdiv 128
  let w1 := (-3 * p * p * p + 256 * p * p + 4096 * p + 64).fdiv 128
  let w2 := (p * p * p - 64 * p * p + 64).fdiv 128
  [wm1, 4096 - wm1 - w1 - w2, w1, w2]

/-- A coefficient bank: the phases that differ from the cubic set, with their taps. -/
abbrev CoefBank := List (Nat × List Int)

/-- The taps of a phase: 8 horizontal, 6 vertical (R229, R236). -/
def CoefBank.taps (b : CoefBank) (vertical : Bool) (p : Nat) : List Int :=
  match b.find? (fun e => e.1 == p) with
  | some e => e.2
  | none => if vertical then [0] ++ cubic p ++ [0] else [0, 0] ++ cubic p ++ [0, 0]

/-- Sets the taps of a phase. -/
def CoefBank.set (b : CoefBank) (p : Nat) (t : List Int) : CoefBank := (p, t) :: b.filter (fun e => e.1 != p)

/-- Saturation. -/
def satI (x lo hi : Int) : Int := if x < lo then lo else if hi < x then hi else x

/-- Sum of products. -/
def dot (c v : List Int) : Int := (c.zip v).foldl (fun a p => a + p.1 * p.2) 0

/-- The crop index that a tap reads (R232). -/
def tapIndex (k off : Int) (n : Nat) : Nat := (satI (k + off) 0 ((n : Int) - 1)).toNat

/-- The crop rows and columns that output pixel (i, j) of the unclipped destination reads (R231, R232). -/
def tapCols (i src dst : Nat) : List Nat :=
  let k := (scalePos i src dst).fdiv 64
  (List.range 8).map (fun (t : Nat) => tapIndex k ((t : Int) - 3) src)
/-- Rows. -/
def tapRows (j src dst : Nat) : List Nat :=
  let k := (scalePos j src dst).fdiv 64
  (List.range 6).map (fun (t : Nat) => tapIndex k ((t : Int) - 2) src)

/-- Phase of an output index (R231). -/
def scalePhase (i src dst : Nat) : Nat := ((scalePos i src dst) % 64).toNat

/-- One filtered component (R234): `src col row` is the source value, `mid` the intermediate limit, `top` the final one. -/
def filter1 (cv ch : List Int) (cols rows : List Nat) (src : Nat → Nat → Nat) (mid top : Int) : Nat :=
  let t := cols.map (fun c => satI ((dot cv (rows.map (fun r => (src c r : Int))) + 128).fdiv 256) 0 mid)
  (satI ((dot ch t + 32768).fdiv 65536) 0 top).toNat

/-- The scaler's output pixel (R234): crop pixel access `at_ col row`, crop and destination sizes, index (i, j). -/
def scalePx (hb vb : CoefBank) (px : Nat → Nat → Px) (srcW srcH dstW dstH i j : Nat) : Px :=
  let cols := tapCols i srcW dstW
  let rows := tapRows j srcH dstH
  let ch := hb.taps false (scalePhase i srcW dstW)
  let cv := vb.taps true (scalePhase j srcH dstH)
  ⟨filter1 cv ch cols rows (fun c r => (px c r).r) 16368 1023,
   filter1 cv ch cols rows (fun c r => (px c r).g) 16368 1023,
   filter1 cv ch cols rows (fun c r => (px c r).b) 16368 1023,
   filter1 cv ch cols rows (fun c r => (px c r).a) 4080 255⟩

/-! ## Colour pipeline -/

/-- One matrix row (R243): three coefficient words, an offset word. -/
def matRow (c0 c1 c2 o : Nat) (p : Px) : Nat :=
  let x : Int := sgn 16 c0 * p.r + sgn 16 c1 * p.g + sgn 16 c2 * p.b + sgn 12 o * 4096 + 2048
  (satI (x.fdiv 4096) 0 1023).toNat

/-- The matrix (R242, R243): words 0-8 coefficients, 9-11 offsets. -/
def applyMatrix (m : List Nat) (p : Px) : Px :=
  let w := fun i => m.getD i 0
  ⟨matRow (w 0) (w 1) (w 2) (w 9) p, matRow (w 3) (w 4) (w 5) (w 10) p, matRow (w 6) (w 7) (w 8) (w 11) p, p.a⟩

/-- A lookup table: the entries that differ from (i, i, i). -/
abbrev Lut := List (Nat × Nat)

/-- An entry of the table (R244). -/
def Lut.entry (l : Lut) (i : Nat) : Nat :=
  match l.find? (fun e => e.1 == i) with
  | some e => e.2
  | none => i * 2 ^ 20 + i * 2 ^ 10 + i

/-- Sets an entry. -/
def Lut.set (l : Lut) (i v : Nat) : Lut := (i, v) :: l.filter (fun e => e.1 != i)

/-- The table (R244). -/
def applyLut (l : Lut) (p : Px) : Px := ⟨bits (l.entry p.r) 20 10, bits (l.entry p.g) 10 10, bits (l.entry p.b) 0 10, p.a⟩

/-- The threshold matrix T of R245. -/
def ditherT (y x : Nat) : Nat :=
  ([[0, 8, 2, 10], [12, 4, 14, 6], [3, 11, 1, 9], [15, 7, 13, 5]].getD (y % 4) []).getD (x % 4) 0

/-- Dither of one component (R245): mode, d = 10 - BPC, frame, position. -/
def dither1 (mode d frame x y v : Nat) : Nat :=
  if d = 0 then v else
  let low := 2 ^ d
  let cut := fun z => z / low * low
  let vmax := 1023 - (low - 1)
  if mode = 0 then cut v
  else if mode = 1 then min vmax (cut (v + low / 2))
  else if mode = 2 then min vmax (cut (v + ditherT y x / 2 ^ (4 - d)))
  else min vmax (cut (v + ditherT (y + frame / 2 % 2 * 2) (x + 2 * (frame % 2)) / 2 ^ (4 - d)))

/-- The pipeline of an output (R241): CCTRL, matrix words, table, panel depth, frame composed, position. -/
def colourPipe (cctrl : Nat) (m : List Nat) (l : Lut) (bpc frame x y : Nat) (p : Px) : Px :=
  let p := if bit cctrl 0 then applyMatrix m p else p
  let p := if bit cctrl 1 then applyLut l p else p
  let dm := bits cctrl 2 2
  let d := 10 - bpc
  ⟨dither1 dm d frame x y p.r, dither1 dm d frame x y p.g, dither1 dm d frame x y p.b, p.a⟩

/-- The 32-bit word of a finished pixel (R196). -/
def Px.word (p : Px) : Nat := p.r * 2 ^ 20 + p.g * 2 ^ 10 + p.b

/-! ## One layer at one output pixel -/

/-- The clipped destination (R194): x from, x to, y from, y to (exclusive), empty where from = to. -/
structure Box where
  x0 : Nat
  x1 : Nat
  y0 : Nat
  y1 : Nat
  deriving DecidableEq, Repr

/-- Intersection of a destination with an active area. -/
def LayerCfg.clip (c : LayerCfg) (hact vact : Nat) : Box :=
  let lo := fun (a : Int) => a.toNat
  let x0 := min hact (lo c.dstX); let x1 := min hact (lo (c.dstX + c.dstW))
  let y0 := min vact (lo c.dstY); let y1 := min vact (lo (c.dstY + c.dstH))
  ⟨x0, max x0 x1, y0, max y0 y1⟩

/-- Width of a box. -/
def Box.w (b : Box) : Nat := b.x1 - b.x0
/-- Height of a box. -/
def Box.h (b : Box) : Nat := b.y1 - b.y0
/-- Pixels of a box. -/
def Box.area (b : Box) : Nat := b.w * b.h
/-- Whether a pixel lies in a box. -/
def Box.has (b : Box) (x y : Nat) : Bool := b.x0 ≤ x && x < b.x1 && b.y0 ≤ y && y < b.y1

/-- ENABLE. -/
def LayerCfg.on (c : LayerCfg) : Bool := bit c.ctrl 0
/-- ALPHA. -/
def LayerCfg.mode (c : LayerCfg) : Nat := bits c.ctrl 1 2
/-- SCALE. -/
def LayerCfg.scale (c : LayerCfg) : Bool := bit c.ctrl 3

/-- The 64-byte words of the surface that a layer reads for output pixel (x, y) (R193, R221). -/
def LayerCfg.words (c : LayerCfg) (u : Surface) (x y : Nat) : List Nat :=
  let i := ((x : Int) - c.dstX).toNat; let j := ((y : Int) - c.dstY).toNat
  let px := fun cx cy =>
    let o := u.pixelOff (c.srcX + cx) (c.srcY + cy)
    [o / 64, (o + bpp u.format - 1) / 64]
  if c.scale then
    (tapCols i c.srcW c.dstW).flatMap (fun cx => (tapRows j c.srcH c.dstH).flatMap (fun cy => px cx cy))
  else px i j

/-- What a layer delivers for output pixel (x, y) of its clipped destination (R195, R196 step 2.1). -/
def LayerCfg.source (c : LayerCfg) (u : Surface) (hb vb : CoefBank) (x y : Nat) : Px :=
  let i := ((x : Int) - c.dstX).toNat; let j := ((y : Int) - c.dstY).toNat
  if c.scale then
    scalePx hb vb (fun cx cy => u.pixel (c.srcX + cx) (c.srcY + cy)) c.srcW c.srcH c.dstW c.dstH i j
  else u.pixel (c.srcX + i) (c.srcY + j)

end Sys2Proof.Machine
end

