-- ==== Sys2Proof/Machine/Dram.lean ====
section
/-! DEFINITION. The DRAM controller: capacity and shares, firewall, scheduling, self-refresh, refresh, Temper helpers,
retraining (R462-R491). -/
namespace Sys2Proof.Machine

/-- Usable capacity in MiB (R464). -/
def State.usableMiB (s : State) : Nat :=
  let raw := s.nDrc * s.fld R.DRC_CFG 16 4 * 1024
  if s.flag R.DRC_CFG 14 then raw * 7 / 8 else raw

/-- The guest area in KiB: what is left below the regions of R467. -/
def State.guestKiB (s : State) : Nat :=
  s.usableMiB * 1024 - 64 * s.nDrc - 64 * 1024 - s.nSlices * 1024 - roundUp (s.nSlices * 160) 1024

/-- Raw credits C per window (R469). -/
def State.creditsRaw (s : State) : Nat := s.fld R.DRC_CFG 0 13 * (32 * s.nDrc) / 640
/-- Usable credits C_E (R469). -/
def State.creditsUse (s : State) : Nat :=
  if s.flag R.DRC_CFG 14 then s.creditsRaw * 7 / 8 else s.creditsRaw
/-- Guest pool G (R470). -/
def State.guestPool (s : State) : Nat :=
  s.creditsUse - s.fld R.DRC_RSV0 0 16 - s.fld R.DRC_RSV0 16 16 - s.fld R.DRC_RSV1 0 16 - s.fld R.DRC_RSV1 16 16
/-- Credits S of each slice (R470). -/
def State.sliceShare (s : State) : Nat := s.guestPool / s.nSlices
/-- Bytes per us the compositor may fetch: CMP_FETCH_BUDGET (R470). -/
def State.fetchBudget (s : State) : Nat := s.fld R.DRC_RSV0 0 16 * 64

/-- The allocation of each port (R470, R474): the 21 counts. -/
def State.portAlloc (s : State) : List Nat :=
  [s.fld R.DRC_RSV0 0 16, s.fld R.DRC_RSV0 16 16, s.fld R.DRC_RSV1 0 16, s.fld R.DRC_RSV1 16 16] ++
  (List.range 16).map (fun k => if k < s.nSlices then s.sliceShare else 0) ++ [125]

/-- Latency target of a port in DFI cycles, if it has one (R470, R475): T is in units of 0.1 us. -/
def State.portTarget (s : State) (p : Nat) : Option Nat :=
  let dfi := s.fld R.DRC_CFG 0 13 / 8
  if p < 3 then some (s.fld R.DRC_LAT (8 * p) 8 * dfi / 10) else none

/-- Urgency of a request at DFI cycle `now` (R475). -/
def State.urgency (s : State) (q : DramReq) (now : Nat) : Nat :=
  match s.portTarget q.port.val with
  | none => 0
  | some t =>
    let age := now - q.at_
    if t ≤ age then 3 else if 3 * t ≤ 4 * age then 2 else if t ≤ 2 * age then 1 else 0

/-- Whether the firewall passes a request (R468): a slice reaches its own surfaces, a master the regions that name it. -/
def State.firewall (s : State) (q : DramReq) : Bool :=
  match q.target with
  | .training => false
  | .objects => q.master.val == 1 || q.master.val == 2
  | .journal => q.master.val == 1 || q.master.val == 2 || q.master.val == 4
  | .flags => q.master.val == 3
  | .surface n h => ((s.slice n.val).surf h).isSome &&
      (if 4 ≤ q.port.val && q.port.val < 20 then q.port.val == 4 + n.val else q.master.val < 16)
  | .unassigned => false

/-- Row of a bank that stands open. -/
def State.openRow (s : State) (ch bank : Nat) : Option Nat :=
  (s.dram.rows.find? (fun r => r.1 == ch && r.2.1 == bank)).map (·.2.2)

/-- Whether request `a` is chosen before `b` (R475): urgency, open row, age, port order. -/
def State.before (s : State) (now : Nat) (a b : DramReq) : Bool :=
  let ua := s.urgency a now; let ub := s.urgency b now
  let oa := s.openRow a.chan.val a.bank.val == some a.row
  let ob := s.openRow b.chan.val b.bank.val == some b.row
  if ua ≠ ub then ub < ua
  else if oa != ob then oa
  else if a.at_ ≠ b.at_ then a.at_ < b.at_
  else a.port.val < b.port.val

/-- The request chosen for a channel among those with credit; PAIR only where no other waits (R472, R474, R475). -/
def State.dramPick (s : State) (ch now : Nat) : Option DramReq :=
  let c := s.dram.waiting.filter (fun q => q.chan.val == ch && 0 < s.dram.credits.getD q.port.val 0)
  let g := c.filter (fun q => q.port.val != 20)
  (if g = [] then c else g).foldl (fun b q => match b with
    | none => some q
    | some p => if s.before now q p then some q else some p) none

/-- Records the age of a request served at urgency 3 (R475): ns, saturating at 16 bits. -/
def State.noteLate (s : State) (q : DramReq) (now : Nat) : State :=
  if s.urgency q now = 3 then
    let dfi := max 1 (s.fld R.DRC_CFG 0 13 / 8)
    let ns := sat 16 ((now - q.at_) * 1000 / dfi)
    let lo := if q.port.val = 0 then 0 else 16
    s.setFld R.DRC_LATMAX lo 16 (max (s.fld R.DRC_LATMAX lo 16) ns)
  else s

/-- Changes the DRAM controller. -/
def State.modDram (s : State) (f : Dram → Dram) : State := { s with dram := f s.dram }

/-- Issues the chosen request of a channel, if any: its credit is spent and its row stands open. -/
def State.dramIssue (s : State) (ch now : Nat) : State :=
  if s.flag R.DRC_STAT 1 then s else
  match s.dramPick ch now with
  | none => s
  | some q =>
    (s.noteLate q now).modDram (fun d => { d with
      waiting := d.waiting.erase q
      credits := modAt d.credits q.port.val (· - 1)
      rows := (ch, q.bank.val, q.row) :: d.rows.filter (fun r => !(r.1 == ch && r.2.1 == q.bank.val)) })

/-- A window start sets every port's credits to its allocation (R472). -/
def execAccountingWindow (s : State) : Out := .next (s.modDram (fun d => { d with credits := s.portAlloc }))

/-- A request reaches the controller (R468, R472, R475, R480, R482). -/
def State.dramRequest (s : State) (q : DramReq) (now : Nat) : State :=
  if s.nDrc ≤ q.chan.val then s
  else if !s.firewall q then
    let s := (s.incSat R.DRC_FW_REF 0 32).slagErr 10 q.master.val 0x14
    if q.write then s else s.emit .dramPoison
  else
    let s := if s.flag R.DRC_STAT 2 then (s.setFlag R.DRC_STAT 2 false).incWrap R.DRC_SR_STAT 16 16 else s
    let s := s.modDram (fun d => { d with waiting := d.waiting ++ [q] })
    s.dramIssue q.chan.val now

/-- DRAM_REQUEST. -/
def execDramRequest (q : DramReq) (now : Nat) (s : State) : Out := .next (s.dramRequest q now)

/-- Self-refresh entry completed: steps 4 and 5 of R481. -/
def State.srEntered (s : State) : State :=
  ((s.setFlag R.DRC_STAT 2 false).setFlag R.DRC_STAT 1 true).incWrap R.DRC_SR_STAT 0 16

/-- Self-refresh left (R483): waiting requests may issue. Deferred retraining becomes due. -/
def State.srLeft (s : State) : State := s.setFlag R.DRC_STAT 1 false

/-- The idle timer expires (R480, R481); with `complete` the entry has reached step 5. -/
def execSrIdleExpire (complete : Bool) (s : State) : Out :=
  .next (
    if s.flag R.DRC_STAT 1 then s
    else if s.flag R.DRC_STAT 2 then (if complete then s.srEntered else s)
    else if s.flag R.DRC_SR_CFG 16 && s.dram.waiting.isEmpty then
      let s := s.setFlag R.DRC_STAT 2 true
      if complete then s.srEntered else s
    else s)

/-- One drift adjustment (R488). -/
def State.retrain (s : State) (ch ps : Nat) (neg : Bool) : State :=
  if s.fld R.DRC_RT_CFG 16 8 < ps then
    (s.modDram (fun d => { d with drift := modAt d.drift ch (fun x => if neg then x - ps else x + ps) })).incWrap R.DRC_STAT 16 16
  else s

/-- A waking request or signal ends self-refresh (R483). -/
def execSrExit (s : State) : Out :=
  .next (
    if s.flag R.DRC_STAT 1 then
      let s := s.srLeft
      let s := s.dram.deferred.foldl (fun s r => s.retrain r.1 r.2.1 r.2.2) s
      let s := s.modDram (fun d => { d with deferred := [] })
      foldN 4 (fun s ch => s.dramIssue ch (maxBy (fun q => q.at_) s.dram.waiting)) s
    else s)

/-- MR4 read on a channel (R479). -/
def execMr4Poll (ch : Fin 4) (rate : Fin 4) (degC : Nat) (s : State) : Out :=
  .next (
    if s.nDrc ≤ ch.val then s else
    let s := s.modDram (fun d => { d with mr4 := putAt d.mr4 ch.val rate.val, temp := putAt d.temp ch.val degC })
    if rate.val = 3 then s.slagX 10 ch.val 0x10 {} false true else s)

/-- Divider of tREFI for the MR4 field (R479). -/
def refreshDiv (rate : Nat) : Nat := if rate = 0 then 1 else if rate = 1 then 2 else 4

/-- Refreshes of a bank postponed. -/
def Dram.postponedOf (d : Dram) (ch bank : Nat) : Nat :=
  match d.postponed.find? (fun r => r.1 == ch && r.2.1 == bank) with
  | some r => r.2.2
  | none => 0

/-- Sets the postponed refreshes of a bank. -/
def Dram.setPostponed (d : Dram) (ch bank n : Nat) : Dram :=
  let r := d.postponed.filter (fun r => !(r.1 == ch && r.2.1 == bank))
  { d with postponed := if n = 0 then r else (ch, bank, n) :: r }

/-- A per-bank refresh falls due: postponed up to 8 times while a request of urgency 2 or 3 waits for the bank (R479). -/
def execRefreshDue (ch : Fin 4) (bank : Fin 32) (now : Nat) (s : State) : Out :=
  .next (
    if s.nDrc ≤ ch.val then s else
    let urgent := s.dram.waiting.any (fun q => q.chan == ch && q.bank == bank && 2 ≤ s.urgency q now)
    let n := s.dram.postponedOf ch.val bank.val
    if urgent && n < 8 then s.modDram (fun d => d.setPostponed ch.val bank.val (n + 1))
    else s.modDram (fun d => { (d.setPostponed ch.val bank.val 0) with
      rows := d.rows.filter (fun r => !(r.1 == ch.val && r.2.1 == bank.val)) }))

/-- Periodic retraining of a channel (R488, R490). -/
def execDrcRetrain (ch : Fin 4) (driftPs : Nat) (negative : Bool) (s : State) : Out :=
  .next (
    if s.nDrc ≤ ch.val || !s.flag R.DRC_RT_CFG 24 then s
    else if s.flag R.DRC_STAT 1 || s.flag R.DRC_STAT 2 then
      s.modDram (fun d => { d with deferred := d.deferred ++ [(ch.val, driftPs, negative)] })
    else s.retrain ch.val driftPs negative)

/-- GLB_SNAP_DRC [15:8] counts with DRC_ECC_CE, saturating at 255 (R465). -/
def State.dramCorrected (s : State) (cls ch : Nat) : State := (s.incSat R.DRC_ECC_CE 0 32).slagErr cls ch 0x02

/-- A patrol scrub read of the next word (R465, R466). -/
def execDramScrubRead (ch : Fin 4) (r : EccResult) (addr : DWord) (s : State) : Out :=
  .next (
    if s.nDrc ≤ ch.val || !s.flag R.DRC_CFG 14 then s else
    match r with
    | .clean => s
    | .dataBit => s.dramCorrected 1 ch.val
    | .checkBit => s.dramCorrected 0 ch.val
    | .uncorrectable =>
      let s := s.incSat R.DRC_ECC_UE 0 32
      let s := (s.setReg R.DRC_ECC_ADDR_LO (addr.toNat % 2 ^ 32)).setReg R.DRC_ECC_ADDR_HI (addr.toNat / 2 ^ 32)
      s.slagErr 2 ch.val 0x02)

/-- Present phase. -/
def State.drcPhase (s : State) : Nat := s.fld R.DRC_STAT 3 3
/-- Sets the phase in DRC_STAT and the requested phase of DRC_CTRL. -/
def State.setDrcPhase (s : State) (p : Nat) : State := (s.setFld R.DRC_STAT 3 3 p).setFld R.DRC_CTRL 1 3 p

/-- Service begins: Knaby ends START when the first ring is enabled after the seal, or the first billet datagram is processed
(R478). -/
def State.serviceBegins (s : State) : State := if s.drcPhase = 2 then s.setDrcPhase 3 else s

/-- Whether a write of PHASE is one of R478's transitions by its master. -/
def phaseAllowed (frm dst m : Nat) : Bool :=
  (frm == 1 && dst == 2 && m == 1) || (frm == 1 && dst == 5 && m == 1) ||
  ((frm == 2 || frm == 5) && dst == 3 && (m == 1 || m == 2)) ||
  (frm == 3 && dst == 4 && (m == 1 || m == 2)) || (frm == 4 && dst == 3 && (m == 1 || m == 2))

/-- DRC_CTRL written (R478, R491): PHASE under R478, EN as a class D field. -/
def State.drcCtrlWrite (s : State) (m v : Nat) : State :=
  let p := bits v 1 3
  let cur := s.drcPhase
  let ok := p == cur || phaseAllowed cur p m
  let fl := (if ok then [] else [1]) ++ (if v / 16 = 0 then [] else [3])
  let s := s.accFlags fl m R.DRC_CTRL
  let s := s.setFlag R.DRC_CTRL 0 (bit v 0)
  if ok && p != cur then s.setDrcPhase p else s

/-- DRC_PHASE_WRITE. -/
def execDrcPhaseWrite (a : Access) (s : State) : Out :=
  .next ((s.gateWrite a R.DRC_CTRL false).run (fun m => s.drcCtrlWrite m a.data.toNat))

/-! ## Temper helpers -/

/-- First byte of the training region within a channel (R467, R463). -/
def State.trainBase (s : State) : Nat := s.usableMiB * 2 ^ 20 / s.nDrc - 65536

/-- A write of DRC_T_CTRL with GO that starts operation `op` (R487, R684). -/
def State.helperStart (s : State) (m v op : Nat) : State :=
  let v := putBits v 0 3 op
  let s := s.rsvCheck m R.DRC_T_CTRL v 0x7F000080
  let s := s.setReg R.DRC_T_CTRL (v &&& 0x00FFFF7F)
  let ch := bits v 3 2
  let count := bits v 8 16
  let addr := s.reg R.DRC_T_ADDR
  let inside := s.trainBase ≤ addr && addr + 64 * count ≤ s.trainBase + 65536
  if s.flag R.DRC_T_STAT 0 then s
  else if s.nDrc ≤ ch || (s.drcPhase != 1 && (op == 1 || op == 2) && !inside) then
    (s.setFlag R.DRC_T_STAT 1 true)
  else
    let s := s.setReg R.DRC_T_STAT 1
    if op = 1 then
      let pat := (List.range 4).map (fun k => BitVec.ofNat 32 (s.reg (R.DRC_T_PAT k)))
      s.modDram (fun d => { d with helper := ⟨ch, bits v 5 1, addr, count, bit v 6, pat⟩ :: d.helper })
    else s

/-- The gate of a helper write. -/
def State.helperWrite (s : State) (a : Access) (op : Nat) : State :=
  (s.gateWrite a R.DRC_T_CTRL false).run (fun m => s.helperStart m a.data.toNat op)

/-- Helper IDLE: no effect, and so nothing runs. -/
def execTemperIdle (a : Access) (s : State) : Out :=
  .next ((s.gateWrite a R.DRC_T_CTRL false).run (fun m =>
    let v := putBits a.data.toNat 0 3 0
    (s.rsvCheck m R.DRC_T_CTRL v 0x7F000080).setReg R.DRC_T_CTRL (v &&& 0x00FFFF7F)))
/-- Helper WRITE. -/
def execTemperWrite (a : Access) (s : State) : Out := .next (s.helperWrite a 1)
/-- Helper READ_CMP. -/
def execTemperReadCmp (a : Access) (s : State) : Out := .next (s.helperWrite a 2)
/-- Helper MPC_RD. -/
def execTemperMpcRd (a : Access) (s : State) : Out := .next (s.helperWrite a 3)
/-- Helper CBT. -/
def execTemperCbt (a : Access) (s : State) : Out := .next (s.helperWrite a 4)
/-- Helper LEVEL. -/
def execTemperLevel (a : Access) (s : State) : Out := .next (s.helperWrite a 5)

/-- A helper operation ends (R487): `fails` bursts failed, `bits` are the failing DQ bits, or the sampled values of
LEVEL. -/
def execTemperOpDone (fails : Half) (bits : Word) (s : State) : Out :=
  .next (
    if s.flag R.DRC_T_STAT 0 then
      let op := s.fld R.DRC_T_CTRL 0 3
      let s := s.setReg R.DRC_T_STAT (fails.toNat * 65536)
      if op = 5 then s.setFld R.DRC_T_FAIL 0 4 bits.toNat
      else s.setReg R.DRC_T_FAIL (s.reg R.DRC_T_FAIL ||| bits.toNat)
    else s)

/-- DRC_T_DLY as the index register selects it: a written value, else the trained value, which the manual leaves to the
board and moves by the drift adjustments (R484, R488). -/
def State.dlyValue (s : State) : Nat :=
  let i := s.fld R.DRC_T_DLY_IDX 0 12
  match s.dram.dly.find? (fun e => e.1 == i) with
  | some e => e.2
  | none => (Config.trainedDelay i (s.dram.drift.getD (i % 4) 0)).toNat

/-- DRC_T_DLY written (R491): only while PHASE is TRAIN. -/
def State.dlyWrite (s : State) (m v : Nat) : State :=
  let lock := s.drcPhase != 1
  let s := s.accFlags ((if lock then [1] else []) ++ (if v / 65536 = 0 then [] else [3])) m R.DRC_T_DLY
  if lock then s
  else
    let i := s.fld R.DRC_T_DLY_IDX 0 12
    s.modDram (fun d => { d with dly := (i, v % 65536) :: d.dly.filter (fun e => e.1 != i) })

/-! ## Background memory test (R499-R504) -/

/-- Windows of a bank and banks (or bank groups) of each memory: Hearth RAM, core scratch, cluster scratch (R499). -/
def testDims (mem : Nat) : Nat × Nat := if mem = 0 then (1, 512) else if mem = 1 then (8, 32) else (8, 256)

/-- The window after this one, and whether the pass ended. -/
def TestPos.next (p : TestPos) (mem : Nat) : TestPos × Bool :=
  let d := testDims mem
  if p.window + 1 < d.2 then (⟨p.bank, p.window + 1, false, 0⟩, false)
  else if p.bank + 1 < d.1 then (⟨p.bank + 1, 0, false, 0⟩, false)
  else (⟨0, 0, false, 0⟩, true)

/-- Position of a memory's test. -/
def State.testPos (s : State) (mem : Nat) : TestPos := s.memtest.getD mem ⟨0, 0, false, 0⟩

/-- Places the position, and shows a borrowed Hearth RAM window. -/
def State.setTestPos (s : State) (mem : Nat) (p : TestPos) : State :=
  let s := { s with memtest := putAt s.memtest mem p }
  if mem = 0 then s.setFlag R.HRT_MT_STAT 0 p.borrowed else s

/-- Moves to the next window, counting a completed pass. -/
def State.testAdvance (s : State) (mem : Nat) : State :=
  let r := (s.testPos mem).next mem
  let s := s.setTestPos mem r.1
  if r.2 then s.incWrap R.HRT_MT_PASS (8 * mem) 8 else s

/-- A pre-emption (R500): the window is retried, and after 16 in a row skipped. -/
def State.testPreempt (s : State) (mem : Nat) : State :=
  let s := s.incSat R.HRT_MT_STAT 8 8
  let p := s.testPos mem
  if p.preempts + 1 < 16 then s.setTestPos mem { p with borrowed := false, preempts := p.preempts + 1 }
  else (s.incSat R.HRT_MT_STAT 16 8).testAdvance mem

/-- A window failure (R502). -/
def State.testFail (s : State) (mem core bank : Nat) : State :=
  let p := s.testPos mem
  let b := if mem = 0 then 0 else if mem = 1 then p.bank else 8 * p.bank + bank
  let s := s.setReg R.HRT_MT_FAIL (mem + (if mem = 1 then 4 * core else 0) + 256 * b + 65536 * p.window)
  let s := s.setFlag R.HRT_MT_STAT (1 + mem) true
  let s := s.incSat R.HRT_MT_STAT 24 8
  (s.slagX 12 (if mem = 1 then core else 0) 0x03 {} false (mem == 0)).testAdvance mem

/-- One test window of a memory (R499, R500, R502). -/
def execMemtestWindow (mem : Fin 3) (core : Fin 48) (bank : Fin 8) (r : WindowEnd) (s : State) : Out :=
  .next (
    if !s.flag R.HRT_MT_CFG (16 + mem.val) || (mem.val == 1 && s.nCores ≤ core.val) then s else
    match r with
    | .pass => s.testAdvance mem.val
    | .fail => s.testFail mem.val core.val bank.val
    | .preempt => s.testPreempt mem.val
    | .running => s.setTestPos mem.val { s.testPos mem.val with borrowed := true })

/-- A borrow of 4096 cycles is restored and counted as a pre-emption (R501). -/
def execMemtestBorrowTimeout (mem : Fin 3) (s : State) : Out :=
  .next (if (s.testPos mem.val).borrowed then s.testPreempt mem.val else s)

/-- A raw access through the IEEE 1149.1 port on port B (R496-R498). The port has no window of R644, so a write is
ignored with an ACCESS entry; a read that receives BUSY delivers undefined data. -/
def execJtagRawAccess (word : Fin 32768) (wr : Bool) (portA : PortA) (s : State) : Out :=
  .next (
    let r := s.draw
    let busyB := portA == .write
    if busyB then
      let s := ((s.setFlag R.HRT_DPR_STAT 24 true).incSat R.HRT_DPR_STAT 12 12)
      if wr then s else (State.emit { s with fresh := r.2.fresh } (.readData (Config.undefWord r.1 word.val)))
    else if wr then
      let s := if portA == .read then s.incSat R.HRT_DPR_STAT 0 12 else s
      s.slagErr 23 0 0x14
    else State.emit { s with fresh := r.2.fresh } (.readData (Config.hearthWord r.1 word.val)))

end Sys2Proof.Machine
end

