-- ==== Sys2Proof/Machine/DispOps.lean ====
section
/-! DEFINITION. Shared operations of the display path: outputs and their timing (R297-R300), the load budget (R203-R205),
granules (R286-R294), staged sets (R106) and what applies at a cut-off (R210, R237, R246). -/
namespace Sys2Proof.Machine

/-! ## Access -/

/-- Changes the display path. -/
def State.modDisp (s : State) (f : Display → Display) : State := { s with disp := f s.disp }
/-- Output `n`. -/
def State.ou (s : State) (n : Nat) : OutSt := s.disp.outs.getD n OutSt.reset
/-- Changes output `n`. -/
def State.modOu (s : State) (n : Nat) (f : OutSt → OutSt) : State :=
  s.modDisp (fun d => { d with outs := modAt d.outs n f })
/-- The Hardy state of output `n`. -/
def State.hd (s : State) (n : Nat) : Hardy := s.disp.hardy.getD n Hardy.reset
/-- Changes the Hardy state of output `n`. -/
def State.modHd (s : State) (n : Nat) (f : Hardy → Hardy) : State :=
  s.modDisp (fun d => { d with hardy := modAt d.hardy n f })
/-- Changes the limp-home display. -/
def State.modLimp (s : State) (f : Limp → Limp) : State := s.modDisp (fun d => { d with limp := f d.limp })
/-- Layer `k`. -/
def State.lay (s : State) (k : Nat) : Layer := s.disp.layers.getD k Layer.reset
/-- Changes layer `k`. -/
def State.modLay (s : State) (k : Nat) (f : Layer → Layer) : State :=
  s.modDisp (fun d => { d with layers := modAt d.layers k f })
/-- Scaler `k`. -/
def State.scl (s : State) (k : Nat) : ScalerSt := s.disp.scalers.getD k ScalerSt.reset
/-- Changes scaler `k`. -/
def State.modScl (s : State) (k : Nat) (f : ScalerSt → ScalerSt) : State :=
  s.modDisp (fun d => { d with scalers := modAt d.scalers k f })

/-! ## Timing -/

/-- HTOTAL (R203). -/
def Timing.htot (t : Timing) : Nat := t.hact + t.hfp + t.hsync + t.hbp
/-- VTOTAL. -/
def Timing.vtot (t : Timing) : Nat := t.vact + t.vfp + t.vsync + t.vbp

/-- The breaches of R300 with the payload field that each names (R113). -/
def Timing.breaches (t : Timing) : List (Bool × Nat) :=
  let out := fun (x lo hi : Nat) => x < lo || hi < x
  [(out t.pclk 25000 600000, 0x04), (out t.hact 64 4096, 0x08), (out t.hfp 8 2048, 0x0A), (out t.hsync 4 1024, 0x0C),
   (out t.hbp 8 2048, 0x0E), (8192 < t.htot, 0x08), (out t.vact 64 4096, 0x10), (out t.vfp 1 4095, 0x12),
   (out t.vsync 1 255, 0x14), (out t.vbp 1 255, 0x16), (t.vtot < t.vact + 4, 0x12), (8192 < t.vtot, 0x10),
   (t.pclk * 1000 < 10 * (t.htot * t.vtot) || 240 * (t.htot * t.vtot) < t.pclk * 1000, 0x04)]

/-- Within R300. -/
def Timing.valid (t : Timing) : Bool := t.breaches.all (fun b => !b.1)

/-- The timing in a SET_TIMING payload (R113). -/
def timingOf (b : List Byte) : Timing where
  pclk := u32 b 4
  hact := u16 b 8
  hfp := u16 b 0xA
  hsync := u16 b 0xC
  hbp := u16 b 0xE
  vact := u16 b 0x10
  vfp := u16 b 0x12
  vsync := u16 b 0x14
  vbp := u16 b 0x16
  pol := u8 b 3

/-- Timing set `k` of output `n` as its registers hold it (R322). -/
def State.timingSet (s : State) (n k : Nat) : Timing where
  pclk := s.fld (R.SCN_OUT_T_PCLK n k) 0 20
  hact := s.fld (R.SCN_OUT_T_H0 n k) 0 13
  hfp := s.fld (R.SCN_OUT_T_H0 n k) 16 13
  hsync := s.fld (R.SCN_OUT_T_H1 n k) 0 13
  hbp := s.fld (R.SCN_OUT_T_H1 n k) 16 13
  vact := s.fld (R.SCN_OUT_T_V0 n k) 0 13
  vfp := s.fld (R.SCN_OUT_T_V0 n k) 16 13
  vsync := s.fld (R.SCN_OUT_T_V1 n k) 0 13
  vbp := s.fld (R.SCN_OUT_T_V1 n k) 16 13
  pol := s.fld (R.SCN_OUT_T_POL n k) 0 2

/-- Loads a timing set (R113). -/
def State.loadTiming (s : State) (n k : Nat) (t : Timing) : State :=
  let s := s.setReg (R.SCN_OUT_T_PCLK n k) t.pclk
  let s := s.setReg (R.SCN_OUT_T_H0 n k) (t.hact + t.hfp * 2 ^ 16)
  let s := s.setReg (R.SCN_OUT_T_H1 n k) (t.hsync + t.hbp * 2 ^ 16)
  let s := s.setReg (R.SCN_OUT_T_V0 n k) (t.vact + t.vfp * 2 ^ 16)
  let s := s.setReg (R.SCN_OUT_T_V1 n k) (t.vsync + t.vbp * 2 ^ 16)
  s.setReg (R.SCN_OUT_T_POL n k) t.pol

/-- The registers of a timing set. -/
def timingKeys (n k : Nat) : List Nat :=
  [R.SCN_OUT_T_PCLK n k, R.SCN_OUT_T_H0 n k, R.SCN_OUT_T_H1 n k, R.SCN_OUT_T_V0 n k, R.SCN_OUT_T_V1 n k, R.SCN_OUT_T_POL n k]

/-- Running timing of an enabled output, selected timing of a disabled one (R113). -/
def State.tim (s : State) (n : Nat) : Option Timing := (s.ou n).set.map (s.timingSet n)

/-- OUT0 runs from the limp output record (R278). -/
def State.limpBoot (s : State) : Bool := s.flag R.HRD_STAT 11

/-- The timing that the generator of output `n` scans. -/
def State.scanTim (s : State) (n : Nat) : Option Timing := if n = 0 && s.limpBoot then s.disp.limp.tim else s.tim n

/-- The link configuration word in use: the limp output record's while OUT0 runs from it (R278, R344). -/
def outConfigWord (b : List Byte) : Nat :=
  u8 b 1 + u8 b 2 * 2 ^ 3 + u8 b 3 * 2 ^ 8 + u16 b 4 * 2 ^ 16 + u16 b 6 % 8 * 2 ^ 28
/-- LNK_CFG in force. -/
def State.linkCfg (s : State) (n : Nat) : Nat :=
  match n == 0 && s.limpBoot, s.boot.limpOut with
  | true, some b => outConfigWord b
  | _, _ => s.reg (R.SCN_OUT_LNK_CFG n)
/-- Panel depth in force. -/
def State.bpc (s : State) (n : Nat) : Nat := bits (s.linkCfg n) 8 4
/-- T_PANEL_ON in force, in ms. -/
def State.tPanelOn (s : State) (n : Nat) : Nat :=
  match n == 0 && s.limpBoot, s.boot.limpOut with
  | true, some b => u16 b 8
  | _, _ => s.fld (R.SCN_OUT_PSEQ0 n) 0 16

/-- Active size; empty without a set (R119). -/
def State.active (s : State) (n : Nat) : Nat × Nat :=
  match s.tim n with
  | some t => (t.hact, t.vact)
  | none => (0, 0)

/-- The generator runs. -/
def GenSt.runs (g : GenSt) : Bool := g == .run || g == .reprogCut || g == .stopBl || g == .stopCut
/-- Output `n` scans frames. -/
def State.scanning (s : State) (n : Nat) : Bool := (s.ou n).gen.runs && s.power.st != 2
/-- Timing set `k` of output `n` is in use (R301). -/
def State.setInUse (s : State) (n k : Nat) : Bool :=
  let o := s.ou n
  (o.enabled || (o.gen != .off && !(n == 0 && s.limpBoot))) && (o.set == some k || o.next == some k)

/-- The frame counter (R299). -/
def State.frameNo (s : State) (n : Nat) : Word := s.regs.get (R.SCN_OUT_FRAME n)

/-- Lines that have passed since the last cut-off, at most a frame less one. -/
def State.linesSince (s : State) (n : Nat) : Nat :=
  match s.scanTim n with
  | some t => min (t.vtot - 1) ((s.time - (s.ou n).cutAt) * t.pclk / 1000 / max 1 t.htot)
  | none => 0
/-- Current line (R298, R322). -/
def State.lineNo (s : State) (n : Nat) : Nat :=
  match s.scanTim n with
  | some t => if s.scanning n then (t.vact + s.linesSince n) % max 1 t.vtot else 0
  | none => 0
/-- In vertical blanking (R298). -/
def State.vblank (s : State) (n : Nat) : Bool :=
  match s.scanTim n with
  | some t => s.scanning n && s.linesSince n < t.vtot - t.vact
  | none => false

/-! ## Layers and the load budget -/

/-- Enabled layers of output `n`, in ascending Z (R189). -/
def State.layersOn (s : State) (n : Nat) : List (Nat × Layer) :=
  let on := ((List.range 64).map (fun k => (k, s.lay k))).filter
    (fun p => p.2.slice.isSome && p.2.output == n && p.2.com.on)
  (List.range 64).flatMap (fun z => on.filter (fun p => p.2.z == z))

/-- P_n (R203). -/
def State.pixLoad (s : State) (n : Nat) : Nat :=
  let (h, v) := s.active n
  max (h * v) (sumBy (fun p : Nat × Layer => (p.2.com.clip h v).area) (s.layersOn n))

/-- Surface `h` of slice `n`. -/
def State.surf (s : State) (n h : Nat) : Option Surface := (s.slice n).surf h

/-- Fetched source area of a layer (R204). -/
def LayerCfg.fetchArea (c : LayerCfg) (h v : Nat) : Nat :=
  let b := c.clip h v
  if b.area = 0 then 0
  else if c.scale then
    min c.srcW (ceilDiv (b.w * c.srcW) c.dstW + 7) * min c.srcH (ceilDiv (b.h * c.srcH) c.dstH + 5)
  else b.area

/-- B_n (R204). -/
def State.fetchLoad (s : State) (n : Nat) : Nat :=
  let (h, v) := s.active n
  sumBy (fun p : Nat × Layer =>
    match p.2.slice.bind (fun sl => s.surf sl p.2.com.surface) with
    | some u => p.2.com.fetchArea h v * bpp u.format
    | none => 0) (s.layersOn n) + (if (s.ou n).wb.isSome then 4 * h * v else 0)

/-- Sum of `w n * f_n` over the enabled outputs, as numerator and denominator (R203, R205). -/
def State.rateSum (s : State) (w : Nat → Nat) : Nat × Nat :=
  foldN 8 (fun a n =>
    match s.tim n with
    | some t =>
      if (s.ou n).enabled && 0 < t.htot * t.vtot then
        (a.1 * (t.htot * t.vtot) + w n * (t.pclk * 1000) * a.2, a.2 * (t.htot * t.vtot))
      else a
    | none => a) (0, 1)

/-- Healthy engines E (R220). -/
def State.engines (s : State) : Nat := 4 - popCount 4 (s.reg R.CMP_ENG_FAIL)

/-- The loads of R205 fit. -/
def State.loadsFit (s : State) : Bool :=
  let l := s.rateSum s.pixLoad
  let b := s.rateSum s.fetchLoad
  l.1 ≤ 3168 * 10 ^ 6 * s.engines * l.2 && b.1 ≤ s.fetchBudget * 10 ^ 6 * b.2

/-- Shows the admitted loads (R225): `p` is the projected state. -/
def State.showLoads (s p : State) : State :=
  let l := p.rateSum p.pixLoad
  let b := p.rateSum p.fetchLoad
  (s.setReg R.CMP_LOAD (ceilDiv l.1 (10 ^ 6 * l.2))).setReg R.CMP_FETCH_LOAD (ceilDiv b.1 (10 ^ 6 * b.2))

/-- Shows an output's committed loads and enabled layers (R227). -/
def State.showCommitted (s : State) (n : Nat) : State :=
  let m := maskOf ((s.layersOn n).map (·.1))
  let s := s.setReg (R.CMP_OUT_LOAD n) (s.pixLoad n)
  let s := s.setReg (R.CMP_OUT_FETCH n) (ceilDiv (s.fetchLoad n) 64)
  (s.setReg (R.CMP_OUT_LAYERS_LO n) (m % 2 ^ 32)).setReg (R.CMP_OUT_LAYERS_HI n) (m / 2 ^ 32)

/-! ## The Anvil -/

/-- BAR2 offset of a granule (R286). -/
def granuleAt (g : Nat) : Nat := g / 64 * 0x8000000 + g % 64 * 0x200000

/-- Bytes of a granule. -/
def granuleBytes : Nat := 0x200000

/-- Die channel 8d + c of a BAR2 offset (R288). -/
def dieChannel (a : Nat) : Nat := 8 * (a / 0x8000000) + a / 256 % 8

/-- Owner code of a granule (R321). -/
def State.owner (s : State) (g : Nat) : Nat := s.disp.owner.getD g 0
/-- Changes the owner of granules. -/
def State.setOwner (s : State) (gs : List Nat) (c : Nat) : State :=
  s.modDisp (fun d => { d with owner := gs.foldl (fun o g => putAt o g c) d.owner })
/-- A die is present and healthy. -/
def State.dieOk (s : State) (d : Nat) : Bool := d < s.nDies && s.flag R.ANV_STAT d
/-- Free granules of a die, ascending. -/
def State.freeOn (s : State) (d : Nat) : List Nat :=
  if s.dieOk d then ((List.range 64).map (· + 64 * d)).filter (fun g => s.owner g == 0xFF) else []
/-- Free granules on healthy dies. -/
def State.freeGranules (s : State) : Nat := sumBy (fun d => (s.freeOn d).length) [0, 1, 2]

/-- The granules that the rule of R293 step 2 takes from the free lists of the dies: the die with most free granules,
the lower index on a tie, until `k` are taken. -/
def takeFrom : Nat → List (List Nat) → Nat → List Nat
  | 0, _, _ => []
  | fuel + 1, free, k =>
    if k = 0 then [] else
    let best := foldN free.length (fun b d =>
      if (free.getD b []).length < (free.getD d []).length then d else b) 0
    let l := free.getD best []
    l.take k ++ takeFrom fuel (putAt free best []) (k - (l.take k).length)

/-- The granules an allocation of `k` takes. -/
def State.pickGranules (s : State) (k : Nat) : List Nat := takeFrom 3 ([0, 1, 2].map s.freeOn) k

/-- Removes every byte of a granule, which then reads 0. -/
def zeroGranule (m : Mem) (g : Nat) : Mem :=
  m.filter (fun e => e.1 < granuleAt g || granuleAt g + granuleBytes ≤ e.1)
/-- Zero-fills granules. -/
def State.zeroGranules (s : State) (gs : List Nat) : State :=
  s.modDisp (fun d => { d with anvil := gs.foldl zeroGranule d.anvil })
/-- Copies one granule onto another. -/
def copyGranule (m : Mem) (src dst : Nat) : Mem :=
  let body := (m.filter (fun e => granuleAt src ≤ e.1 && e.1 < granuleAt src + granuleBytes)).map
    (fun e => (e.1 - granuleAt src + granuleAt dst, e.2))
  m.filter (fun e => e.1 < granuleAt dst) ++ body ++ m.filter (fun e => granuleAt dst + granuleBytes ≤ e.1)

/-- Shows the free granules (R321). -/
def State.showFree (s : State) : State :=
  s.setReg R.ANV_FREE ((s.freeOn 0).length + 2 ^ 8 * (s.freeOn 1).length + 2 ^ 16 * (s.freeOn 2).length)

/-- Granules per buffer (R292). -/
def State.bufGranules (s : State) (n : Nat) : Nat := s.fld (R.SCN_OUT_GEOM n) 16 6
/-- STRIDE (R292). -/
def State.bufStride (s : State) (n : Nat) : Nat := s.fld (R.SCN_OUT_GEOM n) 0 16
/-- FRONT (R295). -/
def State.front (s : State) (n : Nat) : Nat := s.fld (R.SCN_OUT_STAT n) 4 1
/-- BAR2 offset of pixel (x, y) of buffer `b` (R294). -/
def State.bufAddr (s : State) (n b x y : Nat) : Nat :=
  let o := y * s.bufStride n + 4 * x
  granuleAt ((s.ou n).gmap.getD (b * s.bufGranules n + o / granuleBytes) 0) + o % granuleBytes

/-- One pixel word of a front buffer. -/
def State.bufPixel (s : State) (n b x y : Nat) : Nat := leNat (s.disp.anvil.read none (s.bufAddr n b x y) 4)

/-- Makes an Anvil Slag entry for an uncorrectable word, with its counter and address (R313). -/
def State.anvUe (s : State) (a : Nat) (cls unit code : Nat) : State :=
  ((s.incSat R.ANV_UE_COUNT 0 32).setReg R.ANV_UE_ADDR (a / 8 * 8)).slagErr cls unit code

/-- An Anvil write of whole bytes: a word whose merge read is uncorrectable keeps only the bytes written (R287). -/
def State.anvilWrite (s : State) (a : Nat) (bs : List Byte) : State :=
  s.modDisp (fun d => { d with anvil := d.anvil.write none a bs })

/-! ## Staged sets -/

/-- What a staged item replaces: two items of one key never stand together (R106). -/
def StageItem.key : StageItem → Nat × Nat × Nat
  | .layer k _ => (0, k, 0)
  | .colour o w => (1, o, w)
  | .scaler _ k a => (2, k, a)
  | .writeback o _ _ => (3, o, 0)
  | .reg off _ => (4, off, 0)

/-- The output of the page that holds a class S register. -/
def pageOut (off : Nat) : Nat := off / 0x1000 % 8

/-- The output at which an item applies. -/
def State.itemOut (s : State) : StageItem → Nat
  | .layer k _ => (s.lay k).output
  | .colour o _ => o
  | .scaler o _ _ => o
  | .writeback o _ _ => o
  | .reg off _ => pageOut off

/-- The set of a group, or the default set of an output. -/
def StageSet.is (z : StageSet) (group out : Nat) : Bool := z.group == group && (group != 0 || z.out == out)

/-- Numbered groups in use. -/
def Slice.groups (x : Slice) : List Nat := (x.sets.filter (fun z => z.group != 0)).map (·.group)

/-- Stages an item into a group or the default set of an output (R106). -/
def Slice.stage (x : Slice) (group out : Nat) (i : StageItem) : Slice :=
  let cleared := x.sets.map (fun z => { z with items := z.items.filter (fun j => j.key != i.key) })
  let sets := if cleared.any (fun z => z.is group out) then cleared else cleared ++ [⟨group, if group = 0 then out else 0, []⟩]
  { x with sets := sets.map (fun z => if z.is group out then { z with items := z.items ++ [i] } else z) }

/-- Every staged item of a slice. -/
def Slice.staged (x : Slice) : List StageItem := x.sets.flatMap (·.items)

/-- Items of pending commits that have not applied. -/
def State.pendingItems (s : State) : List (Nat × StageItem) :=
  s.disp.commits.flatMap (fun c =>
    (c.items.filter (fun i => !c.applied.contains (s.itemOut i))).map (fun i => (c.slice, i)))

/-- A staged or pending item of slice 0 with the key (R239, R240, R247, R248). -/
def State.itemWaits (s : State) (key : Nat × Nat × Nat) : Bool :=
  (s.slice 0).staged.any (fun i => i.key == key) || s.pendingItems.any (fun p => p.1 == 0 && p.2.key == key)
/-- A pending item of slice 0 with the key. -/
def State.itemPends (s : State) (key : Nat × Nat × Nat) : Bool :=
  s.pendingItems.any (fun p => p.1 == 0 && p.2.key == key)

/-- Brings the inactive bank of a discarded item back to the active one (R237, R246). -/
def State.dropItem (s : State) : StageItem → State
  | .colour o w => s.modOu o (fun x =>
      { x with colour := if w = 0 then { x.colour with mIn := x.colour.mAct } else { x.colour with lIn := x.colour.lAct } })
  | .scaler _ k a => s.modScl k (fun z => if a = 0 then { z with hIn := z.hAct } else { z with vIn := z.vAct })
  | _ => s

/-- Discards items. -/
def State.dropItems (s : State) (l : List StageItem) : State := l.foldl State.dropItem s

/-- A staged item becomes committed state at its cut-off (R210, R237, R246). -/
def State.applyItem (s : State) (i : StageItem) : State :=
  match i with
  | .layer k c => s.modLay k (fun l => { l with com := c })
  | .colour o w => s.modOu o (fun x => { x with colour :=
      if w = 0 then { x.colour with mAct := x.colour.mIn, mIn := x.colour.mAct, busy := true }
      else { x.colour with lAct := x.colour.lIn, lIn := x.colour.lAct, busy := true } })
  | .scaler _ k a => s.modScl k (fun z =>
      if a = 0 then { z with hAct := z.hIn, hIn := z.hAct, busy := true }
      else { z with vAct := z.vIn, vIn := z.vAct, busy := true })
  | .writeback o en h => (s.modOu o (fun x => { x with wb := if en then some h else none })).setFlag (R.CMP_OUT_WB o) 0 en
  | .reg off v => { s with regs := s.regs.put off v }

/-- Applies to output `m` the items of a commit that belong there. -/
def State.applyCommit (s : State) (c : PCommit) (m : Nat) : State :=
  (c.items.filter (fun i => s.itemOut i == m)).foldl State.applyItem s

end Sys2Proof.Machine
end

