-- ==== Sys2Proof/Machine/Surfaces.lean ====
section
/-! DEFINITION. Surfaces and memory, opcode class 0x01 (R97-R104), with the pins on surfaces (R55, R97) and the slice's DRAM
quota (R92, R99). -/
namespace Sys2Proof.Machine

/-! ## Pins -/

/-- Surface handles that a billet refers to (R55). -/
def refsOf (m : BilletMsg) : List Nat :=
  let p := m.payload
  let nz := fun (l : List Nat) => l.filter (· != 0)
  match m.opcode.toNat with
  | 0x0101 | 0x0102 | 0x0103 | 0x0104 | 0x0105 => nz [u16 p 0]
  | 0x0106 => nz [u16 p 0, u16 p 2]
  | 0x0201 => if bit (u8 p 1) 0 then nz [u16 p 4] else []
  | 0x0204 => if bit (u8 p 1) 0 then nz [u16 p 2] else []
  | 0x0402 => nz [u16 p 0]
  | 0x0500 => nz [u16 p 0, u16 p 0x0C, u16 p 0x0E, u16 p 0x10, u16 p 0x12, u16 p 0x14, u16 p 0x16, u16 p 0x18, u16 p 0x1A]
  | 0x0501 => nz [u16 p 0, u16 p 2, u16 p 0x18, u16 p 0x1A, u16 p 0x1C, u16 p 0x1E]
  | 0x0B02 => nz [u16 p 2]
  | _ => []

/-- Layers of slice `n` that a list of items enables on surface `h`. -/
def itemsUse (h : Nat) (l : List StageItem) : Bool :=
  l.any (fun i => match i with
    | .layer _ c => c.on && c.surface == h
    | _ => false)

/-- A committed layer of slice `n` shows surface `h`. -/
def State.layerShows (s : State) (n h : Nat) : Bool :=
  s.disp.layers.any (fun l => l.slice == some n && l.com.on && l.com.surface == h)

/-- Surface `h` is a write-back target enabled in committed, pending or staged state, or of a pass that has not ended
(R97, R224); slice 0 owns every target. -/
def State.wbTarget (s p : State) (h : Nat) : Bool :=
  let item := fun (i : StageItem) => match i with
    | .writeback _ en t => en && t == h
    | _ => false
  s.disp.outs.any (fun o => o.wb == some h || o.wbPass == some h) || p.disp.outs.any (fun o => o.wb == some h) ||
  (p.slice 0).staged.any item || s.pendingItems.any (fun q => q.1 == 0 && item q.2)

/-- Surface `h` of slice `n` is the source of a layer enabled in committed, pending or staged state (R97, R224). -/
def State.layerSource (s p : State) (n h : Nat) : Bool :=
  s.layerShows n h || p.layerShows n h || itemsUse h (p.slice n).staged ||
  itemsUse h ((s.pendingItems.filter (fun q => q.1 == n)).map (·.2))

/-- Surface `h` of slice `n` is pinned (R97). -/
def State.surfPinned (s p : State) (n h : Nat) : Bool :=
  (s.slice n).journal.any (fun e => e.isOpen && (refsOf e.body).contains h) ||
  s.layerSource p n h || (n == 0 && s.wbTarget p h)

/-! ## Quota and descriptors -/

/-- Pages of the dirty-log shadows, charged to slice 0 (R180). -/
def State.shadowPages (s : State) : Nat :=
  sumBy (fun x : Slice => match x.dirty with | some d => ceilDiv (ceilDiv d.pages 8) 4096 | none => 0) s.slices
/-- Pages charged to slice `n`. -/
def State.pagesUsed (s : State) (n : Nat) : Nat := (s.slice n).pagesUsed + (if n = 0 then s.shadowPages else 0)
/-- Sum of the quotas of slices 1 to N − 1, in MiB. -/
def State.quotaSum (s : State) : Nat := sumBy (fun k => (s.slice k).quota) ((List.range s.nSlices).filter (· != 0))
/-- Quota of a slice in MiB (R92). -/
def State.quotaMiB (s : State) (n : Nat) : Nat :=
  if n = 0 then s.guestKiB / 1024 - s.quotaSum else (s.slice n).quota
/-- DRAM in use in MiB, rounded up. -/
def State.useMiB (s : State) (n : Nat) : Nat := ceilDiv (s.pagesUsed n) 256

/-- Transfers that hold a DMA descriptor: opcodes SURF_UPLOAD, SURF_READBACK, SURF_FILL, SURF_COPY, HARDY_COPY (R154). -/
def isDma (m : BilletMsg) : Bool := [0x0102, 0x0104, 0x0105, 0x0106, 0x0402].contains m.opcode.toNat
/-- Raster and compute jobs. -/
def isJob (m : BilletMsg) : Bool := m.opcode.toNat == 0x0500 || m.opcode.toNat == 0x0501
/-- The share of DMA descriptors is used up (R173). -/
def State.dmaFull (s : State) (n : Nat) : Bool :=
  decide (256 / s.nSlices ≤ ((s.slice n).journal.filter (fun e => e.isOpen && isDma e.body)).length)
/-- The share of OPEN jobs is used up. -/
def State.jobsFull (s : State) (n : Nat) : Bool :=
  decide (128 / s.nSlices ≤ ((s.slice n).journal.filter (fun e => e.isOpen && isJob e.body)).length)

/-! ## Checks -/

/-- A handle is from 1 to 1023 (R97) and names a surface. -/
def chkHandle (p : State) (n h off : Nat) : List Chk :=
  [⟨10, h = 0 || 1023 < h, off⟩, ⟨12, (p.surf n h).isNone, off⟩]

/-- A rectangle with W and H not 0, inside the surface of handle `h` if there is one. -/
def chkRect (p : State) (n h : Nat) (pl : List Byte) (xo wo : Nat) : List Chk :=
  let x := u16 pl xo; let y := u16 pl (xo + 2); let w := u16 pl wo; let hh := u16 pl (wo + 2)
  [⟨10, w = 0, wo⟩, ⟨10, hh = 0, wo + 2⟩] ++
  match p.surf n h with
  | some u => [⟨11, u.width < x + w, xo⟩, ⟨11, u.height < y + hh, xo + 2⟩]
  | none => []

/-- Ends a transfer: E_DATA as hardware reports it, with the Slag entry of a host access error (R101) or of a
poisoned DRAM read (R465), else S_DONE. -/
def State.endDma (s : State) (n : Nat) (e : JEntry) (r : EffResult) (hostPort : Option Nat) (value : Nat) (f : State → State) :
    State :=
  if r.status.toNat = S_DONE then (f s).complete n e.seq S_DONE value
  else
    let s := match hostPort with
      | some p => (s.modPort p (fun q => { q with cplErr := sat 16 (q.cplErr + 1) })).slagErr 19 p 0x14
      | none => s.slagErr 2 n 0x01
    s.completeOpen n e.seq E_DATA

/-- A unit outside the cluster writes a surface. While a job of the slice runs, the slice's cache window may go on holding
the older content (R386). -/
def State.putSurf (s : State) (n : Nat) (u : Surface) : State :=
  let s := match s.surf n u.handle with
    | some o =>
      if s.cru.jobs.any (fun j => j.slice == n) then { s with cru := { s.cru with old := ⟨n, o⟩ :: s.cru.old } } else s
    | none => s
  s.modSlice n (fun x => x.putSurf u)

/-- The PCIe port of a slice. -/
def State.hostPort (s : State) (n : Nat) : Nat :=
  match (s.slice n).binding with
  | .pcie p _ => p
  | _ => 0

/-- A transfer has hardware at work from its issue on: nothing changes until it reports. -/
def State.startDma (s : State) (_ : Nat) (_ : JEntry) : State := s

/-! ## The opcodes -/

/-- SURF_CREATE (R99). -/
def opSurfCreate : OpDef where
  code := 0x0100
  len := fixedLen 16
  nature := .trans
  checks _ p n m :=
    let b := m.payload
    [⟨10, u16 b 0 = 0 || 1023 < u16 b 0, 0x00⟩, ⟨10, bpp (u8 b 2) = 0, 0x02⟩, ⟨10, 1 < u8 b 3, 0x03⟩,
     ⟨10, u16 b 4 = 0 || 8192 < u16 b 4, 0x04⟩, ⟨10, u16 b 6 = 0 || 8192 < u16 b 6, 0x06⟩, resv b 0x0C 4,
     ⟨11, u32 b 8 % 64 != 0 || u32 b 8 < u16 b 4 * bpp (u8 b 2), 0x08⟩, ⟨12, (p.surf n (u16 b 0)).isSome, 0x00⟩,
     ⟨15, p.quotaMiB n * 256 < p.pagesUsed n + ceilDiv (u32 b 8 * u16 b 6) 4096, 0x00⟩]
  result _ _ m := ceilDiv (u32 m.payload 8 * u16 m.payload 6) 4096
  issue s n e :=
    let b := e.body.payload
    let (k, s) := if bit (u8 b 3) 0 then (none, s) else (some s.draw.1, s.draw.2)
    let u : Surface := ⟨u16 b 0, u8 b 2, u16 b 4, u16 b 6, u32 b 8, k, []⟩
    (s.modSlice n (fun x => { x with surfaces := x.surfaces ++ [u] })).complete n e.seq S_DONE 0

/-- SURF_FREE (R100). -/
def opSurfFree : OpDef where
  code := 0x0101
  len := fixedLen 4
  nature := .trans
  checks s p n m :=
    let h := u16 m.payload 0
    [resv m.payload 2 2, ⟨10, h = 0 || 1023 < h, 0⟩, ⟨12, (p.surf n h).isNone || s.surfPinned p n h, 0⟩]
  issue s n e :=
    (s.modSlice n (fun x => { x with surfaces := x.surfaces.filter (fun u => u.handle != u16 e.body.payload 0) })).complete
      n e.seq S_DONE 0

/-- Checks that SURF_UPLOAD and SURF_READBACK share (R101). -/
def chkTransfer (s p : State) (n : Nat) (b : List Byte) : List Chk :=
  [resv b 2 2, resv b 0x18 8] ++ chkHandle p n (u16 b 0) 0 ++ chkRect p n (u16 b 0) b 4 8 ++
  (match p.surf n (u16 b 0) with
   | some u => [⟨11, u32 b 0x0C < u16 b 8 * bpp u.format, 0x0C⟩]
   | none => []) ++ [⟨15, s.dmaFull n, fNONE⟩]

/-- SURF_UPLOAD (R101): `data` of the report holds the rows read, packed. -/
def opSurfUpload : OpDef where
  code := 0x0102
  len := fixedLen 32
  slot := true
  pcie := true
  checks s p n m := chkTransfer s p n m.payload
  issue := State.startDma
  finish s n e r :=
    let b := e.body.payload
    match s.surf n (u16 b 0) with
    | some u =>
      s.endDma n e r (some (s.hostPort n)) (u16 b 8 * bpp u.format * u16 b 0xA) (fun s =>
        s.putSurf n (u.writeRect (u16 b 4) (u16 b 6) (u16 b 8) (u16 b 0xA) r.data))
    | none => s

/-- SURF_READBACK (R101). -/
def opSurfReadback : OpDef where
  code := 0x0104
  len := fixedLen 32
  slot := true
  pcie := true
  checks s p n m := chkTransfer s p n m.payload
  issue := State.startDma
  finish s n e r :=
    let b := e.body.payload
    match s.surf n (u16 b 0) with
    | some u =>
      let w := u16 b 8 * bpp u.format
      let rows := u.readRect (u16 b 4) (u16 b 6) (u16 b 8) (u16 b 0xA)
      s.endDma n e r none (w * u16 b 0xA) (fun s =>
        foldN (u16 b 0xA) (fun s k => s.hostWrite n (u64 b 0x10 + k * u32 b 0x0C) ((rows.drop (k * w)).take w)) s)
    | none => s

/-- SURF_WRITE (R102). -/
def opSurfWrite : OpDef where
  code := 0x0103
  len m := max 13 (12 + u32 m.payload 8)
  checks _ p n m :=
    let b := m.payload
    [resv b 2 2, ⟨10, u32 b 8 = 0 || 4052 < u32 b 8, 0x08⟩] ++ chkHandle p n (u16 b 0) 0 ++
    match p.surf n (u16 b 0) with
    | some u => [⟨11, u.bytes < u32 b 4 + u32 b 8, 0x04⟩]
    | none => []
  issue s n e :=
    let b := e.body.payload
    let s := match s.surf n (u16 b 0) with
      | some u => s.putSurf n (u.write (u32 b 4) ((b.drop 12).take (u32 b 8)))
      | none => s
    s.complete n e.seq S_DONE 0

/-- SURF_FILL (R103). -/
def opSurfFill : OpDef where
  code := 0x0105
  len := fixedLen 16
  slot := true
  checks s p n m :=
    let b := m.payload
    [resv b 2 2] ++ chkHandle p n (u16 b 0) 0 ++ chkRect p n (u16 b 0) b 4 8 ++
    (match p.surf n (u16 b 0) with
     | some u => [⟨10, 2 ^ (8 * bpp u.format) ≤ u32 b 0xC, 0x0C⟩]
     | none => []) ++ [⟨15, s.dmaFull n, fNONE⟩]
  issue := State.startDma
  finish s n e r :=
    let b := e.body.payload
    match s.surf n (u16 b 0) with
    | some u =>
      s.endDma n e r none 0 (fun s =>
        s.putSurf n (u.writeRect (u16 b 4) (u16 b 6) (u16 b 8) (u16 b 0xA)
          (List.replicate (u16 b 8 * u16 b 0xA) (leBytes (bpp u.format) (u32 b 0xC))).flatten))
    | none => s

/-- SURF_COPY (R104). -/
def opSurfCopy : OpDef where
  code := 0x0106
  len := fixedLen 16
  slot := true
  checks s p n m :=
    let b := m.payload
    let sx := u16 b 4; let sy := u16 b 6; let dx := u16 b 8; let dy := u16 b 0xA; let w := u16 b 0xC; let h := u16 b 0xE
    let overlap := sx < dx + w && dx < sx + w && sy < dy + h && dy < sy + h
    chkHandle p n (u16 b 0) 0 ++ chkHandle p n (u16 b 2) 2 ++ chkRect p n (u16 b 0) b 4 0xC ++
    (chkRect p n (u16 b 2) b 8 0xC).filter (fun c => c.step == 11) ++
    (match p.surf n (u16 b 0), p.surf n (u16 b 2) with
     | some u, some v => [⟨10, u.format != v.format, 0x02⟩, ⟨10, u.handle == v.handle && overlap, 0x02⟩]
     | _, _ => []) ++ [⟨15, s.dmaFull n, fNONE⟩]
  issue := State.startDma
  finish s n e r :=
    let b := e.body.payload
    match s.surf n (u16 b 0), s.surf n (u16 b 2) with
    | some u, some v =>
      s.endDma n e r none 0 (fun s =>
        s.putSurf n (v.writeRect (u16 b 8) (u16 b 0xA) (u16 b 0xC) (u16 b 0xE)
          (u.readRect (u16 b 4) (u16 b 6) (u16 b 0xC) (u16 b 0xE))))
    | _, _ => s

/-- Class 0x01. -/
def surfOps : List OpDef :=
  [opSurfCreate, opSurfFree, opSurfUpload, opSurfWrite, opSurfReadback, opSurfFill, opSurfCopy]

end Sys2Proof.Machine
end

