-- ==== Sys2Proof/Machine/Crucible.lean ====
section
/-! DEFINITION. The Crucible core: instruction words (R406-R409), registers and masks (R401, R408), the choice of the bundle
that issues (R378, R410), faults (R395, R396), and the access of a job to its surfaces (R386, R417). -/
namespace Sys2Proof.Machine

/-! ## Bundles -/

/-- Changes the cluster. -/
def State.modCru (s : State) (f : Cluster → Cluster) : State := { s with cru := f s.cru }
/-- Whether a bundle is the one at this place. -/
def Bundle.at_ (b : Bundle) (slice core slot : Nat) : Bool := b.slice == slice && b.core == core && b.slot == slot
/-- The bundle of a slot. -/
def State.bundle (s : State) (slice core slot : Nat) : Option Bundle := s.cru.bundles.find? (fun b => b.at_ slice core slot)
/-- Stores a bundle at its place. -/
def State.putBundle (s : State) (b : Bundle) : State :=
  s.modCru (fun c => { c with bundles := c.bundles.map (fun x => if x.at_ b.slice b.core b.slot then b else x) })
/-- The job of a slice and SEQ. -/
def State.job (s : State) (n : Nat) (seq : Word) : Option CruJob := s.cru.jobs.find? (fun j => j.slice == n && j.seq == seq)
/-- Changes a job. -/
def State.modJob (s : State) (n : Nat) (seq : Word) (f : CruJob → CruJob) : State :=
  s.modCru (fun c => { c with jobs := c.jobs.map (fun j => if j.slice == n && j.seq == seq then f j else j) })
/-- The strand of a lane of a bundle (R377). -/
def Bundle.strand (b : Bundle) (lane : Nat) : StrandId := ⟨b.core, b.slice, b.slot, lane⟩
/-- Whether a strand belongs to a bundle. -/
def Bundle.owns (b : Bundle) (t : StrandId) : Bool := t.core == b.core && t.slice == b.slice && t.bundle == b.slot

/-- The lanes of a mask, ascending. -/
def lanesOf (m : BitVec 16) : List Nat := (List.range 16).filter (fun i => m.getLsbD i)
/-- The lowest lane of a mask. -/
def lowLane (m : BitVec 16) : Nat := (lanesOf m).headD 0
/-- The mask of a list of lanes. -/
def laneMask (l : List Nat) : BitVec 16 := BitVec.ofNat 16 (maskOf l)

/-- Register `r` of a lane; a register never written reads 0 (R383). -/
def VRegs.get (v : VRegs) (r lane : Nat) : Word :=
  match v.find? (fun e => e.1 == 16 * r + lane) with
  | some e => e.2
  | none => 0
/-- Stores a register word. -/
def VRegs.put (v : VRegs) (r lane : Nat) (x : Word) : VRegs :=
  let k := 16 * r + lane
  v.filter (fun e => e.1 < k) ++ (if x = 0 then [] else [(k, x)]) ++ v.filter (fun e => k < e.1)
/-- Registers of a bundle. -/
def Bundle.r (b : Bundle) (reg lane : Nat) : Nat := (b.v.get reg lane).toNat
/-- Writes register `reg` in the lanes of a list. -/
def Bundle.w (b : Bundle) (reg : Nat) (lanes : List Nat) (f : Nat → Nat) : Bundle :=
  { b with v := lanes.foldl (fun v l => v.put reg l (BitVec.ofNat 32 (f l))) b.v }
/-- Predicate `k`. -/
def Bundle.pred (b : Bundle) (k : Nat) : BitVec 16 := b.p.getD k 0
/-- Stores predicate `k`. -/
def Bundle.setPred (b : Bundle) (k : Nat) (m : BitVec 16) : Bundle := { b with p := putAt b.p k m }

/-! ## Instruction words (R406) -/

/-- The fields of an instruction word. -/
structure Ins where
  cls : Nat
  opc : Nat
  form : Bool
  pe : Bool
  pg : Nat
  pn : Bool
  d : Nat
  a : Nat
  b : Nat
  c : Nat
  md : Nat
  imm : Nat
  /-- A bit that the form reserves is 1. -/
  rsv : Bool
  deriving DecidableEq, Repr

/-- Splits a word. -/
def Ins.dec (w : Nat) : Ins :=
  let i := w.testBit 10
  { cls := bits w 0 4, opc := bits w 4 6, form := i, pe := w.testBit 11, pg := bits w 12 2, pn := w.testBit 14,
    d := bits w 16 7, a := bits w 23 7,
    b := if i then 0 else bits w 32 7, c := if i then 0 else bits w 40 7, md := if i then 0 else bits w 48 16,
    imm := if i then bits w 32 32 else 0,
    rsv := w.testBit 15 || bits w 30 2 != 0 || (!i && (w.testBit 39 || w.testBit 47)) }

/-- The word of an instruction: the fields of R406 at their places. -/
def Ins.enc (i : Ins) : Nat :=
  i.cls + i.opc * 2 ^ 4 + b2n i.form * 2 ^ 10 + b2n i.pe * 2 ^ 11 + i.pg * 2 ^ 12 + b2n i.pn * 2 ^ 14 + i.d * 2 ^ 16 +
  i.a * 2 ^ 23 + (if i.form then i.imm * 2 ^ 32 else i.b * 2 ^ 32 + i.c * 2 ^ 40 + i.md * 2 ^ 48)

/-- The fields fit their places, those of the other form are 0, and no reserved bit is set (R406). -/
def Ins.wf (i : Ins) : Bool :=
  decide (i.cls < 16) && decide (i.opc < 64) && decide (i.pg < 4) && decide (i.d < 128) && decide (i.a < 128) && !i.rsv &&
  (if i.form then i.b == 0 && i.c == 0 && i.md == 0 && decide (i.imm < 2 ^ 32)
   else decide (i.b < 128) && decide (i.c < 128) && decide (i.md < 2 ^ 16) && i.imm == 0)

/-- The opcodes of a class that are defined (R407). -/
def opcodes (cls : Nat) : Nat :=
  match cls with
  | 0 => 7 | 1 => 9 | 2 => 25 | 3 => 16 | 4 => 8 | 5 => 6 | 6 => 3 | 7 => 13 | 8 => 13 | 9 => 2 | 10 => 3 | 11 => 1
  | _ => 0

/-- How an instruction uses its fields: the forms it has, how many consecutive registers its D, A, B and C fields name (0 for
a field that must be 0; D may be a field of its own), whether it obeys the guard, whether D is also read, and the
restrictions on its fields. -/
structure Shape where
  r : Bool := true
  i : Bool := false
  d : Nat := 1
  dField : Bool := false
  a : Nat := 0
  b : Nat := 0
  c : Nat := 0
  aField : Bool := false
  bField : Bool := false
  cField : Bool := false
  guard : Bool := true
  dRead : Bool := false
  ok : Ins → Bool := fun i => i.md == 0

/-- The checks of R409 that the encoding alone decides. -/
def Shape.valid (h : Shape) (i : Ins) (nregs : Nat) : Bool :=
  let fld := fun (isField : Bool) (count v : Nat) => isField || (if count = 0 then v == 0 else decide (v + count ≤ nregs))
  !i.rsv && (if i.form then h.i else h.r) && (h.guard || !i.pe) &&
  fld h.dField h.d i.d && fld h.aField h.a i.a && (i.form || (fld h.bField h.b i.b && fld h.cField h.c i.c)) && h.ok i

/-- The registers an instruction reads and those it writes. -/
def Shape.touches (h : Shape) (i : Ins) : List (Nat × Nat) :=
  [(i.d, h.d), (i.a, h.a)] ++ (if i.form then [] else [(i.b, h.b), (i.c, h.c)])

/-- Whether two ranges of registers meet. -/
def rangesMeet (a n b m : Nat) : Bool := a < b + m && b < a + n && 0 < n && 0 < m

/-- The active lanes (R408). -/
def Ins.lanes (i : Ins) (b : Bundle) : BitVec 16 :=
  if !i.pe then b.exec else if i.pn then b.exec &&& ~~~(b.pred i.pg) else b.exec &&& b.pred i.pg

/-- Operand A of a lane. -/
def Ins.opA (i : Ins) (b : Bundle) (l : Nat) : Nat := b.r i.a l
/-- Operand B: the register, or IMM. -/
def Ins.opB (i : Ins) (b : Bundle) (l : Nat) : Nat := if i.form then i.imm else b.r i.b l
/-- Operand C. -/
def Ins.opC (i : Ins) (b : Bundle) (l : Nat) : Nat := b.r i.c l

/-! ## The surfaces of a job -/

/-- The handle that a job's payload names at surface selector `k` (R417); 0 for none. -/
def CruJob.handle (j : CruJob) (k : Nat) : Nat :=
  match j.ras with
  | some _ => if k = 0 then u16 j.pl 0 else if 4 ≤ k && k ≤ 6 then u16 j.pl (0x16 + 2 * (k - 4)) else 0
  | none => if k = 0 then u16 j.pl 0 else if k = 1 then u16 j.pl 2 else if 4 ≤ k then u16 j.pl (0x18 + 2 * (k - 4)) else 0

/-- A job may write the surface of selector `k`. -/
def CruJob.writable (j : CruJob) (k : Nat) : Bool := j.ras.isNone && 4 ≤ k

/-- The surface of selector `k` of a job. -/
def State.jobSurf (s : State) (j : CruJob) (k : Nat) : Option Surface := if j.handle k = 0 then none else s.surf j.slice (j.handle k)

/-- A read of at most 8 bytes by the cluster: what the surface holds, or what the slice's cache window still holds (R386). -/
def State.cluRead (s : State) (n : Nat) (u : Surface) (off len : Nat) : List Byte × State :=
  let olds := s.cru.old.filter (fun o => o.slice == n && o.surf.handle == u.handle)
  if olds.isEmpty then (u.read off len, s)
  else
    let (k, s) := s.draw
    ((((u :: olds.map (·.surf)).getD (Config.cachePick k % (olds.length + 1)) u).read off len), s)

/-- A write by the cluster updates the cache window and DRAM (R386). -/
def State.cluWrite (s : State) (n h off : Nat) (bs : List Byte) : State :=
  let s := s.modSlice n (fun x => match x.surf h with
    | some u => x.putSurf (u.write off bs)
    | none => x)
  s.modCru (fun c => { c with old := c.old.map (fun o =>
    if o.slice == n && o.surf.handle == h then { o with surf := o.surf.write off bs } else o) })

/-- The code surface of a bundle: CODE or CMDBUF. -/
def State.codeSurf (s : State) (b : Bundle) : Option Surface := (s.job b.slice b.seq).bind (fun j => s.jobSurf j 0)

/-! ## Ends of jobs -/

/-- A job's bundles, scratch and outstanding returns are discarded, and the locks of its strands freed (R396, R424). -/
def State.dropBundles (s : State) (n : Nat) (seq : Word) : State :=
  let mine := s.cru.bundles.filter (fun b => b.slice == n && b.seq == seq)
  let s := s.forceStrands (fun t => mine.any (fun b => b.owns t))
  s.modCru (fun c => { c with
    bundles := c.bundles.filter (fun b => !(b.slice == n && b.seq == seq))
    wgs := c.wgs.filter (fun g => !(g.slice == n && g.seq == seq)) })

/-- A job ends: it uses the present quantum if its slice owns it (R393). -/
def State.endJob (s : State) (n : Nat) (seq : Word) (status value : Nat) : State :=
  let s := s.dropBundles n seq
  let s := s.modCru (fun c => { c with
    jobs := c.jobs.filter (fun j => !(j.slice == n && j.seq == seq))
    used := c.used || c.turn == n })
  s.complete n seq status value

/-- A job ends with a status for which no VALUE is stated. -/
def State.endJobOpen (s : State) (n : Nat) (seq : Word) (status : Nat) : State :=
  s.draw.2.endJob n seq status (Config.slotValue s.draw.1).toNat

/-- Writes tile `t` of a target's cached content into its surface. -/
def writeTile (u : Surface) (cache : Mem) (t : Nat) : Surface :=
  let x0 := t % 1024 * 16; let y0 := t / 1024 * 16
  let w := min 16 (u.width - x0)
  foldN (min 16 (u.height - y0)) (fun u k =>
    let off := (y0 + k) * u.stride + x0 * bpp u.format
    u.write off (cache.read u.seed off (w * bpp u.format))) u

/-- Writes a value into every pixel of tile `t`. -/
def fillTile (u : Surface) (v : Word) (t : Nat) : Surface :=
  let x0 := t % 1024 * 16; let y0 := t / 1024 * 16
  let w := min 16 (u.width - x0)
  foldN (min 16 (u.height - y0)) (fun u k =>
    u.write ((y0 + k) * u.stride + x0 * bpp u.format) (List.replicate w (leBytes (bpp u.format) v.toNat)).flatten) u

/-- Every cached and flagged tile of a job reaches DRAM (R349, R370). -/
def State.flushTargets (s : State) (n : Nat) (r : RasterSt) : State :=
  r.targets.foldl (fun s t =>
    match s.surf n t.handle with
    | some u =>
      let u := t.touched.foldl (fun u k => writeTile u t.cache k) u
      let u := t.flags.foldl (fun u k => fillTile u t.value k) u
      s.modSlice n (fun x => x.putSurf u)
    | none => s) s

/-- The fault record of R395. -/
def faultRecord (code source core lane shader off : Nat) : Nat :=
  let core := if source = 0 || source = 2 then core else 0
  let lane := if source = 0 || source = 2 then lane else 0
  code + source * 2 ^ 8 + core * 2 ^ 10 + lane * 2 ^ 16 + shader * 2 ^ 20 + off % 2 ^ 32 * 2 ^ 32

/-- A fault ends the whole job (R395, R396): a raster job's caches and flags are discarded (R373). -/
def State.faultJob (s : State) (n : Nat) (seq : Word) (rec : Nat) : State := s.endJob n seq E_JOB_FAULT rec

/-- A fault of a bundle at its PC. -/
def State.cruFault (s : State) (b : Bundle) (code source lane : Nat) : State :=
  s.faultJob b.slice b.seq (faultRecord code source b.core lane b.kind b.pc.toNat)

/-! ## Issue -/

/-- The cluster runs: in RUN, outside an entry and outside a warm reset (R662, R667). -/
def State.cruRuns (s : State) : Bool := s.served && s.power.st = 0 && s.power.step = 0 && s.boot.warmStep = 0

/-- The 8 bytes at a bundle's PC, or none where R409 makes the fetch fault with code 0x11. -/
def State.fetchIns (s : State) (b : Bundle) : Option Nat :=
  match s.codeSurf b with
  | some u => if b.pc.toNat % 8 = 0 && b.pc.toNat + 8 ≤ u.bytes then some (leNat (u.read b.pc.toNat 8)) else none
  | none => none

/-- A bundle's wait for a barrier or a lock is over (R378, R424). -/
def State.canGo (s : State) (b : Bundle) : Bool :=
  match b.st with
  | .ready => true
  | .lock k l => (s.lock k).holder = .strand (b.strand l)
  | _ => false

end Sys2Proof.Machine
end

