-- ==== Sys2Proof/Machine/CruExec.lean ====
section
/-! DEFINITION. How a Crucible core issues one instruction: the shape of every opcode (R407-R425), the ready bundle that
issued least recently (R378), the encoding checks (R409), and the common forms of the vector, compare and packed classes. -/
namespace Sys2Proof.Machine

/-! ## Shapes -/

/-- COND is 0-5 and the bits above PD and COND are 0, but for U of ISETP (R411). -/
def cmpOk (allowU : Bool) (i : Ins) : Bool :=
  bits i.d 2 3 < 6 && bits i.d 6 1 == 0 && (allowU || bits i.d 5 1 == 0)

/-- Shapes of the system class. -/
def shapeSys (opc : Nat) : Shape :=
  match opc with
  | 0 => { d := 0, guard := false }
  | 1 => { r := false, i := true, d := 0, guard := false, ok := fun i => i.imm < 2 ^ 16 }
  | 5 => { r := false, i := true, guard := false, ok := fun i => i.imm < 0x18 }
  | 6 => { r := false, i := true, d := 0, guard := false, ok := fun i => i.imm < 2 }
  | _ => { d := 0 }

/-- Shapes of the mask and lane class. -/
def shapeMask (opc : Nat) : Shape :=
  match opc with
  | 0 => { dField := true, aField := true, bField := true, cField := true, guard := false,
           ok := fun i => i.d < 4 && i.a < 4 && i.b < 4 && i.c < 4 && i.md < 256 }
  | 1 => { guard := false }
  | 2 => { d := 0, a := 1, guard := false }
  | 3 => { d := 0, aField := true, guard := false, ok := fun i => i.a < 8 && i.md == 0 }
  | 4 => { d := 0, guard := false }
  | 5 => { aField := true, guard := false, ok := fun i => i.a < 4 && i.md == 0 }
  | 6 => { dField := true, a := 1, guard := false, ok := fun i => i.d < 4 && i.md == 0 }
  | 7 => { i := true, a := 1, b := 1, guard := false, ok := fun i => i.imm < 16 && i.md == 0 }
  | _ => { r := false, i := true, a := 1, guard := false, ok := fun i => i.imm < 16 }

/-- Shapes of the vector integer class. -/
def shapeInt (opc : Nat) : Shape :=
  match opc with
  | 0x00 => { i := true, b := 1 }
  | 0x06 => { a := 1, b := 1, c := 1 }
  | 0x12 => { i := true, dField := true, a := 1, b := 1, ok := fun i => cmpOk true i && i.md == 0 }
  | 0x13 => { a := 1, b := 1, cField := true, ok := fun i => i.c < 4 && i.md == 0 }
  | 0x14 => { i := true, a := 1, b := 1, ok := fun i => i.md < 2 }
  | 0x15 => { a := 1, b := 1, c := 1 }
  | 0x16 | 0x17 | 0x18 => { a := 1 }
  | _ => { i := true, a := 1, b := 1 }

/-- Shapes of the FP32 class. -/
def shapeF32 (opc : Nat) : Shape :=
  let m := fun (i : Ins) => decide (i.md < 128)
  match opc with
  | 3 => { a := 1, b := 1, c := 1, ok := m }
  | 6 => { i := true, dField := true, a := 1, b := 1, ok := fun i => cmpOk false i && m i }
  | 0 | 1 | 2 | 4 | 5 | 7 => { i := true, a := 1, b := 1, ok := m }
  | _ => { a := 1, ok := m }

/-- Shapes of the packed FP16 class. -/
def shapeF16 (opc : Nat) : Shape :=
  let m := fun (i : Ins) => decide (i.md < 512)
  match opc with
  | 3 | 7 => { a := 1, b := 1, c := 1, ok := m }
  | 6 => { i := true, dField := true, a := 1, b := 1, ok := fun i => cmpOk false i && m i }
  | _ => { i := true, a := 1, b := 1, ok := m }

/-- Shapes of the conversion class. -/
def shapeConv (opc : Nat) : Shape :=
  match opc with
  | 0 => { a := 1, ok := fun i => i.md < 8 }
  | 1 => { a := 1, ok := fun i => i.md == 0 || i.md == 4 }
  | 2 => { a := 1, dRead := true, ok := fun i => i.md == 0 || i.md == 8 }
  | 3 => { a := 1, ok := fun i => i.md == 0 || i.md == 8 }
  | _ => { a := 1, ok := fun i => i.md % 16 == 0 && i.md < 256 }

/-- Shapes of the branch class. -/
def shapeBranch (opc : Nat) : Shape :=
  match opc with
  | 0 => { r := false, i := true, dField := true, guard := false, ok := fun i => i.d < 32 && i.imm % 8 == 0 }
  | 1 => { r := false, i := true, guard := false, ok := fun i => i.imm % 8 == 0 }
  | _ => { d := 0, a := 1, guard := false }

/-- SIZE of a memory access. -/
def Ins.size (i : Ins) : Nat := bits i.c 3 3
/-- SURF. -/
def Ins.surf (i : Ins) : Nat := bits i.c 0 3
/-- Bytes of a SIZE code. -/
def sizeBytes (sz : Nat) : Nat := if sz < 2 then 1 else if sz < 4 then 2 else if sz = 4 then 4 else if sz = 5 then 8 else 16
/-- Registers of a SIZE code. -/
def sizeRegs (sz : Nat) : Nat := if sz < 5 then 1 else if sz = 5 then 2 else 4

/-- Shapes of the memory classes (R417, R418). -/
def shapeMem (scratch : Bool) (i : Ins) : Shape :=
  let c := fun (sizes : List Nat) (i : Ins) => !i.c.testBit 6 && sizes.contains i.size && (!scratch || i.surf == 0)
  match i.opc with
  | 0 => { d := sizeRegs i.size, a := 1, cField := true, ok := c [0, 1, 2, 3, 4, 5, 6] }
  | 1 => { d := 0, a := 1, b := sizeRegs i.size, cField := true, ok := c [0, 2, 4, 5, 6] }
  | 0x0B => { a := 1, b := 2, cField := true, ok := c [4] }
  | _ => { a := 1, b := 1, cField := true, ok := c [4] }

/-- Shapes of the lock class (R423). -/
def shapeLock (i : Ins) : Shape :=
  { i := true, d := 0, dField := i.opc == 1, a := if i.form then 0 else 1,
    ok := fun i => (i.opc != 1 || i.d < 4) && i.imm < 64 && i.md == 0 }

/-- The shape of an instruction of a defined opcode. -/
def shapeOf (i : Ins) : Shape :=
  match i.cls with
  | 0 => shapeSys i.opc
  | 1 => shapeMask i.opc
  | 2 => shapeInt i.opc
  | 3 => shapeF32 i.opc
  | 4 => shapeF16 i.opc
  | 5 => shapeConv i.opc
  | 6 => shapeBranch i.opc
  | 7 => shapeMem true i
  | 8 => shapeMem false i
  | 9 => { i := true, d := 4, a := 2, c := 1 }
  | 10 => shapeLock i
  | _ => { d := 0, guard := false }

/-- An instruction of a defined class and opcode. -/
def Ins.defined (i : Ins) : Bool := decide (i.opc < opcodes i.cls)

/-! ## Readiness and choice -/

/-- Registers that a shading lane's exit reads (R404): the range from V0. -/
def State.exitReads (s : State) (b : Bundle) : Nat :=
  match (s.job b.slice b.seq).bind (·.ras) with
  | some r => match r.sh with
    | some h => if b.kind = 1 then 4 + h.vary else if h.flags.testBit 0 then 17 else 16
    | none => 0
  | none => 0

/-- The next instruction waits for an outstanding return (R410): it reads or writes a register still to be written, or it is
a FENCE or BAR and an earlier access is outstanding (R420). -/
def State.memWait (s : State) (b : Bundle) : Bool :=
  if b.pend.isEmpty then false else
  match s.fetchIns b with
  | none => false
  | some w =>
    let i := Ins.dec w
    if !i.defined || !(shapeOf i).valid i b.regs then false
    else if (i.cls == 0 && i.opc == 6) || i.cls == 11 then true
    else
      let regs := if i.cls == 0 && i.opc == 2 then [(0, s.exitReads b)] else (shapeOf i).touches i
      b.pend.any (fun p => regs.any (fun x => rangesMeet p.reg p.count x.1 x.2))

/-- A bundle is ready (R378). -/
def State.isReady (s : State) (b : Bundle) : Bool := s.canGo b && !s.memWait b

/-- Of the slice that owns the quantum, the ready bundle of a core that issued least recently, the lower slot on a tie
(R378). A failed core issues nothing. -/
def State.pick (s : State) (core : Nat) : Option Bundle :=
  if !s.cruRuns || s.cru.failed.getLsbD core then none else
  (s.cru.bundles.filter (fun b => b.slice == s.cru.turn && b.core == core && s.isReady b)).foldl (fun acc b =>
    match acc with
    | none => some b
    | some a => if b.issued < a.issued || (b.issued == a.issued && b.slot < a.slot) then some b else some a) none

/-- A core issues the next instruction of its chosen bundle, if it is the one named. A PC outside the code and an undefined
opcode fault whatever is named (R409). -/
def State.cruIssue (s : State) (core cls opc : Nat) (f : Ins → Bundle → State → State) : State :=
  match s.pick core with
  | none => s
  | some b =>
    match s.fetchIns b with
    | none => s.cruFault b 0x11 0 (lowLane b.live)
    | some w =>
      let i := Ins.dec w
      if !i.defined then s.cruFault b 0x10 0 (lowLane b.live)
      else if i.cls ≠ cls || i.opc ≠ opc then s
      else if !(shapeOf i).valid i b.regs then s.cruFault b 0x10 0 (lowLane b.live)
      else
        f i { b with st := .ready, issued := s.cru.issues + 1 } (s.modCru (fun c => { c with issues := c.issues + 1 }))

/-- The bundle goes on at the next instruction. -/
def State.goOn (s : State) (b : Bundle) : State := s.putBundle { b with pc := b.pc + 8 }

/-! ## The vector classes -/

/-- A vector instruction: D takes the value of each active lane; all sources are read first (R408). `bad` holds in a lane
whose operands make the instruction fault with code 0x10. -/
def State.cruVec (s : State) (core : Fin 48) (cls opc : Nat) (f : Ins → Bundle → Nat → Nat)
    (bad : Ins → Bundle → Nat → Bool := fun _ _ _ => false) : State :=
  s.cruIssue core cls opc (fun i b s =>
    match (lanesOf (i.lanes b)).find? (fun l => bad i b l) with
    | some l => s.cruFault b 0x10 0 l
    | none => s.goOn (b.w i.d (lanesOf (i.lanes b)) (f i b)))

/-- A vector instruction of two operands. -/
def State.cruBin (s : State) (core : Fin 48) (cls opc : Nat) (f : Nat → Nat → Nat) : State :=
  s.cruVec core cls opc (fun i b l => f (i.opA b l) (i.opB b l))

/-- The active lanes of `m` take their bits from `f`; the others keep them (R411). -/
def mergeMask (old lanes : BitVec 16) (f : Nat → Bool) : BitVec 16 :=
  (old &&& ~~~lanes) ||| (laneMask ((List.range 16).filter f) &&& lanes)

/-- Whether COND holds of an order; `none` for a NaN operand (R411). -/
def condHolds (cond : Nat) (c : Option Int) : Bool :=
  match c with
  | none => cond == 1
  | some c =>
    match cond with
    | 0 => c == 0
    | 1 => c != 0
    | 2 => decide (c < 0)
    | 3 => decide (c ≤ 0)
    | 4 => decide (0 < c)
    | _ => decide (0 ≤ c)

/-- PD of a compare. -/
def Ins.pd (i : Ins) : Nat := bits i.d 0 2
/-- COND. -/
def Ins.cond (i : Ins) : Nat := bits i.d 2 3

/-! ## Floating point operands (R413, R414) -/

/-- Absolute value, then negation, of a code of `w` bits under two modifier bits. -/
def signMods (w md lo x : Nat) : Nat :=
  let x := if md.testBit (lo + 1) then x % 2 ^ (w - 1) else x
  if md.testBit lo then x ^^^ 2 ^ (w - 1) else x

/-- The result under SAT: clamped to [0.0, 1.0], NaN to +0.0. -/
def satMod (f : Fmt) (md x : Nat) : Nat :=
  if md.testBit 6 then
    match f.dec x with
    | .nan => 0
    | v => f.enc (FV.minMax false (FV.minMax true v (.fin false 0 0)) (.fin false 1 0))
  else x

/-- FP32 operand A of a lane. -/
def Ins.fA (i : Ins) (b : Bundle) (l : Nat) : FV := f32.dec (signMods 32 i.md 0 (i.opA b l))
/-- FP32 operand B. -/
def Ins.fB (i : Ins) (b : Bundle) (l : Nat) : FV := f32.dec (signMods 32 i.md 2 (i.opB b l))
/-- FP32 operand C. -/
def Ins.fC (i : Ins) (b : Bundle) (l : Nat) : FV := f32.dec (signMods 32 i.md 4 (i.opC b l))

/-- An FP32 instruction: the result of the exact operands as a code, then SAT. -/
def State.cruFp (s : State) (core : Fin 48) (opc : Nat) (f : FV → FV → FV → Nat) : State :=
  s.cruVec core 3 opc (fun i b l => satMod f32 i.md (f (i.fA b l) (i.fB b l) (i.fC b l)))

/-- Half `hi` of a word. -/
def half (hi : Bool) (x : Nat) : Nat := bits x (if hi then 16 else 0) 16
/-- Packed operand A. -/
def Ins.hA (i : Ins) (b : Bundle) (l : Nat) (hi : Bool) : FV := f16.dec (signMods 16 i.md 0 (half hi (i.opA b l)))
/-- Packed operand B: MOD[7] swaps its halves, MOD[8] takes its low half twice. -/
def Ins.hB (i : Ins) (b : Bundle) (l : Nat) (hi : Bool) : FV :=
  let x := i.opB b l
  let sw := i.md.testBit 7
  let y := if i.md.testBit 8 then half sw x else half (hi != sw) x
  f16.dec (signMods 16 i.md 2 y)
/-- Packed operand C. -/
def Ins.hC (i : Ins) (b : Bundle) (l : Nat) (hi : Bool) : FV := f16.dec (signMods 16 i.md 4 (half hi (i.opC b l)))

/-- A packed FP16 instruction: both halves alike. -/
def State.cruHalf (s : State) (core : Fin 48) (opc : Nat) (f : FV → FV → FV → Nat) : State :=
  s.cruVec core 4 opc (fun i b l =>
    let h := fun hi => satMod f16 i.md (f (i.hA b l hi) (i.hB b l hi) (i.hC b l hi))
    h false + h true * 2 ^ 16)

end Sys2Proof.Machine
end

