-- ==== Sys2Proof/Machine/RasterMath.lean ====
section
/-! DEFINITION. The arithmetic of the raster pipeline: assembly, clipping, viewport, coverage and interpolation (R354-R360),
depth and stencil tests (R361, R362), colour conversion, blending and packing (R364-R367). FP32 values are their codes. -/
namespace Sys2Proof.Machine

/-! ## Primitives (R354) -/

/-- Triangles of a draw. -/
def triCount (topo count : Nat) : Nat := if topo = 0 then count / 3 else count - 2

/-- The entries that triangle `k` takes. -/
def triEntries (topo k : Nat) : List Nat :=
  if topo = 0 then [3 * k, 3 * k + 1, 3 * k + 2]
  else if topo = 1 then (if k % 2 = 0 then [k, k + 1, k + 2] else [k + 1, k, k + 2])
  else [0, k + 1, k + 2]

/-! ## Clipping (R355) -/

/-- A clip-space vertex: x, y, z, w and varyings. -/
abbrev Vert := List Nat

/-- Guard band exponent: the smallest k with 2^k × size ≥ 32768. -/
def guardExp (size : Nat) : Nat := (firstIdx 16 (fun k => 32768 ≤ 2 ^ k * size)).getD 15

/-- ±(2^k × w) + x with one rounding. -/
def guardDist (k : Nat) (x w : FV) : Nat := f32.enc (x.add (w.mul (.fin false 1 k)))

/-- The distances of R355 in their order. -/
def planes (clampZ : Bool) (vp : Rect) : List (Vert → Nat) :=
  let c := fun (v : Vert) (i : Nat) => v.getD i 0
  let f := fun (v : Vert) (i : Nat) => f32.dec (c v i)
  let gx := guardExp vp.w; let gy := guardExp vp.h
  [fun v => fsub (c v 3) 0x35800000, fun v => c v 2] ++ (if clampZ then [] else [fun v => fsub (c v 3) (c v 2)]) ++
  [fun v => guardDist gx (f v 0) (f v 3), fun v => guardDist gx (f v 0).neg (f v 3),
   fun v => guardDist gy (f v 1) (f v 3), fun v => guardDist gy (f v 1).neg (f v 3)]

/-- A distance not below 0; a NaN is. -/
def notBelow (d : Nat) : Bool := !(f32.dec d == .nan) && !flt d 0

/-- The vertex where an edge meets a plane. -/
def clipEdge (d : Vert → Nat) (a b : Vert) : Vert :=
  let inA := notBelow (d a)
  let i := if inA then a else b
  let o := if inA then b else a
  let t := fdiv (d i) (fsub (d i) (d o))
  i.zipWith (fun x y => fadd x (fmul t (fsub y x))) o

/-- One plane. -/
def clipPlane (d : Vert → Nat) (poly : List Vert) : List Vert :=
  if poly.all (fun v => notBelow (d v)) then poly
  else
    let out := (poly.zip (poly.drop 1 ++ poly.take 1)).flatMap (fun e =>
      (if notBelow (d e.1) then [e.1] else []) ++
      (if notBelow (d e.1) != notBelow (d e.2) then [clipEdge d e.1 e.2] else []))
    if out.length < 3 then [] else out

/-- A triangle clipped against every plane; empty when it is discarded. -/
def clipTri (clampZ : Bool) (vp : Rect) (t : List Vert) : List Vert :=
  (planes clampZ vp).foldl (fun p d => clipPlane d p) t

/-- The fan of a polygon. -/
def fanOf (p : List Vert) : List (List Vert) :=
  match p with
  | a :: r => (r.zip (r.drop 1)).map (fun e => [a, e.1, e.2])
  | [] => []

/-! ## Screen space (R356) -/

/-- A vertex on the screen: position in 1/256 pixel, depth, w, varyings. -/
structure SVert where
  x : Int
  y : Int
  z : Nat
  w : Nat
  vary : List Nat
  deriving DecidableEq, Repr

/-- A size or half size in FP32, exact. -/
def halfF (n : Nat) : Nat := f32.round false n 2 0

/-- Snap to 1/256 pixel. -/
def snap (v : Nat) : Int := sgn 32 (f2i .near false (fmul v 0x43800000))

/-- To screen space. -/
def toScreen (clampZ : Bool) (vp : Rect) (v : Vert) : SVert :=
  let c := fun i => v.getD i 0
  let xn := fdiv (c 0) (c 3); let yn := fdiv (c 1) (c 3); let zn := fdiv (c 2) (c 3)
  let xs := fadd (fmul xn (halfF vp.w)) (halfF (2 * vp.x + vp.w))
  let ys := fsub (halfF (2 * vp.y + vp.h)) (fmul yn (halfF vp.h))
  ⟨snap xs, snap ys, if clampZ then fclamp 0 fOne zn else zn, c 3, v.drop 4⟩

/-! ## Orientation and coverage (R357, R358) -/

/-- The edge function from a to b at a point. -/
def edge (a b : SVert) (x y : Int) : Int := (b.x - a.x) * (y - a.y) - (b.y - a.y) * (x - a.x)

/-- A triangle that culling keeps, in the order of the later steps, with its positive A. -/
def orient (cull front : Nat) (v0 v1 v2 : SVert) : Option (SVert × SVert × SVert × Int) :=
  let a := edge v0 v1 v2.x v2.y
  if a = 0 then none
  else
    let isFront := (0 < a && front == 0) || (a < 0 && front == 1)
    if (cull == 1 && !isFront) || (cull == 2 && isFront) then none
    else if a < 0 then some (v0, v2, v1, -a) else some (v0, v1, v2, a)

/-- Whether an edge's value covers a sample: inside, or on a top or left edge. -/
def edgeIn (a b : SVert) (e : Int) : Bool := 0 < e || (e == 0 && ((b.y == a.y && a.x < b.x) || b.y < a.y))

/-- Intersection of rectangles given by corners x0, y0, x1, y1 (exclusive). -/
def Rect.meet (a b : Rect) : Rect :=
  let x0 := max a.x b.x; let y0 := max a.y b.y
  ⟨x0, y0, min (a.x + a.w) (b.x + b.w) - x0, min (a.y + a.h) (b.y + b.h) - y0⟩
/-- Whether a pixel lies in a rectangle. -/
def Rect.has (r : Rect) (x y : Nat) : Bool := r.x ≤ x && x < r.x + r.w && r.y ≤ y && y < r.y + r.h

/-- A fragment of a triangle at pixel (x, y) (R358, R360); `live` when the sample is covered inside `area`. -/
def fragAt (clampZ : Bool) (area : Rect) (t : SVert × SVert × SVert × Int) (x y : Nat) : Frag :=
  let (v0, v1, v2, a) := t
  let px : Int := 256 * x + 128; let py : Int := 256 * y + 128
  let e0 := edge v1 v2 px py; let e1 := edge v2 v0 px py; let e2 := edge v0 v1 px py
  let live := area.has x y && edgeIn v1 v2 e0 && edgeIn v2 v0 e1 && edgeIn v0 v1 e2
  let q0 := fmul (fOfInt e0) (fdiv fOne v0.w)
  let q1 := fmul (fOfInt e1) (fdiv fOne v1.w)
  let q2 := fmul (fOfInt e2) (fdiv fOne v2.w)
  let s := fadd (fadd q0 q1) q2
  let b0 := fdiv q0 s; let b1 := fdiv q1 s; let b2 := fdiv q2 s
  let vary := (List.range v0.vary.length).map (fun k =>
    fadd (fadd (fmul (v0.vary.getD k 0) b0) (fmul (v1.vary.getD k 0) b1)) (fmul (v2.vary.getD k 0) b2))
  let fa := fOfInt a
  let z := fadd (fadd (fmul v0.z (fdiv (fOfInt e0) fa)) (fmul v1.z (fdiv (fOfInt e1) fa))) (fmul v2.z (fdiv (fOfInt e2) fa))
  ⟨x, y, live, if clampZ then fclamp 0 fOne z else z, vary⟩

/-- The tiles of a rectangle in raster order (R359). -/
def tilesOf (r : Rect) : List Nat :=
  if r.w = 0 || r.h = 0 then [] else
  (List.range ((r.y + r.h - 1) / 16 - r.y / 16 + 1)).flatMap (fun j =>
    (List.range ((r.x + r.w - 1) / 16 - r.x / 16 + 1)).map (fun i => 1024 * (r.y / 16 + j) + r.x / 16 + i))

/-- The pixels that a triangle can cover. -/
def triBox (t : SVert × SVert × SVert × Int) : Rect :=
  let lo := fun (a b c : Int) => ((min a (min b c)).fdiv 256).toNat
  let hi := fun (a b c : Int) => ((max a (max b c)).fdiv 256 + 1).toNat
  let x0 := lo t.1.x t.2.1.x t.2.2.1.x; let y0 := lo t.1.y t.2.1.y t.2.2.1.y
  ⟨x0, y0, hi t.1.x t.2.1.x t.2.2.1.x - x0, hi t.1.y t.2.1.y t.2.2.1.y - y0⟩

/-- The 2 × 2 quads of a tile that hold a covered pixel of the triangle, in raster order (R359). -/
def tileQuads (clampZ : Bool) (area : Rect) (t : SVert × SVert × SVert × Int) (k : Nat) : List (List Frag) :=
  (List.range 64).filterMap (fun q =>
    let x := k % 1024 * 16 + 2 * (q % 8); let y := k / 1024 * 16 + 2 * (q / 8)
    let f := [fragAt clampZ area t x y, fragAt clampZ area t (x + 1) y, fragAt clampZ area t x (y + 1),
      fragAt clampZ area t (x + 1) (y + 1)]
    if f.any Frag.live then some f else none)

/-- The quads of a clipped triangle's fan, by tile. -/
def primQuads (clampZ : Bool) (area : Rect) (ts : List (SVert × SVert × SVert × Int)) : List (Nat × List (List Frag)) :=
  let box := fun t => area.meet (triBox t)
  let tiles := (ts.flatMap (fun t => tilesOf (box t))).eraseDups
  (sortBy id tiles).map (fun k =>
    (k, (ts.filter (fun t => (tilesOf (box t)).contains k)).flatMap (fun t => tileQuads clampZ area t k)))

/-- Cuts a list into runs of four. -/
def runsOf4 {α : Type} : Nat → List α → List (List α)
  | 0, _ => []
  | n + 1, l => if l.isEmpty then [] else l.take 4 :: runsOf4 n (l.drop 4)

/-! ## Depth and stencil (R361, R362) -/

/-- FUNC of two values by their order. -/
def funcHolds (f : Nat) (c : Option Int) : Bool :=
  match f with
  | 0 => false
  | 1 => condHolds' 2 c
  | 2 => condHolds' 0 c
  | 3 => condHolds' 3 c
  | 4 => condHolds' 4 c
  | 5 => condHolds' 1 c
  | 6 => condHolds' 5 c
  | _ => true
where
  /-- 0 EQ, 1 NE, 2 LT, 3 LE, 4 GT, 5 GE; with a NaN only NE holds. -/
  condHolds' (k : Nat) (c : Option Int) : Bool :=
    match c with
    | none => k == 1
    | some c => if k = 0 then c == 0 else if k = 1 then c != 0 else if k = 2 then c < 0 else if k = 3 then c ≤ 0
      else if k = 4 then 0 < c else 0 ≤ c

/-- A stencil op. -/
def stencilOp (op ref s : Nat) : Nat :=
  match op with
  | 0 => s
  | 1 => 0
  | 2 => ref
  | 3 => min 255 (s + 1)
  | 4 => s - 1
  | 5 => 255 - s
  | 6 => (s + 1) % 256
  | _ => (s + 255) % 256

/-- The depth of a fragment as it is compared and stored: 24 bits for D24S8, else an FP32 code (R361). -/
def depthCode (fmt z : Nat) : Nat := if fmt = 0x10 then f2un 24 z else fclamp 0 fOne (if f32.dec z = .nan then 0 else z)

/-- The tests of a fragment against the stored word: whether it passes both, and the word they leave (R361, R362). -/
def testFrag (r : RasterSt) (fmt word z : Nat) : Bool × Nat :=
  let d := depthCode fmt z
  let stored := if fmt = 0x10 then bits word 0 24 else word
  let ord : Option Int := if fmt = 0x10 then some (if d < stored then -1 else if d = stored then 0 else 1)
    else (f32.dec d).cmp (f32.dec stored)
  let s := bits word 24 8
  let st := r.sten
  let a := st.ref &&& st.rmask; let b := s &&& st.rmask
  let sPass := !st.en || funcHolds st.func (some (if a < b then -1 else if a = b then 0 else 1))
  let zPass := !r.dtest || funcHolds r.dfunc ord
  let op := if !sPass then st.fail else if !zPass then st.zfail else st.pass
  let s' := if st.en then (s &&& (255 - st.wmask)) ||| (stencilOp op st.ref s &&& st.wmask) else s
  let pass := sPass && zPass
  let d' := if pass && r.dwrite then d else stored
  (pass, if fmt = 0x10 then d' + s' * 2 ^ 24 else d')

/-! ## Colour (R364-R367) -/

/-- Places of the fields of a raster colour format: low bit and width of red, green, blue and alpha; width 0 for none. -/
def colourFields (f : Nat) : List (Nat × Nat) :=
  if f = 1 then [(11, 5), (5, 6), (0, 5), (0, 0)]
  else if f = 6 then [(16, 8), (8, 8), (0, 8), (24, 8)]
  else if f = 7 then [(16, 8), (8, 8), (0, 8), (0, 0)]
  else if f = 8 then [(0, 8), (8, 8), (16, 8), (24, 8)]
  else if f = 9 then [(20, 10), (10, 10), (0, 10), (30, 2)]
  else [(20, 10), (10, 10), (0, 10), (0, 0)]

/-- A colour of 10 bits packed into `w` bits, an alpha of 8 bits (R366). -/
def packField (alpha : Bool) (w v : Nat) : Nat :=
  if alpha then (v * (2 ^ w - 1) + 127) / 255 else (v * (2 ^ w - 1) + 511) / 1023

/-- Blend of R365: source colour and alpha, stored colour and alpha. -/
def rasterBlend (mode s a d : Nat) : Nat :=
  if mode = 0 then s
  else if mode = 1 then div255 (s * a + d * (255 - a))
  else if mode = 2 then min 1023 (s + div255 (d * (255 - a)))
  else min 1023 (d + div255 (s * a))

/-- Alpha of R365. -/
def rasterAlpha (mode a d : Nat) : Nat :=
  if mode = 0 then a else if mode = 3 then min 255 (d + a) else a + div255 (d * (255 - a))

/-- The word that a fragment's output leaves in a target of format `f` (R364-R367). -/
def writeColour (f mode wmask stored : Nat) (o : List Nat) : Nat :=
  let c := fun i => o.getD i 0
  if f = 0x20 then (if wmask.testBit 0 then c 0 else stored)
  else if f = 0x21 then
    let w := if wmask.testBit 0 then putBits stored 0 16 (convFmt f32 f16 (c 0)) else stored
    if wmask.testBit 1 then putBits w 16 16 (convFmt f32 f16 (c 1)) else w
  else
    let d := unpack f stored
    let ap := f2un 8 (c 3)
    let vals := [rasterBlend mode (f2un 10 (c 0)) ap d.r, rasterBlend mode (f2un 10 (c 1)) ap d.g,
      rasterBlend mode (f2un 10 (c 2)) ap d.b, rasterAlpha mode ap d.a]
    let start := if f = 7 then bits stored 0 24 else if f = 0xA then bits stored 0 30 else stored
    foldN 4 (fun w i =>
      let p := (colourFields f).getD i (0, 0)
      if wmask.testBit i && p.2 != 0 then putBits w p.1 p.2 (packField (i == 3) p.2 (vals.getD i 0)) else w) start

end Sys2Proof.Machine
end

