-- ==== Sys2Proof/Machine/Raster.lean ====
section
/-! DEFINITION. The raster pipeline: command fetch and faults (R350-R353), targets with their cached and flagged tiles
(R349, R369, R370), draws primitive by primitive in raster order (R354-R368). One job runs in a quantum: that of the slice
that owns it (R346). -/
namespace Sys2Proof.Machine

/-! ## The job -/

/-- The raster job of the slice that owns the quantum. -/
def State.rasterJob (s : State) : Option (CruJob × RasterSt) :=
  if !s.cruRuns then none else
  s.cru.jobs.findSome? (fun j => if j.slice == s.cru.turn then j.ras.map (fun r => (j, r)) else none)

/-- Stores a job's raster state. -/
def State.putRas (s : State) (j : CruJob) (r : RasterSt) : State := s.modJob j.slice j.seq (fun j => { j with ras := some r })
/-- The stored raster state of a job. -/
def State.rasOf (s : State) (j : CruJob) : Option RasterSt := (s.job j.slice j.seq).bind (·.ras)

/-- The job state at the start of a job (R352). -/
def RasterSt.start (pl : List Byte) (w h : Nat) : RasterSt where
  pos := u32 pl 4
  vp := ⟨0, 0, w, h⟩
  sc := ⟨0, 0, w, h⟩
  cull := 0
  front := 0
  clampZ := false
  dfunc := 7
  dwrite := false
  dtest := false
  sten := ⟨7, 0, 0, 0, 0, 0, 0, false⟩
  sh := none
  vOff := 0
  vStride := 0
  vCount := 0
  prims := 0
  targets := (List.range 5).map (fun t => ⟨u16 pl (0x0C + 2 * t), 0, 15, [], [], [], 0⟩)
  draw := none

/-- Target `t` of a job: 0-3 colour, 4 depth. -/
def RasterSt.tgt (r : RasterSt) (t : Nat) : Target := r.targets.getD t ⟨0, 0, 0, [], [], [], 0⟩
/-- Changes target `t`. -/
def RasterSt.modTgt (r : RasterSt) (t : Nat) (f : Target → Target) : RasterSt := { r with targets := modAt r.targets t f }

/-- A fault of the command stream: the effects of the commands before it are kept, so cached and flagged tiles reach DRAM
(R350, R353). -/
def State.rasFault (s : State) (j : CruJob) (r : RasterSt) (code : Nat) : State :=
  (s.flushTargets j.slice r).faultJob j.slice j.seq (faultRecord code 1 0 0 3 r.pos)

/-! ## Pixels of a target -/

/-- The tile of a pixel. -/
def tileAt (x y : Nat) : Nat := 1024 * (y / 16) + x / 16

/-- The logical word of pixel (x, y) of target `t`: the flag's value, the cached content, or DRAM (R369). -/
def State.tgtRead (s : State) (n : Nat) (t : Target) (x y : Nat) : Nat :=
  match s.surf n t.handle with
  | some u =>
    let b := bpp u.format
    if t.flags.contains (tileAt x y) then t.value.toNat % 2 ^ (8 * b)
    else if t.touched.contains (tileAt x y) then leNat (t.cache.read u.seed (u.pixelOff x y) b)
    else leNat (u.read (u.pixelOff x y) b)
  | none => 0

/-- Until the job is DONE, DRAM contents of a tile that it has touched are undefined (R349): free bytes. -/
def State.looseTile (s : State) (n h k : Nat) : State :=
  match s.surf n h with
  | some u =>
    let (seed, s) := s.draw
    let x0 := k % 1024 * 16; let y0 := k / 1024 * 16
    let w := min 16 (u.width - x0) * bpp u.format
    let u := foldN (min 16 (u.height - y0)) (fun u j =>
      let off := (y0 + j) * u.stride + x0 * bpp u.format
      u.write off ((List.range w).map (fun i => Config.undefByte seed (off + i)))) u
    s.modSlice n (fun x => x.putSurf u)
  | none => s

/-- The content that a tile's cache entry starts with. -/
def tileContent (u : Surface) (t : Target) (k : Nat) : Mem :=
  let v := if t.flags.contains k then fillTile u t.value k else u
  let x0 := k % 1024 * 16; let y0 := k / 1024 * 16
  let w := min 16 (u.width - x0) * bpp u.format
  foldN (min 16 (u.height - y0)) (fun m j =>
    let off := (y0 + j) * u.stride + x0 * bpp u.format
    m.write u.seed off (v.read off w)) t.cache

/-- Writes the word of pixel (x, y) of target `t`: its tile enters the cache first (R345). -/
def State.tgtWrite (s : State) (j : CruJob) (t x y w : Nat) : State :=
  match s.rasOf j with
  | none => s
  | some r =>
    let g := r.tgt t
    let k := tileAt x y
    match s.surf j.slice g.handle with
    | none => s
    | some u =>
      let fresh := !g.touched.contains k
      let g' := if fresh then
          { g with cache := tileContent u g k, touched := k :: g.touched, flags := g.flags.filter (· != k) }
        else g
      let g' := { g' with cache := g'.cache.write u.seed (u.pixelOff x y) (leBytes (bpp u.format) w) }
      let s := if fresh then s.looseTile j.slice g.handle k else s
      s.putRas j (r.modTgt t (fun _ => g'))

/-! ## Fragments -/

/-- Stencil and depth tests of a fragment, with what they store (R361, R362). -/
def State.testPixel (s : State) (j : CruJob) (f : Frag) : Bool × State :=
  match s.rasOf j with
  | none => (false, s)
  | some r =>
    let g := r.tgt 4
    if !r.dtest && !r.dwrite && !r.sten.en then (true, s) else
    match s.surf j.slice g.handle with
    | none => (true, s)
    | some u =>
      let word := s.tgtRead j.slice g f.x f.y
      let (ok, word') := testFrag r u.format word f.z
      (ok, if word' = word then s else s.tgtWrite j 4 f.x f.y word')

/-- Blend and write of one fragment's outputs into every colour target (R364-R367). -/
def State.blendPixel (s : State) (j : CruJob) (f : Frag) (o : List Word) : State :=
  foldN 4 (fun s t =>
    match s.rasOf j with
    | none => s
    | some r =>
      let g := r.tgt t
      match s.surf j.slice g.handle with
      | none => s
      | some u =>
        let old := s.tgtRead j.slice g f.x f.y
        s.tgtWrite j t f.x f.y (writeColour u.format g.mode g.wmask old (((o.drop (4 * t)).take 4).map BitVec.toNat))) s

/-- Whether the tests come before shading (R363). -/
def Shaders.early (h : Shaders) : Bool := h.flags % 4 = 0

/-- One fragment that shading has delivered: late tests, blend and write (R363, R368). -/
def State.resolve (s : State) (j : CruJob) (h : Shaders) (e : Frag × List Word) : State :=
  let f := if h.flags.testBit 0 then { e.1 with z := fclamp 0 fOne (e.2.getD 16 0).toNat } else e.1
  if h.early then s.blendPixel j f e.2
  else
    let (ok, s) := s.testPixel j f
    if ok then s.blendPixel j f e.2 else s

/-- Early tests of the quads of a primitive; a fragment that fails goes on as a helper only. -/
def State.earlyTests (s : State) (j : CruJob) (q : List Frag) : List Frag × State :=
  q.foldl (fun acc f =>
    if f.live then
      let (ok, s) := acc.2.testPixel j f
      (acc.1 ++ [{ f with live := ok }], s)
    else (acc.1 ++ [f], acc.2)) ([], s)

/-! ## Draws -/

/-- The vertex index of entry `i` (R354). -/
def State.entryIndex (s : State) (j : CruJob) (d : Draw) (i : Nat) : Nat :=
  if d.index = 0 then d.first + i
  else match s.jobSurf j 0 with
    | some u => leNat (u.read (d.ioff + 2 * d.index * i) (2 * d.index))
    | none => 0

/-- The part of the target area that pixels are tested in (R358). -/
def State.drawArea (s : State) (j : CruJob) (r : RasterSt) : Rect :=
  match s.surf j.slice (r.tgt 0).handle with
  | some u => (r.vp.meet r.sc).meet ⟨0, 0, u.width, u.height⟩
  | none => ⟨0, 0, 0, 0⟩

/-- Clips, orients and rasters one triangle of shaded vertices: its quads by tile (R355-R360). -/
def trianglesOf (r : RasterSt) (area : Rect) (t : List Vert) : List (Nat × List (List Frag)) :=
  let ts := (fanOf (clipTri r.clampZ r.vp t)).filterMap (fun f =>
    match f.map (toScreen r.clampZ r.vp) with
    | [a, b, c] => orient r.cull r.front a b c
    | _ => none)
  primQuads r.clampZ area ts

/-- The bundles of a primitive's quads: runs of four in one tile (R384). -/
def bundlesOf (l : List (Nat × List (List Frag))) : List (List Frag) :=
  l.flatMap (fun e => (runsOf4 64 (e.2.filter (fun q => q.any Frag.live))).map List.flatten)

/-- A job's bundles in flight. -/
def State.inFlight (s : State) (j : CruJob) (kind : Nat) : Bool :=
  s.cru.bundles.any (fun b => b.slice == j.slice && b.seq == j.seq && b.kind == kind)

/-- Stores the draw of a job. -/
def State.putDraw (s : State) (j : CruJob) (f : Draw → Draw) : State :=
  match s.rasOf j with
  | some r => s.putRas j { r with draw := r.draw.map f }
  | none => s

/-- Sets up the next triangle of a draw whose three vertices are shaded. -/
def State.setupTri (s : State) (j : CruJob) (r : RasterSt) (h : Shaders) (d : Draw) (vs : List Vert) : State :=
  let quads := trianglesOf r (s.drawArea j r) vs
  let (quads, s) := if h.early then
      quads.foldl (fun acc e =>
        let (q, s) := e.2.foldl (fun a f => let (q, s) := a.2.earlyTests j f; (a.1 ++ [q], s)) (([] : List (List Frag)), acc.2)
        (acc.1 ++ [(e.1, q)], s)) (([] : List (Nat × List (List Frag))), s)
    else (quads, s)
  match s.rasOf j with
  | some r => s.putRas j { r with prims := r.prims + 1, draw := some { d with tri := d.tri + 1, quads := bundlesOf quads, done := [] } }
  | none => s

/-- Carries a draw on while no shading of its present primitive is outstanding: resolves the fragments delivered, sets up the
next triangle, and ends the draw after its last one (R368). -/
def State.advance : Nat → CruJob → State → State
  | 0, _, s => s
  | k + 1, j, s =>
    match s.rasOf j with
    | none => s
    | some r =>
      match r.sh, r.draw with
      | some h, some d =>
        if !d.quads.isEmpty || s.inFlight j 2 then s
        else
          let s := d.done.foldl (fun s e => s.resolve j h e) s
          let s := s.putDraw j (fun d => { d with done := [] })
          match s.rasOf j with
          | none => s
          | some r =>
            if d.tri = triCount d.topo d.count then
              if d.next < d.count || s.inFlight j 1 then s
              else s.putRas j { r with draw := none, pos := r.pos + 16 }
            else
              let vs := (triEntries d.topo d.tri).filterMap (fun i => (d.verts.find? (fun e => e.1 == i)).map (·.2))
              if vs.length = 3 then
                State.advance k j (s.setupTri j r h { d with done := [] } (vs.map (fun v => v.map BitVec.toNat)))
              else s
      | _, _ => s

/-- Carries the draw of a job on. -/
def State.rasAdvance (s : State) (n : Nat) (seq : Word) : State :=
  match s.job n seq with
  | some j => match j.ras.bind (·.draw) with
    | some d => State.advance (triCount d.topo d.count + 2) j s
    | none => s
  | none => s

/-! ## The command stream -/

/-- The front end executes the command at the job's position if its OP is the one named. A draw in progress holds it. The end
of the stream, an undefined OP and a command outside CMDBUF fault whatever is named (R350, R353). -/
def State.rasCmd (s : State) (op : Nat) (f : CruJob → RasterSt → List Byte → State → State) : State :=
  match s.rasterJob with
  | none => s
  | some (j, r) =>
    if r.draw.isSome then s
    else if u32 j.pl 4 + u32 j.pl 8 ≤ r.pos then s.rasFault j r 0x04
    else match s.jobSurf j 0 with
      | none => s
      | some u =>
        let (lo, s1) := s.cluRead j.slice u r.pos 8
        let (hi, s2) := s1.cluRead j.slice u (r.pos + 8) 8
        let c := lo ++ hi
        if 0x0B < u8 c 0 then s.rasFault j r 0x01
        else if u8 c 0 = op then f j r c s2 else s

/-- Bytes `o`..`o + n - 1` of a command are 0. -/
def zeros (c : List Byte) (o n : Nat) : Bool := rd c o n == 0

/-- The first fault of a list of conditions, in their order. -/
def firstBad (l : List (Bool × Nat)) : Option Nat := (l.find? (fun e => e.1)).map (·.2)

/-- A state command: its faults, then the new state; the stream goes on. -/
def State.rasSet (s : State) (op : Nat) (bad : State → CruJob → RasterSt → List Byte → List (Bool × Nat))
    (f : RasterSt → List Byte → RasterSt) : State :=
  s.rasCmd op (fun j r c s =>
    match firstBad (bad s j r c) with
    | some code => s.rasFault j r code
    | none => s.putRas j { f r c with pos := r.pos + 16 })

/-- NOP (R351). -/
def execRasCmdNop (s : State) : Out := .next (s.rasSet 0 (fun _ _ _ c => [(!zeros c 1 15, 1)]) (fun r _ => r))

/-- END: every flagged and cached tile reaches DRAM and the job completes with the quanta it used (R127, R370). -/
def execRasEnd (s : State) : Out :=
  .next (s.rasCmd 1 (fun j r c s =>
    if !zeros c 1 15 then s.rasFault j r 1
    else (s.flushTargets j.slice r).endJob j.slice j.seq S_DONE ((j.quanta + 1) % 2 ^ 32)))

/-- VIEWPORT (R351). -/
def execRasViewport (s : State) : Out :=
  .next (s.rasSet 2 (fun _ _ _ c =>
      let x := u16 c 4; let y := u16 c 6; let w := u16 c 8; let h := u16 c 0xA
      [(!zeros c 1 3 || !zeros c 0xC 4, 1),
       (w = 0 || 8192 < w || h = 0 || 8192 < h || 16384 < x + w || 16384 < y + h, 2)])
    (fun r c => { r with vp := ⟨u16 c 4, u16 c 6, u16 c 8, u16 c 0xA⟩ }))

/-- SCISSOR (R351). -/
def execRasScissor (s : State) : Out :=
  .next (s.rasSet 3 (fun _ _ _ c => [(!zeros c 1 3 || !zeros c 0xC 4, 1), (u16 c 8 = 0 || u16 c 0xA = 0, 2)])
    (fun r c => { r with sc := ⟨u16 c 4, u16 c 6, u16 c 8, u16 c 0xA⟩ }))

/-- RASTER (R351, R357). -/
def execRasRaster (s : State) : Out :=
  .next (s.rasSet 4 (fun _ _ _ c => [(!zeros c 4 12, 1), (2 < u8 c 1 || 1 < u8 c 2 || 1 < u8 c 3, 2)])
    (fun r c => { r with cull := u8 c 1, front := u8 c 2, clampZ := u8 c 3 == 1 }))

/-- Format of the job's depth surface; 0 for none. -/
def State.depthFormat (s : State) (j : CruJob) : Nat :=
  match s.surf j.slice (u16 j.pl 0x14) with
  | some u => if u16 j.pl 0x14 = 0 then 0 else u.format
  | none => 0

/-- DEPTH (R351, R361). -/
def execRasDepth (s : State) : Out :=
  .next (s.rasSet 5 (fun s j _ c =>
      [(!zeros c 4 12, 1), (7 < u8 c 1 || 1 < u8 c 2 || 1 < u8 c 3, 2),
       ((u8 c 2 == 1 || u8 c 3 == 1) && s.depthFormat j == 0, 5)])
    (fun r c => { r with dfunc := u8 c 1, dwrite := u8 c 2 == 1, dtest := u8 c 3 == 1 }))

/-- STENCIL (R351, R362). -/
def execRasStencil (s : State) : Out :=
  .next (s.rasSet 6 (fun s j _ c =>
      [(!zeros c 9 7, 1), (7 < u8 c 1 || 7 < u8 c 5 || 7 < u8 c 6 || 7 < u8 c 7 || 1 < u8 c 8, 2),
       (u8 c 8 == 1 && s.depthFormat j != 0x10, 5)])
    (fun r c => { r with sten := ⟨u8 c 1, u8 c 2, u8 c 3, u8 c 4, u8 c 5, u8 c 6, u8 c 7, u8 c 8 == 1⟩ }))

/-- Target `t` is FLOAT32 or HALF2. -/
def State.floatTarget (s : State) (j : CruJob) (h : Nat) : Bool :=
  match s.surf j.slice h with
  | some u => u.format == 0x20 || u.format == 0x21
  | none => false

/-- BLEND (R351, R365). -/
def execRasBlend (s : State) : Out :=
  .next (s.rasSet 7 (fun s j r c =>
      let h := (r.tgt (u8 c 1)).handle
      [(!zeros c 4 12, 1), (3 < u8 c 1 || 3 < u8 c 2 || 15 < u8 c 3, 2), (h == 0 || (u8 c 2 != 0 && s.floatTarget j h), 5)])
    (fun r c => r.modTgt (u8 c 1) (fun t => { t with mode := u8 c 2, wmask := u8 c 3 })))

/-- Bytes of CMDBUF. -/
def State.cmdBytes (s : State) (j : CruJob) : Nat :=
  match s.jobSurf j 0 with
  | some u => u.bytes
  | none => 0

/-- SHADERS (R351). -/
def execRasShaders (s : State) : Out :=
  .next (s.rasSet 8 (fun s j _ c =>
      [(!zeros c 3 1, 1), (16 < u8 c 1 || 3 < u8 c 2 || u32 c 4 % 8 != 0 || u32 c 8 % 8 != 0 || u32 c 0xC % 256 != 0, 2),
       (s.cmdBytes j < u32 c 4 + 8 || s.cmdBytes j < u32 c 8 + 8 || s.cmdBytes j < u32 c 0xC + 4096, 3)])
    (fun r c => { r with sh := some ⟨u8 c 1, u8 c 2, u32 c 4, u32 c 8, BitVec.ofNat 32 (u32 c 0xC)⟩ }))

/-- VERTICES (R351). -/
def execRasVertices (s : State) : Out :=
  .next (s.rasSet 9 (fun s j _ c =>
      [(!zeros c 1 3, 1), (s.cmdBytes j < u32 c 4 + u32 c 8 * u32 c 0xC, 3)])
    (fun r c => { r with vOff := BitVec.ofNat 32 (u32 c 4), vStride := BitVec.ofNat 32 (u32 c 8), vCount := u32 c 0xC }))

/-- The faults of a DRAW (R351, R353). -/
def State.drawFaults (s : State) (j : CruJob) (r : RasterSt) (c : List Byte) : List (Bool × Nat) :=
  let d : Draw := ⟨u8 c 1, u8 c 2, u32 c 4, u32 c 8, u32 c 0xC, 0, [], 0, [], []⟩
  [(!zeros c 3 1, 1), (2 < d.topo || 2 < d.index, 2),
   (d.index != 0 && s.cmdBytes j < d.ioff + 2 * d.index * d.count, 3), (r.sh.isNone, 5),
   (if d.index = 0 then decide (r.vCount < d.first + d.count)
    else (List.range d.count).any (fun i => decide (r.vCount ≤ s.entryIndex j d i)), 6),
   (2 ^ 32 - 1 < r.prims + triCount d.topo d.count, 7)]

/-- DRAW (R354): vertex and fragment bundles wait for dispatch; a draw of fewer entries than one triangle draws nothing. -/
def execRasDraw (s : State) : Out :=
  .next (s.rasCmd 10 (fun j r c s =>
    match firstBad (s.drawFaults j r c) with
    | some code => s.rasFault j r code
    | none =>
      if triCount (u8 c 1) (u32 c 8) = 0 then s.putRas j { r with pos := r.pos + 16 }
      else s.putRas j { r with draw := some ⟨u8 c 1, u8 c 2, u32 c 4, u32 c 8, u32 c 0xC, 0, [], 0, [], []⟩ }))

/-- Every flagged tile of target `t` is written to DRAM with the old value (R370). -/
def State.flushFlags (s : State) (j : CruJob) (r : RasterSt) (t : Nat) : State :=
  let g := r.tgt t
  match s.surf j.slice g.handle with
  | some u =>
    (s.modSlice j.slice (fun x => x.putSurf (g.flags.foldl (fun u k => fillTile u g.value k) u))).putRas j
      (r.modTgt t (fun g => { g with flags := [] }))
  | none => s

/-- A tile's pixels all lie in a rectangle. -/
def tileInside (u : Surface) (r : Rect) (k : Nat) : Bool :=
  let x0 := k % 1024 * 16; let y0 := k / 1024 * 16
  r.x ≤ x0 && r.y ≤ y0 && min u.width (x0 + 16) ≤ r.x + r.w && min u.height (y0 + 16) ≤ r.y + r.h

/-- Clears a rectangle of target `t`: whole tiles are flagged, the pixels of the others are written (R369). -/
def State.clearRect (s : State) (j : CruJob) (t : Nat) (rect : Rect) (v : Word) : State :=
  match s.rasOf j with
  | none => s
  | some r =>
    let g := r.tgt t
    match s.surf j.slice g.handle with
    | none => s
    | some u =>
      let s := if g.value != v && !g.flags.isEmpty then s.flushFlags j r t else s
      let rect := rect.meet ⟨0, 0, u.width, u.height⟩
      let tiles := tilesOf rect
      let whole := tiles.filter (tileInside u rect)
      let s := match s.rasOf j with
        | some r => s.putRas j (r.modTgt t (fun g => { g with
            value := v
            flags := whole ++ g.flags.filter (fun k => !whole.contains k)
            touched := g.touched.filter (fun k => !whole.contains k) }))
        | none => s
      (tiles.filter (fun k => !tileInside u rect k)).foldl (fun s k =>
        foldN 256 (fun s i =>
          let x := k % 1024 * 16 + i % 16; let y := k / 1024 * 16 + i / 16
          if rect.has x y then s.tgtWrite j t x y v.toNat else s) s) s

/-- CLEAR (R369, R370). -/
def execRasClear (s : State) : Out :=
  .next (s.rasCmd 11 (fun j r c s =>
    let t := u8 c 1
    let v := u32 c 0xC
    let badZ := t == 4 && s.depthFormat j == 0x11 &&
      ((f32.dec v == .nan) || flt v 0 || flt fOne v)
    match firstBad [(!zeros c 2 2, 1), (4 < t || badZ, 2), ((r.tgt t).handle == 0, 5)] with
    | some code => s.rasFault j r code
    | none =>
      (s.putRas j { r with pos := r.pos + 16 }).clearRect j t ⟨u16 c 4, u16 c 6, u16 c 8, u16 c 0xA⟩ (BitVec.ofNat 32 v)))

end Sys2Proof.Machine
end

