-- ==== Sys2Proof/Machine/Cluster.lean ====
section
/-! DEFINITION. The jobs of the Crucible cluster: their opcodes (R125-R127, R348, R380), dispatch to cores (R381-R384), quanta
(R390-R394) and failed cores (R397). -/
namespace Sys2Proof.Machine

/-! ## The partition of a core (R379, R382) -/

/-- Register words of a slice on a core that its resident bundles use. -/
def State.wordsUsed (s : State) (n core : Nat) : Nat :=
  sumBy (fun b : Bundle => 16 * b.regs) (s.cru.bundles.filter (fun b => b.slice == n && b.core == core))

/-- `k` more bundles of `regs` registers fit a slice's part of a core, beside `words` in use and `have_` bundles. -/
def State.regsFit (s : State) (words have_ k regs : Nat) : Bool :=
  have_ + k ≤ 64 && words + 16 * regs * k ≤ 32768 / s.nSlices

/-- Whether `k` bundles fit a core now. -/
def State.bundlesFit (s : State) (n core k regs : Nat) : Bool :=
  s.regsFit (s.wordsUsed n core) (s.cru.bundles.filter (fun b => b.slice == n && b.core == core)).length k regs

/-- The scratch allocations of a slice on a core: offset and size in KiB. -/
def State.scratchUsed (s : State) (n core : Nat) : List (Nat × Nat) :=
  (s.cru.wgs.filter (fun g => g.slice == n && g.core == core)).map (fun g => (g.scrOff, g.scrKib))

/-- The lowest free offset of a run of `kib` KiB in the scratch window (R382). -/
def State.scratchFit (s : State) (used : List (Nat × Nat)) (kib : Nat) : Option Nat :=
  firstIdx 109 (fun o => (o + kib) * s.nSlices ≤ 108 && used.all (fun u => !rangesMeet o kib u.1 u.2))

/-- Cores present and not failed, ascending. -/
def State.healthyCores (s : State) : List Nat := (List.range s.nCores).filter (fun c => !s.cru.failed.getLsbD c)

/-- The lowest free bundle slot of a slice on a core. -/
def State.freeBundleSlot (s : State) (n core : Nat) : Nat :=
  (firstIdx 64 (fun k => (s.bundle n core k).isNone)).getD 0

/-- REGS of the kernel header at an entry, if it is valid for the use (R381, R405). -/
def State.header (s : State) (j : CruJob) (entry kind least : Nat) : Option Nat :=
  match s.jobSurf j 0 with
  | none => none
  | some u =>
    if u.bytes < entry + 8 || entry % 8 ≠ 0 then none
    else
      let i := Ins.dec (leNat (u.read entry 8))
      let regs := bits i.imm 0 8
      if i.cls = 0 && i.opc = 1 && (shapeSys 1).valid i 128 && regs % 8 = 0 && 8 ≤ regs && regs ≤ 128 &&
          bits i.imm 8 8 = kind && least ≤ regs then some regs
      else none

/-- Places a bundle on a core: predicates 0, registers as given, EXEC and LIVE the lanes (R402, R403). -/
def State.placeBundle (s : State) (j : CruJob) (core kind wg idx entry regs : Nat) (lanes : List Nat) (px : List Frag)
    (init : Nat → List Word) : State :=
  let (base, s) := s.draw
  let v : VRegs := lanes.foldl (fun v l => (init l).zipIdx.foldl (fun v e => VRegs.put v e.2 l e.1) v) []
  let b : Bundle :=
    { slice := j.slice, seq := j.seq, core := core, slot := s.freeBundleSlot j.slice core, kind := kind, wg := wg, idx := idx,
      issued := 0, pc := BitVec.ofNat 32 entry, exec := laneMask lanes, live := laneMask lanes, p := [0, 0, 0, 0], regs := regs,
      base := base, v := v, st := .ready, pend := [], px := px, outs := [] }
  s.modCru (fun c => { c with bundles := c.bundles ++ [b] })

/-! ## Compute -/

/-- GRID_X, GRID_Y, GRID_Z. -/
def CruJob.grid (j : CruJob) : Nat × Nat × Nat := (u16 j.pl 8, u16 j.pl 0xA, u16 j.pl 0xC)
/-- Workgroups of a compute job. -/
def CruJob.groups (j : CruJob) : Nat := j.grid.1 * j.grid.2.1 * j.grid.2.2
/-- GROUP_SIZE. -/
def CruJob.groupSize (j : CruJob) : Nat := u16 j.pl 0xE
/-- Bundles of a workgroup (R377). -/
def CruJob.groupBundles (j : CruJob) : Nat := ceilDiv j.groupSize 16

/-- The first compute job of the owning slice, in acceptance order, with workgroups to dispatch (R383). -/
def State.waitingJob (s : State) : Option CruJob :=
  s.cru.jobs.find? (fun j => j.slice == s.cru.turn && j.ras.isNone && j.next < j.groups)

/-- A vertex or fragment bundle of the owning slice waits for dispatch (R384). -/
def State.shadingWaits (s : State) : Bool :=
  match s.rasterJob with
  | some (_, r) => match r.draw with
    | some d => !d.quads.isEmpty || d.next < d.count
    | none => false
  | none => false

/-- Places workgroup `w` of a job on a core. -/
def State.placeGroup (s : State) (j : CruJob) (core off regs : Nat) : State :=
  let w := j.next
  let (gx, gy, _) := j.grid
  let x := w % gx; let y := w / gx % gy; let z := w / (gx * gy)
  let (seed, s) := s.draw
  let g : WGroup :=
    { slice := j.slice, seq := j.seq, w := w, x := x, y := y, z := z, core := core, scrOff := off, scrKib := u16 j.pl 0x10,
      seed := seed, scratch := [], barCount := 0, barGen := 0, exited := false }
  let s := s.modCru (fun c => { c with wgs := c.wgs ++ [g] })
  let s := foldN j.groupBundles (fun s b =>
    s.placeBundle j core 0 w b (u32 j.pl 4) regs ((List.range 16).filter (fun l => 16 * b + l < j.groupSize)) []
      (fun l => [BitVec.ofNat 32 (16 * b + l), BitVec.ofNat 32 x, BitVec.ofNat 32 y, BitVec.ofNat 32 z])) s
  s.modJob j.slice j.seq (fun j => { j with next := w + 1 })

/-- A waiting workgroup goes to the lowest-numbered healthy core that it fits, or waits (R382, R383). The job's cache window is
invalidated at its first dispatch (R386). -/
def State.dispatchGroup (s : State) (j : CruJob) : State :=
  let kib := u16 j.pl 0x10
  let rec0 := fun code => faultRecord code 3 0 0 0 (u32 j.pl 4)
  match s.header j (u32 j.pl 4) 0 8 with
  | none => s.faultJob j.slice j.seq (rec0 0x30)
  | some regs =>
    if !s.regsFit 0 0 j.groupBundles regs || (s.scratchFit [] kib).isNone then s.faultJob j.slice j.seq (rec0 0x31)
    else
      let n := j.slice
      let fits := fun c =>
        if s.bundlesFit n c j.groupBundles regs && (s.scratchUsed n c).length < 64 then
          (s.scratchFit (s.scratchUsed n c) kib).map (fun o => (c, o))
        else none
      match s.healthyCores.findSome? fits with
      | none => s
      | some (c, o) =>
        let s := if j.next = 0 then s.modCru (fun c => { c with old := c.old.filter (fun x => x.slice != n) }) else s
        s.placeGroup j c o regs

/-- WORKGROUP_DISPATCH (R383): for the slice that owns the quantum; a waiting shading bundle goes first (R384). -/
def execWorkgroupDispatch (s : State) : Out :=
  .next (
    if !s.cruRuns || s.shadingWaits then s
    else match s.waitingJob with
      | some j => s.dispatchGroup j
      | none => s)

/-! ## Shading -/

/-- The cores for a back-end's shading: its half, or any healthy core when that half has failed (R384). -/
def State.halfCores (s : State) (be : Nat) : List Nat :=
  let l := s.healthyCores.filter (fun c => c % 2 == be)
  if l.isEmpty then s.healthyCores else l

/-- Dispatches the first waiting fragment bundle of a draw. -/
def State.dispatchFragment (s : State) (j : CruJob) (r : RasterSt) (h : Shaders) (d : Draw) (q : List Frag)
    (rest : List (List Frag)) : State :=
  match s.header j h.fs 2 (max (4 + h.vary) (if h.flags.testBit 0 then 17 else 16)) with
  | none => s.faultJob j.slice j.seq (faultRecord 0x30 3 0 0 2 h.fs)
  | some regs =>
    let f0 := q.headD ⟨0, 0, false, 0, []⟩
    match (s.halfCores ((f0.x / 16 + f0.y / 16) % 2)).find? (fun c => s.bundlesFit j.slice c 1 regs) with
    | none => s
    | some c =>
      let s := s.placeBundle j c 2 0 0 h.fs regs (List.range q.length) q (fun l =>
        let f := q.getD l f0
        [BitVec.ofNat 32 f.x, BitVec.ofNat 32 f.y, BitVec.ofNat 32 f.z, h.const] ++ f.vary.map (BitVec.ofNat 32))
      s.putRas j { r with draw := some { d with quads := rest } }

/-- Dispatches the next vertex bundle of a draw: up to 16 consecutive entries (R384). A pair of shading bundles that could
never fit together ends the job (R382). -/
def State.dispatchVertex (s : State) (j : CruJob) (r : RasterSt) (h : Shaders) (d : Draw) : State :=
  match s.header j h.vs 1 (4 + h.vary) with
  | none => s.faultJob j.slice j.seq (faultRecord 0x30 3 0 0 1 h.vs)
  | some regs =>
    let fs := (s.header j h.fs 2 (max (4 + h.vary) (if h.flags.testBit 0 then 17 else 16))).getD 0
    if 32768 / s.nSlices < 16 * regs + 16 * fs then s.faultJob j.slice j.seq (faultRecord 0x31 3 0 0 1 h.vs)
    else
      match s.healthyCores.find? (fun c => s.bundlesFit j.slice c 1 regs) with
      | none => s
      | some c =>
        let k := min 16 (d.count - d.next)
        let s := s.placeBundle j c 1 0 d.next h.vs regs (List.range k) [] (fun l =>
          [BitVec.ofNat 32 (s.entryIndex j d (d.next + l)), r.vOff, r.vStride, h.const])
        s.putRas j { r with draw := some { d with next := d.next + k } }

/-- SHADING_DISPATCH (R384): the waiting fragment bundle of the draw in progress, else its next vertex bundle. -/
def execShadingDispatch (s : State) : Out :=
  .next (
    match s.rasterJob with
    | none => s
    | some (j, r) =>
      match r.sh, r.draw with
      | some h, some d =>
        match d.quads with
        | q :: rest => s.dispatchFragment j r h d q rest
        | [] => if d.next < d.count then s.dispatchVertex j r h d else s
      | _, _ => s)

/-! ## The job opcodes -/

/-- Checks of a surface field of R125 and R126: a handle up to 1023, and a surface of an allowed format (R348). -/
def chkSurf (p : State) (n : Nat) (b : List Byte) (off : Nat) (need : Bool) (fmt : Nat → Bool) : List Chk :=
  let h := u16 b off
  [⟨10, (h == 0 && need) || 1023 < h, off⟩, ⟨12, h != 0 && (p.surf n h).isNone, off⟩] ++
  (match p.surf n h with
   | some u => [⟨10, h != 0 && !fmt u.format, off⟩]
   | none => [])

/-- Formats of a colour target (R348). -/
def colourTarget (f : Nat) : Bool := [1, 6, 7, 8, 9, 0xA, 0x20, 0x21].contains f
/-- Formats that the sampling unit takes (R388). -/
def sampled (f : Nat) : Bool := layerFormat f || [0x11, 0x20, 0x21].contains f

/-- Restarts a job from its start (R71, R397). -/
def State.restartJob (s : State) (n : Nat) (seq : Word) : State :=
  let s := s.dropBundles n seq
  s.modJob n seq (fun j => { j with next := 0, ras := j.ras.map (fun _ =>
    match s.surf n (u16 j.pl 0xC) with
    | some u => RasterSt.start j.pl u.width u.height
    | none => RasterSt.start j.pl 0 0) })

/-- Makes the job record of an entry whose effect is issued. -/
def State.startJob (s : State) (n : Nat) (e : JEntry) (ras : Option RasterSt) : State :=
  s.modCru (fun c => { c with jobs := c.jobs ++ [⟨n, e.seq, e.body.payload, 0, 0, ras⟩] })

/-- Hardware reports the end of a job by an uncorrectable word that it read: E_DATA with a Slag entry (R373, R396). VALUE 0
says that DRAM was read, c + 1 that a register or scratch word of core c was. -/
def State.finishJob (s : State) (n : Nat) (e : JEntry) (r : EffResult) : State :=
  if r.status.toNat = E_DATA && (s.job n e.seq).isSome then
    let s := if r.value = 0 then s.slagErr 2 n 0x01 else s.slagErr 2 (r.value.toNat - 1) 0x01
    s.endJobOpen n e.seq E_DATA
  else s

/-- JOB_RASTER (R125, R346, R348): it starts when the slice's earlier raster job is DONE. -/
def opJobRaster : OpDef where
  code := 0x0500
  len := fixedLen 32
  slot := true
  nature := .trans
  checks s p n m :=
    let b := m.payload
    let size := match p.surf n (u16 b 0xC) with
      | some u => some (u.width, u.height)
      | none => none
    let same := fun off =>
      match size, p.surf n (u16 b off) with
      | some (w, h), some u => ⟨11, u16 b off != 0 && (u.width != w || u.height != h), off⟩
      | _, _ => (⟨11, false, off⟩ : Chk)
    chkSurf p n b 0 true (· == 0) ++ [resv b 2 2, ⟨10, u32 b 4 % 16 != 0, 4⟩,
      ⟨10, u32 b 8 < 16 || 2 ^ 26 < u32 b 8 || u32 b 8 % 16 != 0, 8⟩] ++
    (match p.surf n (u16 b 0) with
     | some u => [⟨11, u.bytes < u32 b 4 + u32 b 8, 8⟩]
     | none => []) ++
    chkSurf p n b 0xC true colourTarget ++ chkSurf p n b 0xE false colourTarget ++ chkSurf p n b 0x10 false colourTarget ++
    chkSurf p n b 0x12 false colourTarget ++ chkSurf p n b 0x14 false (fun f => f == 0x10 || f == 0x11) ++
    chkSurf p n b 0x16 false sampled ++ chkSurf p n b 0x18 false sampled ++ chkSurf p n b 0x1A false sampled ++
    [same 0xE, same 0x10, same 0x12, same 0x14, ⟨15, s.jobsFull n, fNONE⟩]
  ready s n e := (s.slice n).journal.all (fun x => !(x.isOpen && x.body.opcode == 0x0500 && x.order < e.order))
  issue s n e :=
    let (w, h) := match s.surf n (u16 e.body.payload 0xC) with
      | some u => (u.width, u.height)
      | none => (0, 0)
    let s := s.modCru (fun c => { c with old := c.old.filter (fun x => x.slice != n) })
    s.startJob n e (some (RasterSt.start e.body.payload w h))
  finish := State.finishJob
  restart s n e := s.restartJob n e.seq

/-- JOB_COMPUTE (R126, R380). -/
def opJobCompute : OpDef where
  code := 0x0501
  len := fixedLen 32
  slot := true
  nature := .trans
  checks s p n m :=
    let b := m.payload
    let anyF := fun (_ : Nat) => true
    chkSurf p n b 0 true (· == 0) ++ chkSurf p n b 2 false (· == 0) ++
    [⟨10, u32 b 4 % 8 != 0, 4⟩, ⟨10, u16 b 8 = 0, 8⟩, ⟨10, u16 b 0xA = 0, 0xA⟩, ⟨10, u16 b 0xC = 0, 0xC⟩,
     ⟨10, u16 b 0xE = 0 || 1024 < u16 b 0xE, 0xE⟩, ⟨10, 108 < u16 b 0x10, 0x10⟩, resv b 0x12 2,
     ⟨11, 108 < u16 b 0x10 * s.nSlices, 0x10⟩] ++
    chkSurf p n b 0x18 false anyF ++ chkSurf p n b 0x1A false anyF ++ chkSurf p n b 0x1C false anyF ++
    chkSurf p n b 0x1E false anyF ++ [⟨15, s.jobsFull n, fNONE⟩]
  issue s n e := s.startJob n e none
  finish := State.finishJob
  restart s n e := s.restartJob n e.seq

/-- Class 0x05. -/
def jobOps : List OpDef := [opJobRaster, opJobCompute]

/-! ## Quanta -/

/-- STATE of a bundle record (R394). -/
def State.stateCode (s : State) (b : Bundle) : Nat :=
  match b.st with
  | .exited => 4
  | .barrier => 2
  | .lock _ _ => if s.canGo b then 0 else 3
  | .ready => if s.memWait b then 1 else 0

/-- Index of a job among its slice's OPEN jobs. -/
def State.jobIndex (s : State) (n : Nat) (seq : Word) : Nat :=
  ((s.slice n).journal.filter (fun e => e.isOpen && isJob e.body)).findIdx (fun e => e.seq == seq)

/-- A workgroup record (R394). -/
def State.groupRecord (s : State) (g : WGroup) (bs : List Bundle) : List Byte :=
  leBytes 1 (s.jobIndex g.slice g.seq) ++
  leBytes 1 (bs.findIdx (fun b => b.kind == 0 && b.seq == g.seq && b.wg == g.w && b.idx == 0)) ++
  leBytes 2 g.scrOff ++ leBytes 2 g.x ++ leBytes 2 g.y ++ leBytes 2 g.z ++ leBytes 2 g.scrKib ++ leBytes 1 g.barCount ++
  leBytes 1 g.barGen ++ leBytes 2 0

/-- A bundle record (R394). -/
def State.bundleRecord (s : State) (b : Bundle) (gs : List WGroup) : List Byte :=
  leBytes 4 b.pc.toNat ++ leBytes 2 b.exec.toNat ++ leBytes 2 b.live.toNat ++
  (List.range 4).flatMap (fun k => leBytes 2 (b.pred k).toNat) ++ leBytes 2 (Config.undefWord b.base 0).toNat ++
  leBytes 1 (if b.kind = 0 then gs.findIdx (fun g => g.seq == b.seq && g.w == b.wg) else 0xFF) ++ leBytes 1 (s.stateCode b) ++
  leBytes 2 (b.pend.filter (fun p => !p.sample)).length ++ leBytes 2 (b.pend.filter (·.sample)).length ++
  leBytes 1 (match b.st with | .lock k _ => if s.canGo b then 0 else k | _ => 0) ++ leBytes 1 b.kind ++
  leBytes 2 (s.jobIndex b.slice b.seq) ++ leBytes 4 0

/-- The save record of a slice on a core (R394). -/
def State.saveRecord (s : State) (n core : Nat) : List Byte :=
  let bs := sortBy Bundle.slot (s.cru.bundles.filter (fun b => b.slice == n && b.core == core))
  let gs := s.cru.wgs.filter (fun g => g.slice == n && g.core == core)
  leBytes 1 n ++ leBytes 1 1 ++ leBytes 2 bs.length ++ leBytes 2 gs.length ++ leBytes 2 0 ++ leBytes 4 (s.wordsUsed n core) ++
  leBytes 4 (s.slice n).quanta.toNat ++ List.replicate 48 0 ++ gs.flatMap (fun g => s.groupRecord g bs) ++
  bs.flatMap (fun b => s.bundleRecord b gs)

/-- Cores are marked failed, by the boundary test or the stall monitor with code `code` of class 8, or by parity; the jobs that
had a bundle there start again on the remaining cores (R397). -/
def State.failCores (s : State) (l : List Nat) (cls code : Nat) : State :=
  let l := l.filter (fun c => c < s.nCores && !s.cru.failed.getLsbD c)
  let s := l.foldl (fun s c => s.slagX cls c code { isolate := true } false false) s
  let hit := (s.cru.jobs.filter (fun j =>
    s.cru.bundles.any (fun b => b.slice == j.slice && b.seq == j.seq && l.contains b.core)))
  let s := hit.foldl (fun s j => s.restartJob j.slice j.seq) s
  s.modCru (fun c => { c with failed := c.failed ||| BitVec.ofNat 48 (maskOf l) })

/-- The quanta of the outgoing slice: SLC_QUANTA counts one that any job used, and a job that has reached its QUANTA_LIMIT is
quenched (R393). -/
def State.countQuantum (s : State) (n : Nat) : State :=
  let js := s.cru.jobs.filter (fun j => j.slice == n)
  let s := if s.cru.used || !js.isEmpty then s.modSlice n (fun x => { x with quanta := x.quanta + 1 }) else s
  js.foldl (fun s j =>
    let q := j.quanta + 1
    let lim := u32 j.pl (if j.ras.isSome then 0x1C else 0x14)
    if lim != 0 && lim ≤ q then s.endJobOpen n j.seq E_QUENCHED
    else s.modJob n j.seq (fun j => { j with quanta := q })) s

/-- QUANTUM_BOUNDARY (R21, R390): the outgoing slice is counted and saved, the cores are tested, the next slice owns the
cluster. `bad` are the cores whose boundary test fails, `parity` those with a datapath parity error. -/
def execQuantumBoundary (bad parity : BitVec 48) (s : State) : Out :=
  .next (
    if !s.cruRuns then s else
    let n := s.cru.turn
    let s := s.countQuantum n
    let recs := s.healthyCores.map (fun c => (n, c, s.saveRecord n c))
    let s := s.modCru (fun c => { c with saves := recs ++ c.saves.filter (fun e => e.1 != n) })
    let s := s.failCores (maskList 48 bad.toNat) 8 0x09
    let s := s.failCores (maskList 48 parity.toNat) 3 0x04
    s.modCru (fun c => { c with turn := (n + 1) % s.nSlices, used := false }))

/-- ISSUE_STALL (R397): a core with a ready bundle of the owning slice has issued nothing for 4096 cycles. -/
def execIssueStall (core : Fin 48) (s : State) : Out :=
  .next (if (s.pick core).isSome then s.failCores [core.val] 8 0x0A else s)

end Sys2Proof.Machine
end

