-- ==== Sys2Proof/Machine/Layers.lean ====
section
/-! DEFINITION. The compositor: opcode class 0x02 (R105-R111), colour and scaler loads (R116, R117), binding (R207-R214),
composition passes (R196, R216, R219-R223) and copy-backs (R237, R246). -/
namespace Sys2Proof.Machine

/-- Checks of a field that names an output (R53 steps 7 and 10, R87). -/
def chkOut (p : State) (v off : Nat) : List Chk := [⟨7, p.nOut ≤ v && v < 8, off⟩, ⟨10, 7 < v, off⟩]
/-- Checks of a mask of outputs. -/
def chkMask (p : State) (v off : Nat) : List Chk := [⟨7, v / 2 ^ p.nOut != 0, off⟩]

/-! ## LAYER_ASSIGN and LAYER_SET -/

/-- The layer that holds scaler `k`. -/
def State.scalerHolder (s : State) (k : Nat) : Option Nat :=
  firstIdx 64 (fun l => (s.lay l).slice.isSome && (s.lay l).scaler == some k)

/-- A coefficient item of scaler `k` is staged or pending (R240). -/
def State.scalerWaits (s : State) (k : Nat) : Bool := s.itemWaits (2, k, 0) || s.itemWaits (2, k, 1)

/-- Layer `k` is enabled in committed state, in a pending commit, or has a staged change (R105). -/
def State.layerBusy (s p : State) (k : Nat) : Bool :=
  let on := fun (i : StageItem) => match i with
    | .layer j _ => j == k
    | _ => false
  (s.lay k).com.on || (p.lay k).com.on || p.slices.any (fun x => x.staged.any on) ||
  s.pendingItems.any (fun q => on q.2) || p.pendingItems.any (fun q => on q.2)

/-- LAYER_ASSIGN (R105, R240). -/
def opLayerAssign : OpDef where
  code := 0x0200
  len := fixedLen 8
  nature := .trans
  who := .zero
  checks s p _ m :=
    let b := m.payload
    let k := u8 b 0; let sl := u8 b 1; let o := u8 b 2; let z := u8 b 3; let c := u8 b 4
    let un := sl == 0xFF
    let l := p.lay k
    [⟨10, 63 < k, 0⟩, ⟨10, !un && p.nSlices ≤ sl, 1⟩, resv b 5 3, ⟨12, k < 64 && s.layerBusy p k, 0⟩] ++
    (if un then [] else
      chkOut p o 2 ++ [⟨10, 63 < z, 3⟩, ⟨10, 7 < c && c != 0xFF, 4⟩,
        ⟨12, (List.range 64).any (fun j => j != k && (p.lay j).slice.isSome && (p.lay j).output == o && (p.lay j).z == z), 3⟩,
        ⟨12, match p.scalerHolder c with | some j => c ≤ 7 && j != k | none => false, 4⟩]) ++
    [⟨12, match l.scaler with
      | some x => (un || c != x || o != l.output) && (s.scalerWaits x || p.scalerWaits x)
      | none => false, 4⟩]
  issue s n e :=
    let b := e.body.payload
    let l : Layer := if u8 b 1 = 0xFF then Layer.reset
      else ⟨some (u8 b 1), u8 b 2, u8 b 3, if u8 b 4 = 0xFF then none else some (u8 b 4), LayerCfg.zero⟩
    (s.modLay (u8 b 0) (fun _ => l)).complete n e.seq S_DONE 0

/-- The layer state in a LAYER_SET payload (R107). -/
def layerCfgOf (b : List Byte) : LayerCfg :=
  ⟨u8 b 1, u8 b 3, u16 b 4, u16 b 8, u16 b 0xA, u16 b 0xC, u16 b 0xE, i16 b 0x10, i16 b 0x12, u16 b 0x14, u16 b 0x16⟩

/-- LAYER_SET (R106, R107, R190, R224, R230). -/
def opLayerSet : OpDef where
  code := 0x0201
  len := fixedLen 24
  takesG := true
  checks s p n m :=
    let b := m.payload
    let c := layerCfgOf b
    let g := m.group.toNat
    let ratio := fun (d sr : Nat) => !(sr ≤ 8 * d && d ≤ 16 * sr)
    [⟨8, !(u8 b 0 < 64 && (p.lay (u8 b 0)).slice == some n), 0⟩,
     ⟨10, c.mode == 3 || 16 ≤ c.ctrl, 1⟩, resv b 2 1, resv b 6 2] ++
    (if c.on then
      [⟨10, c.surface = 0 || 1023 < c.surface, 4⟩,
       ⟨10, match p.surf n c.surface with | some u => !layerFormat u.format | none => false, 4⟩,
       ⟨10, c.srcW = 0, 0xC⟩, ⟨10, c.srcH = 0, 0xE⟩] ++
      (if c.scale then
        [⟨10, 4096 < c.srcW, 0xC⟩, ⟨10, ratio c.dstW c.srcW, 0x14⟩, ⟨10, ratio c.dstH c.srcH, 0x16⟩,
         ⟨12, (p.lay (u8 b 0)).scaler.isNone, 1⟩]
       else [⟨10, c.dstW != c.srcW, 0x14⟩, ⟨10, c.dstH != c.srcH, 0x16⟩]) ++
      (match p.surf n c.surface with
       | some u => [⟨11, u.width < c.srcX + c.srcW, 8⟩, ⟨11, u.height < c.srcY + c.srcH, 0xA⟩]
       | none => []) ++
      [⟨12, (p.surf n c.surface).isNone || (n == 0 && s.wbTarget p c.surface), 4⟩]
     else []) ++
    [⟨15, g != 0 && !(p.slice n).groups.contains g && 16 ≤ (p.slice n).groups.length, fGROUP⟩]
  issue s n e :=
    let b := e.body.payload
    let k := u8 b 0
    (s.modSlice n (fun x => x.stage e.body.group.toNat (s.lay k).output (.layer k (layerCfgOf b)))).complete n e.seq S_DONE 0

/-! ## COMMIT and STAGE_DISCARD -/

/-- The items that a COMMIT or STAGE_DISCARD of a group or a mask of default sets names. -/
def Slice.named (x : Slice) (g mask : Nat) : List StageItem :=
  (x.sets.filter (fun z => if g = 0 then z.group == 0 && mask.testBit z.out else z.group == g)).flatMap (·.items)

/-- The sets that are left when those are emptied; a group number is freed (R106). -/
def Slice.without (x : Slice) (g mask : Nat) : Slice :=
  { x with sets := x.sets.filter (fun z => !(if g = 0 then z.group == 0 && mask.testBit z.out else z.group == g)) }

/-- Members of a commit, ascending (R108). -/
def State.commitMembers (s : State) (n g mask : Nat) : List Nat :=
  (List.range 8).filter (fun o =>
    if g = 0 then mask.testBit o else ((s.slice n).named g 0).any (fun i => s.itemOut i == o))

/-- A COMMIT arrives at the compositor (R106, R207, R218). -/
def State.arrive (s : State) (n : Nat) (seq : Word) (g mask : Nat) : State :=
  let ms := s.commitMembers n g mask
  let c : PCommit := ⟨n, seq, (s.slice n).named g mask, ms, [], 0, 0, false,
    (ms.filter s.vblank).map (fun m => (m, s.frameNo m)), []⟩
  (s.modSlice n (fun x => x.without g mask)).modDisp (fun d => { d with commits := d.commits ++ [c] })

/-- The state once a pending commit has applied on every member; it stays listed while OPEN (R54, R108). -/
def State.projectCommit (s : State) (n : Nat) (seq : Word) : State :=
  match s.disp.commits.find? (fun c => c.slice == n && c.seq == seq) with
  | some c => (c.members.filter (fun m => !c.applied.contains m)).foldl (fun s m => s.applyCommit c m) s
  | none => s

/-- COMMIT (R106, R108, R188, R205, R207). -/
def opCommit : OpDef where
  code := 0x0202
  len := fixedLen 4
  slot := true
  takesG := true
  takesD := true
  nature := .trans
  checks _ p n m :=
    let b := m.payload
    let g := m.group.toNat
    let mask := u8 b 0
    let f := if g = 0 then 0 else fGROUP
    let ms := p.commitMembers n g mask
    let q := (p.arrive n m.seq g mask).projectCommit n m.seq
    let l0 := p.rateSum p.pixLoad; let l1 := q.rateSum q.pixLoad
    let b0 := p.rateSum p.fetchLoad; let b1 := q.rateSum q.fetchLoad
    let raises := l0.1 * l1.2 < l1.1 * l0.2 || b0.1 * b1.2 < b1.1 * b0.2
    chkMask p mask 0 ++
    [⟨10, if g = 0 then mask = 0 else mask != 0, 0⟩, resv b 1 3,
     ⟨12, g != 0 && ((p.slice n).named g 0).isEmpty, fGROUP⟩, ⟨12, ms.any (fun o => !(p.ou o).enabled), f⟩,
     ⟨15, ms.any (fun o => 16 < (q.layersOn o).length), f⟩, ⟨15, raises && !q.loadsFit, f⟩,
     ⟨15, 8 ≤ (p.disp.commits.filter (fun c => c.slice == n)).length, f⟩]
  issue s n e := s.arrive n e.seq e.body.group.toNat (u8 e.body.payload 0)
  project s n e := s.projectCommit n e.seq

/-- STAGE_DISCARD (R110). -/
def opStageDiscard : OpDef where
  code := 0x0203
  len := fixedLen 4
  takesG := true
  checks _ p _ m :=
    let b := m.payload
    chkMask p (u8 b 0) 0 ++ [⟨10, m.group != 0 && u8 b 0 != 0, 0⟩, resv b 1 3]
  issue s n e :=
    let g := e.body.group.toNat
    let mask := u8 e.body.payload 0
    let l := (s.slice n).named g mask
    ((s.modSlice n (fun x => x.without g mask)).dropItems l).complete n e.seq S_DONE 0

/-- WRITEBACK (R111, R224). -/
def opWriteback : OpDef where
  code := 0x0204
  len := fixedLen 8
  who := .zero
  checks s p n m :=
    let b := m.payload
    let o := u8 b 0; let h := u16 b 2
    let (ha, va) := p.active o
    chkOut p o 0 ++ [⟨10, 1 < u8 b 1, 1⟩, resv b 4 4] ++
    (if bit (u8 b 1) 0 then
      chkHandle p n h 2 ++
      (match p.surf n h with
       | some u => [⟨10, u.format != 9 && u.format != 10, 2⟩, ⟨11, u.width < ha || u.height < va, 2⟩]
       | none => []) ++ [⟨12, s.layerSource p n h, 2⟩]
     else [])
  issue s n e :=
    let b := e.body.payload
    (s.modSlice n (fun x => x.stage 0 (u8 b 0) (.writeback (u8 b 0) (bit (u8 b 1) 0) (u16 b 2)))).complete n e.seq S_DONE 0

/-! ## COLOUR_LOAD and SCALER_LOAD -/

/-- `l` with the words `ws` from index `i`. -/
def putWords (l : List Nat) (i : Nat) (ws : List Nat) : List Nat := l.take i ++ ws ++ l.drop (i + ws.length)

/-- The 32-bit words from offset `o`. -/
def wordsAt (b : List Byte) (o n : Nat) : List Nat := (List.range n).map (fun i => u32 b (o + 4 * i))

/-- Writes words into the inactive bank of a pipeline (R246). -/
def State.colourWrite (s : State) (o what start : Nat) (ws : List Nat) : State :=
  s.modOu o (fun x => { x with colour :=
    if what = 0 then { x.colour with mIn := putWords x.colour.mIn start ws }
    else { x.colour with lIn := (ws.zip (List.range ws.length)).foldl (fun l p => Lut.set l (start + p.2) p.1) x.colour.lIn } })

/-- A word of a matrix load with a bit where R242 wants 0. -/
def matWordBad (i w : Nat) : Bool := if i < 9 then w / 2 ^ 16 != 0 else w / 2 ^ 12 != 0

/-- COLOUR_LOAD (R116, R242, R244, R246). -/
def opColourLoad : OpDef where
  code := 0x0304
  len m := max 12 (8 + 4 * u16 m.payload 4)
  who := .zero
  checks _ p _ m :=
    let b := m.payload
    let what := u8 b 1; let start := u16 b 2; let cnt := u16 b 4
    let ws := wordsAt b 8 cnt
    chkOut p (u8 b 0) 0 ++ [⟨10, 1 < what, 1⟩, ⟨10, what == 0 && start != 0, 2⟩,
      ⟨10, (what == 0 && cnt != 12) || cnt == 0, 4⟩, resv b 6 2] ++
    (match firstIdx cnt (fun i => let w := ws.getD i 0; if what = 0 then matWordBad i w else w / 2 ^ 30 != 0) with
     | some i => [⟨10, true, 8 + 4 * i⟩]
     | none => []) ++ [⟨11, what == 1 && 1024 < start + cnt, 2⟩]
  ready s _ e :=
    let o := u8 e.body.payload 0
    !(s.ou o).colour.busy && !s.itemPends (1, o, 0) && !s.itemPends (1, o, 1)
  issue s n e :=
    let b := e.body.payload
    let o := u8 b 0
    let s := s.colourWrite o (u8 b 1) (u16 b 2) (wordsAt b 8 (u16 b 4))
    (s.modSlice n (fun x => x.stage 0 o (.colour o (u8 b 1)))).complete n e.seq S_DONE 0

/-- Taps per phase of an axis. -/
def tapsOf (axis : Nat) : Nat := if axis = 0 then 8 else 6

/-- Coefficient `j` of phase `i` in a SCALER_LOAD payload. -/
def scalerTap (b : List Byte) (axis i j : Nat) : Int := i16 b (8 + 2 * (i * tapsOf axis + j))

/-- The taps of phase `i` of the payload. -/
def scalerTaps (b : List Byte) (axis i : Nat) : List Int := (List.range (tapsOf axis)).map (scalerTap b axis i)

/-- Payload offset of the first offending coefficient (R233). -/
def scalerBad (b : List Byte) (axis cnt : Nat) : Option Nat :=
  (List.range cnt).findSome? (fun i =>
    let t := scalerTaps b axis i
    match firstIdx (tapsOf axis) (fun j => t.getD j 0 < -8192 || 8191 < t.getD j 0) with
    | some j => if t.foldl (· + ·) 0 = 4096 then some (8 + 2 * (i * tapsOf axis + j)) else some (8 + 2 * (i * tapsOf axis))
    | none => if t.foldl (· + ·) 0 = 4096 then none else some (8 + 2 * (i * tapsOf axis)))

/-- SCALER_LOAD (R117, R233, R237-R239). -/
def opScalerLoad : OpDef where
  code := 0x0305
  len m := 8 + max 1 (u8 m.payload 3) * (2 * tapsOf (u8 m.payload 1))
  who := .zero
  checks _ _ _ m :=
    let b := m.payload
    [⟨10, 7 < u8 b 0, 0⟩, ⟨10, 1 < u8 b 1, 1⟩, ⟨10, 63 < u8 b 2, 2⟩, ⟨10, u8 b 3 = 0 || 64 < u8 b 3, 3⟩, resv b 4 4] ++
    (match scalerBad b (u8 b 1) (u8 b 3) with
     | some o => [⟨10, true, o⟩]
     | none => []) ++ [⟨11, 64 < u8 b 2 + u8 b 3, 2⟩]
  ready s _ e :=
    let k := u8 e.body.payload 0
    !(s.scl k).busy && !s.itemPends (2, k, 0) && !s.itemPends (2, k, 1)
  issue s n e :=
    let b := e.body.payload
    let k := u8 b 0; let a := u8 b 1
    let load := fun (z : CoefBank) => foldN (u8 b 3) (fun z i => CoefBank.set z (u8 b 2 + i) (scalerTaps b a i)) z
    let s := s.modScl k (fun z => if a = 0 then { z with hIn := load z.hIn } else { z with vIn := load z.vIn })
    match s.scalerHolder k with
    | some l =>
      let o := (s.lay l).output
      (s.modSlice n (fun x => x.stage 0 o (.scaler o k a))).complete n e.seq S_DONE 0
    | none => s.applyItem (.scaler 0 k a)

/-- Opcodes of the compositor. -/
def layerOps : List OpDef :=
  [opLayerAssign, opLayerSet, opCommit, opStageDiscard, opWriteback, opColourLoad, opScalerLoad]

/-! ## Binding -/

/-- A member has a blocking condition (R208). -/
def State.blocked (s : State) (c : PCommit) (m : Nat) : Bool :=
  !s.scanning m ||
  (s.disp.commits.takeWhile (fun d => !(d.slice == c.slice && d.seq == c.seq))).any (fun d =>
    d.slice == c.slice && d.members.contains m && d.bound.isEmpty)

/-- Changes a pending commit. -/
def State.modCommit (s : State) (n : Nat) (seq : Word) (f : PCommit → PCommit) : State :=
  s.modDisp (fun d => { d with commits := d.commits.map (fun c => if c.slice == n && c.seq == seq then f c else c) })
/-- Removes a pending commit. -/
def State.dropCommit (s : State) (n : Nat) (seq : Word) : State :=
  s.modDisp (fun d => { d with commits := d.commits.filter (fun c => !(c.slice == n && c.seq == seq)) })

/-- The slot value of a bound commit (R109, R212). -/
def PCommit.value (c : PCommit) : Nat :=
  let low := match c.bound with
    | b :: _ => (b.2 + 1).toNat
    | [] => 0
  low + 2 ^ 32 * (maskOf c.members + 2 ^ 8 * c.held + 2 ^ 16 * b2n c.late)

/-- Binds a commit to given cut-offs and judges its DEADLINE (R211, R218). -/
def State.bindTo (s : State) (c : PCommit) (cuts : List (Nat × Word)) : State :=
  let deadline := match (s.slice c.slice).entry c.seq with
    | some e => e.body.deadline
    | none => 0
  let first := match cuts with
    | b :: _ => b.2
    | [] => 0
  if missesDeadline deadline (first + 1) then
    ((s.dropCommit c.slice c.seq).dropItems c.items).completeOpen c.slice c.seq E_DEADLINE
  else
    let isLate := fun m => c.inBlank.any (fun b => b.1 == m && cuts.contains (m, b.2 + 1))
    let s := (c.members.filter isLate).foldl (fun s m => s.setFlag (R.CMP_OUT_STAT m) 16 true) s
    let s := s.modDisp (fun d => { d with bindNo := d.bindNo + 1 })
    s.modCommit c.slice c.seq (fun c => { c with
      bound := cuts
      bindNo := s.disp.bindNo
      late := match c.members with | m :: _ => isLate m | [] => false })

/-- COMMIT_BIND: the compositor binds a commit none of whose members is blocked (R207, R208). A STANDBY device binds only as
the ACTIVE device forwards (R214). -/
def execCommitBind (n : Fin 16) (seq : Word) (s : State) : Out :=
  .next (match s.disp.commits.find? (fun c => c.slice == n.val && c.seq == seq) with
  | some c =>
    if s.leads && s.boot.warmStep = 0 && c.bound.isEmpty && !c.members.any (s.blocked c) then
      s.bindTo c (c.members.map (fun m => (m, s.frameNo m + 1)))
    else s
  | none => s)

/-! ## Composition -/

/-- One pixel of a pass (R196, R221): `bad` lists the layer words that the fetch lost. -/
def State.composePx (s : State) (n : Nat) (frame : Nat) (bad : List (Nat × Nat)) (x y : Nat) : Px :=
  let (h, v) := s.active n
  let bg := s.reg (R.CMP_OUT_BG n)
  let d := (s.layersOn n).foldl (fun d p =>
    let c := p.2.com
    match p.2.slice.bind (fun sl => s.surf sl c.surface) with
    | some u =>
      if (c.clip h v).has x y && !(c.words u x y).any (fun w => bad.contains (p.1, w)) then
        let z := match p.2.scaler with
          | some k => s.scl k
          | none => ScalerSt.reset
        blendPx c.mode c.planeAlpha (c.source u z.hAct z.vAct x y) d
      else d
    | none => d) (⟨bits bg 20 10, bits bg 10 10, bits bg 0 10, 255⟩ : Px)
  colourPipe (s.reg (R.CMP_OUT_CCTRL n)) (s.ou n).colour.mAct (s.ou n).colour.lAct (s.fld (R.SCN_OUT_LNK_CFG n) 8 4) frame x y d

/-- Writes one finished pixel into the back buffer and the write-back surface (R196 step 4, R222, R295). -/
def State.putPx (s : State) (n x y : Nat) (w : Nat) : State :=
  let s := s.anvilWrite (s.bufAddr n (1 - s.front n) x y) (leBytes 4 w)
  match (s.ou n).wbPass.bind (s.surf 0) with
  | some u => s.putSurf 0 (u.write (u.pixelOff x y) (leBytes 4 (w + if u.format = 9 then 3 * 2 ^ 30 else 0)))
  | none => s

/-- Composes frame `frame` of output `n` whole (R196). -/
def State.compose (s : State) (n frame : Nat) (bad : List (Nat × Nat)) : State :=
  let (h, v) := s.active n
  foldN v (fun s y => foldN h (fun s x => s.putPx n x y (s.composePx n frame bad x y).word) s) s

/-- Lines whose last word, half inside the active area, could not be read for the merge: the half outside becomes 0 (R287). -/
def State.mergeLost (s : State) (n : Nat) (ys : List Nat) : State :=
  let (h, _) := s.active n
  if h % 2 = 0 then s else
  ys.foldl (fun s y =>
    let a := s.bufAddr n (1 - s.front n) h y
    (s.anvilWrite a (leBytes 4 0)).anvUe a 2 (dieChannel a) 0x01) s

/-- Marks engines failed: test tile (class 7) or parity (class 3) (R220). -/
def State.failEngines (s : State) (tile parity : Nat) : State :=
  let s := s.setReg R.CMP_ENG_FAIL (s.reg R.CMP_ENG_FAIL ||| tile % 16 ||| parity % 16)
  let s := (s.setFld R.CMP_ID 4 4 s.engines).setReg R.CMP_LIMIT (3168 * s.engines)
  let s := (maskList 4 tile).foldl (fun s k => s.slagX 7 k 0x08 { isolate := true } false false) s
  (maskList 4 parity).foldl (fun s k => s.slagX 3 k 0x04 { isolate := true } false false) s

/-- The write-back target of a pass that has ended (R223, R224). -/
def State.endWriteback (s : State) (n : Nat) (complete : Bool) : State :=
  match (s.ou n).wbPass with
  | some h =>
    let s := (s.setFld (R.CMP_OUT_WB n) 16 16 h).setFlag (R.CMP_OUT_WB n) 1 (!complete)
    let s := if complete then s.setReg (R.CMP_OUT_WB_FRAME n) (s.frameNo n + 1).toNat else s
    s.modOu n (fun o => { o with wbPass := none })
  | none => s

/-- A pass in progress is abandoned for a cause (R219, R220). -/
def State.abandonPass (s : State) (n cause : Nat) : State :=
  if (s.ou n).pass == .running then
    ((s.modOu n (fun o => { o with pass := .abandoned cause })).endWriteback n false).incWrap R.CMP_MISSES 0 32
  else s

/-- PASS_COMPLETE: the pass in progress ends after `us`, with the lost layer words, lost merge reads and engine failures it
met; without `finish` the engines left cannot end it in time and it is abandoned (R216 steps 5 and 6, R220-R223). -/
def execPassComplete (n : Fin 8) (us : Nat) (bad : List (Fin 64 × Nat)) (merges : List Nat) (tile parity : BitVec 4)
    (finish : Bool) (s : State) : Out :=
  .next (
    let n := n.val
    if (s.ou n).pass != .running then s else
    let s := s.failEngines tile.toNat parity.toNat
    let lost := bad.map (fun p => (p.1.val, p.2))
    let s := s.compose n (s.frameNo n + 1).toNat lost
    let s := s.mergeLost n merges
    let s := if bad.isEmpty then s else (s.modOu n (fun o => { o with dataErr := true })).slagErr 2 n 0x01
    if finish then
      let s := s.setFld (R.CMP_OUT_PASS n) 16 16 (max (s.fld (R.CMP_OUT_PASS n) 16 16) (sat 16 us))
      let s := s.setFld (R.CMP_OUT_PASS n) 0 16 (sat 16 us)
      (s.endWriteback n true).modOu n (fun o => { o with pass := .complete })
    else s.abandonPass n 19)

/-! ## The cut-off in FAB -/

/-- Step 1 of R216: buffers swap, or the frame repeats with its cause (R219). -/
def State.swapBuffers (s : State) (n : Nat) : State :=
  let o := s.ou n
  let s := if o.pass == .running then s.endWriteback n false else s
  let s := if o.dataErr then (s.modOu n (fun o => { o with dataErr := false })).setFlag (R.CMP_OUT_STAT n) 18 true else s
  match o.pass with
  | .complete => s.setFld (R.SCN_OUT_STAT n) 4 1 (s.front n + 1)
  | .idle => s.incWrap (R.CMP_OUT_STAT n) 0 16
  | .running => ((s.incWrap (R.CMP_OUT_STAT n) 0 16).setFlag (R.CMP_OUT_STAT n) 17 true).incWrap R.CMP_MISSES 0 32
  | .abandoned c => (s.incWrap (R.CMP_OUT_STAT n) 0 16).setFlag (R.CMP_OUT_STAT n) c true

/-- One commit bound to this cut-off applies on output `n`; after its last member it completes (R210, R212). -/
def State.applyBound (s : State) (n : Nat) (c : PCommit) : State :=
  let s := (s.applyCommit c n).incWrap (R.CMP_OUT_COMMITS n) 16 16
  let s := s.modCommit c.slice c.seq (fun c => { c with applied := n :: c.applied })
  let s := s.modSlice c.slice (fun x => x.modEntry c.seq (fun e =>
    { e with applied := some (BitVec.ofNat 16 S_DONE, BitVec.ofNat 64 c.value) }))
  if c.members.all (fun m => m == n || c.applied.contains m) then
    (s.dropCommit c.slice c.seq).complete c.slice c.seq S_DONE c.value
  else s

/-- Step 3 of R216: bound commits apply in binding order; unbound ones are counted as held back (R212, R213, R228). -/
def State.cutFab (s : State) (n : Nat) (f : Word) : State :=
  let held := s.disp.commits.any (fun c => c.members.contains n && c.bound.isEmpty)
  let s := s.setReg (R.CMP_OUT_FRAME n) f.toNat
  let s := s.modDisp (fun d => { d with commits := d.commits.map (fun c =>
    if c.bound.isEmpty && c.members.head? == some n then { c with held := sat 8 (c.held + 1) } else c) })
  let due := sortBy (·.bindNo) (s.disp.commits.filter (fun c => c.bound.contains (n, f)))
  let s := due.foldl (fun s c => s.applyBound n c) s
  let s := s.setFlag (R.CMP_OUT_STAT n) 21 held
  let left := (s.disp.commits.filter (fun c => c.members.contains n && !c.applied.contains n)).length
  (s.setFld (R.CMP_OUT_COMMITS n) 0 8 left).showCommitted n

/-- Passes start in RUN, and not between a warm reset and its seal (R219). -/
def State.composes (s : State) : Bool := s.power.st = 0 && s.power.step = 0 && s.boot.warmStep = 0

/-- Step 4 of R216: the pass for the next frame starts, or none does (R219). -/
def State.startPass (s : State) (n : Nat) : State :=
  if s.composes then s.modOu n (fun o => { o with pass := .running, wbPass := o.wb })
  else s.modOu n (fun o => { o with pass := .idle })

/-! ## Copy-backs -/

/-- SCALER_COPY_DONE: the active banks have been copied into the inactive ones (R237, R238). -/
def execScalerCopyDone (k : Fin 8) (s : State) : Out :=
  .next (
    let k := k.val
    if !(s.scl k).busy then s else
    let s := s.modScl k (fun z => { z with
      busy := false
      hIn := if s.itemWaits (2, k, 0) then z.hIn else z.hAct
      vIn := if s.itemWaits (2, k, 1) then z.vIn else z.vAct })
    ((s.slice 0).journal.filter (fun e => e.st == .openIssued && e.body.opcode.toNat == 0x0305 &&
      u8 e.body.payload 0 == k)).foldl (fun s e => s.complete 0 e.seq S_DONE 0) s)

/-- COLOUR_COPY_DONE (R246). -/
def execColourCopyDone (n : Fin 8) (s : State) : Out :=
  .next (
    let n := n.val
    if !(s.ou n).colour.busy then s else
    s.modOu n (fun o => { o with colour := { o.colour with
      busy := false
      mIn := if s.itemWaits (1, n, 0) then o.colour.mIn else o.colour.mAct
      lIn := if s.itemWaits (1, n, 1) then o.colour.lIn else o.colour.lAct } }))

end Sys2Proof.Machine
end

