-- ==== Sys2Proof/Machine/Power.lean ====
section
/-! DEFINITION. Wake sources of the Bellows ladder (R668-R670). -/
namespace Sys2Proof.Machine

/-- Changes the ladder. -/
def State.modPow (s : State) (f : Power → Power) : State := { s with power := f s.power }

/-- The sources of R668 that work in a state. -/
def wakeWorks (pair : Bool) (st : Nat) : Nat :=
  if st = 1 || st = 2 then 0x3B + (if pair then 4 else 0)
  else if st = 3 || st = 4 then 0xB + (if pair then 4 else 0)
  else if st = 5 then 9 + (if pair then 4 else 0)
  else 0

/-- The lowest set bit of a mask of sources. -/
def lowBit (m : Nat) : Nat := (firstIdx 6 (fun i => m.testBit i)).getD 0

/-- The sources of PWR_WAKE; ALARM 0 disables source 3 (R669). -/
def Power.named (p : Power) : Nat := if p.alarm = 0 then p.sources &&& 0x37 else p.sources

/-- A wake starts the exit (R663, R670). Source 7 stands for a wake that no source of R668 has caused. -/
def State.beginExit (s : State) (src group : Nat) : State :=
  s.modPow (fun p => { p with
    exiting := true, cause := (1 + src) % 8, group := if src = 1 then group else 0, count := (p.count + 1) % 65536 })

/-- The exit starts on this device and, in a pair, on the partner (R676). -/
def State.startExit (s : State) (src group : Nat) : State :=
  let s := s.beginExit src group
  if s.welded then s.ulxSend (.event (.wake src group)) else s

/-- Sources fire in one AON cycle (R668, R670). During an entry the wake is held (R667); in a state the exit starts; a wake
during an exit is merged. In a pair the wake is forwarded (R676). -/
def State.wake (s : State) (mask group : Nat) : State :=
  let p := s.power
  let fire := mask &&& p.named &&& wakeWorks s.fuses.pair (if p.step = 0 then p.st else p.target)
  if fire = 0 then s
  else if p.step ≠ 0 then
    match p.heldWake with
    | none => s.modPow (fun p => { p with heldWake := some (lowBit fire, group), merged := sat 8 (p.merged + popCount 6 fire - 1) })
    | some _ => s.modPow (fun p => { p with merged := sat 8 (p.merged + popCount 6 fire) })
  else if p.exiting then s.modPow (fun p => { p with merged := sat 8 (p.merged + popCount 6 fire) })
  else
    (s.modPow (fun p => { p with merged := sat 8 (p.merged + popCount 6 fire - 1) })).startExit (lowBit fire) group

/-- The last step of an entry ends in state `st` (R667): a held wake, or an ALARM already reached (R669), acts at once. -/
def State.arriveIn (s : State) (st : Nat) : State :=
  let s := s.modPow (fun p => { p with st := st, step := 0, entering := false, since := s.time })
  match s.power.heldWake with
  | some (src, g) => (s.modPow (fun p => { p with heldWake := none })).startExit src g
  | none => if s.ptpLocked && s.power.alarm ≤ s.net.time then s.wake 8 0 else s

end Sys2Proof.Machine
end

