-- ==== Sys2Proof/Machine/Haptic.lean ====
section
/-! DEFINITION. The piezo haptic engine (R525-R540) and its opcodes (R138-R139). -/
namespace Sys2Proof.Machine

/-! ## Registers and arithmetic -/

/-- The key of a register that HAP_SEL or TCH_GSEL banks. -/
def banked (off n : Nat) : Nat := off + bankStride * n
/-- Channel `n`. -/
def State.hap (s : State) (n : Nat) : Hap := s.haps.getD n Hap.reset
/-- Changes channel `n`. -/
def State.modHap (s : State) (n : Nat) (f : Hap → Hap) : State := { s with haps := modAt s.haps n f }

/-- a / b to the nearest integer, halves up. -/
def roundDiv (a b : Nat) : Nat := if b = 0 then 0 else (2 * a + b) / (2 * b)
/-- F0_HZ of channel `n`. -/
def State.f0 (s : State) (n : Nat) : Nat := s.fld (banked R.HAP_DRV n) 0 10
/-- Tracked half period T in 10 ns. -/
def State.hapT (s : State) (n : Nat) : Nat := s.fld (banked R.HAP_FREQ n) 0 20
/-- T_MIN (R529): 5 × 10^7 / (1.2 × F0_HZ), rounded, at least 50 000. -/
def State.tMin (s : State) (n : Nat) : Nat := max 50000 (roundDiv 500000000 (12 * s.f0 n))
/-- T_MAX (R529). -/
def State.tMax (s : State) (n : Nat) : Nat := min 1000000 (roundDiv 500000000 (8 * s.f0 n))
/-- Stores T with the resonance that it stands for (R529, R540). -/
def State.setT (s : State) (n t : Nat) : State :=
  (s.setFld (banked R.HAP_FREQ n) 0 20 t).setFld (banked R.HAP_FREQ n) 20 10 (roundDiv 50000000 t)

/-- Level of effect `e`: L = 255 − 32 v (R531). -/
def effectLevel (e : Nat) : Nat := 255 - 32 * (e % 8)
/-- The segments of effect `e` (R531). -/
def effectSegs (e : Nat) : List HapSeg :=
  match e / 8 with
  | 0 => [.cycles 1]
  | 1 => [.cycles 1, .gap 60, .cycles 1]
  | 2 => [.cycles 1, .gap 60, .cycles 1, .gap 60, .cycles 1]
  | 3 => [.cycles 3]
  | 4 => [.timed 20]
  | 5 => [.timed 100]
  | 6 => [.swell 50]
  | _ => [.timed 40, .gap 40, .timed 40, .gap 40, .timed 40]

/-- Half cycles of a drive segment at half period `t`: the smallest number of whole cycles that reaches its time (R531). -/
def HapSeg.halves (g : HapSeg) (t : Nat) : Nat :=
  match g with
  | .cycles n => 2 * n
  | .timed ms => 2 * ceilDiv (ms * 100000) (2 * t)
  | .swell ms => 2 * ceilDiv (ms * 100000) (2 * t)
  | .gap _ => 0

/-- Level of half cycle `j` of a segment (R531). -/
def HapSeg.level (g : HapSeg) (t l j : Nat) : Nat :=
  match g with
  | .swell _ => l * (j + 1) / max 1 (g.halves t)
  | _ => l

/-- E = div255(level × AMPLITUDE) (R532). -/
def segmentLevel (level amp : Nat) : Nat := div255 (level * amp)
/-- Modulation depth (R527). -/
def State.hapDepth (s : State) (n e : Nat) : Nat := (e * s.fld (banked R.HAP_DRV n) 16 16 + 127) / 255
/-- High-side duty of a carrier period for a table value S[p] (R527). -/
def hapDuty (d : Nat) (sp : Int) : Int := 32768 + ((d : Int) * sp).fdiv 65536
/-- On times of the two gates in ns (R527). -/
def State.gateTimes (s : State) (n : Nat) (u : Int) : Int × Int :=
  let dt : Int := s.fld (banked R.HAP_LIM n) 0 9
  (max 0 (u * 5000 / 65536 - dt), max 0 (5000 - u * 5000 / 65536 - dt))

/-! ## Triggers and states (R533-R537) -/

/-- A HAP_PLAY ends with S_DONE. -/
def State.endTrig (s : State) (t : Option HapTrig) (lo hi : Nat) : State :=
  match t.bind (·.src) with
  | some (n, seq) => if hi = 1 then s.completeHi n seq S_DONE hi else s.complete n seq S_DONE (lo + hi * 2 ^ 32)
  | none => s

/-- A HAP_PLAY ends with another status. -/
def State.cutTrig (s : State) (t : Option HapTrig) (status : Nat) : State :=
  match t.bind (·.src) with
  | some (n, seq) => s.completeOpen n seq status
  | none => s

/-- Whether a trigger reaches the channel. -/
def Hap.takes (h : Hap) : Bool := h.st != .off && h.st != .fault && !h.stopping

/-- A trigger (R533): it starts an idle channel, is latched by a running one, and is counted by one that is OFF or in FAULT. -/
def State.trigger (s : State) (n : Nat) (t : HapTrig) : State :=
  let h := s.hap n
  if !h.takes then (s.incSat (banked R.HAP_CNT n) 16 16).endTrig (some t) 0 (if h.st == .fault then 2 else 1)
  else if h.st == .idle then s.modHap n (fun h => { h with st := .boot, cur := some t })
  else
    let s := s.endTrig h.next 0 1
    let s := if h.next.isSome then s.incSat (banked R.HAP_STAT n) 16 8 else s
    s.modHap n (fun h => { h with next := some t })

/-- Drive of the present trigger begins (R533). -/
def Hap.beginPlay (h : Hap) : Hap :=
  match h.cur with
  | some t => { h with st := .play, segs := effectSegs t.effect, half := 0, level := effectLevel t.effect, gapBrake := false,
                       wins := 0, openRun := 0, brakeRun := 0 }
  | none => { h with st := .idle }

/-- Braking of an effect ends: the effect completes and the latched trigger starts (R533, R535). -/
def State.endEffect (s : State) (n : Nat) : State :=
  let h := s.hap n
  let s := (s.endTrig h.cur (s.fld (banked R.HAP_FREQ n) 20 10) 0).incWrap (banked R.HAP_CNT n) 0 16
  s.modHap n (fun h =>
    if h.stopping then { h with st := .off, cur := none, next := none, stopping := false, segs := [] }
    else { h with cur := h.next, next := none, segs := [] }.beginPlay)

/-- A short or an open circuit (R537): FAULT, `b` the bit of HAP_STAT. -/
def State.hapFault (s : State) (n b : Nat) : State :=
  let h := s.hap n
  let s := (s.setFlag (banked R.HAP_STAT n) b true).slagErr 21 n 0x13
  let s := (s.endTrig h.cur 0 2).endTrig h.next 0 1
  s.modHap n (fun h => { h with st := if h.stopping then .off else .fault, cur := none, next := none, stopping := false, segs := [] })

/-- A window sample at 0 or 4095 (R537). -/
def railed (x : BitVec 12) : Bool := x == 0 || x == 4095
/-- A sample s (R526). -/
def sample (x : BitVec 12) : Int := (x.toNat : Int) - 2048

/-- HAP_BOOT_DONE (R533): the rest check has read `x`, and drive begins. -/
def execHapBootDone (n : Fin 8) (x : BitVec 12) (s : State) : Out :=
  .next (
    if (s.hap n.val).st ≠ .boot then s
    else if railed x && s.leads then s.hapFault n.val 4
    else
      let s := if (sample x).natAbs > 256 && s.leads then (s.setFlag (banked R.HAP_STAT n.val) 8 true).slagWarn 21 n.val 0x13 else s
      s.modHap n.val Hap.beginPlay)

/-- Crossing error of a window (R529). -/
def crossing (s0 s3 : Int) (rising : Bool) : Int :=
  if (s0 < 0) != (s3 < 0) then -1500 + (3000 * s0).tdiv (s0 - s3)
  else if 0 < s0 * (if rising then 1 else -1) then 1500 else -1500

/-- Braking: BRAKE, or the braking part of a gap. -/
def Hap.braking (h : Hap) : Bool := h.st == .brake || (h.st == .play && h.gapBrake)

/-- HAP_SENSE_WINDOW (R528, R529): tracks T, and measures R against the braking and open thresholds. -/
def execHapSenseWindow (n : Fin 8) (s0 s1 s2 s3 : BitVec 12) (rising : Bool) (s : State) : Out :=
  .next (
    let h := s.hap n.val
    if !s.leads || (h.st != .play && h.st != .brake) then s
    else if railed s0 || railed s1 || railed s2 || railed s3 then s.hapFault n.val 4
    else
      let t := s.hapT n.val
      let e := crossing (sample s0) (sample s3) rising
      let t' := clampI (s.tMin n.val) (s.tMax n.val) ((t : Int) + e.tdiv 4)
      let tn := t'.toNat
      let r := (sample s3 - sample s0).natAbs * (tn / 100) * 100 / 9425
      let clamped := tn = s.tMin n.val || tn = s.tMax n.val
      let low := r < s.fld (banked R.HAP_TIM n.val) 0 12
      let opn := r < s.fld (banked R.HAP_LIM n.val) 16 12
      (s.setT n.val tn).modHap n.val (fun h => { h with
        resid := r
        clampRun := if clamped then h.clampRun + 1 else 0
        brakeRun := if h.braking && low then h.brakeRun + 1 else 0
        half := h.half + 1
        wins := if h.st == .play && !h.braking then h.wins + 1 else h.wins
        openRun := if h.st == .play && !h.braking && 2 ≤ h.wins && opn then h.openRun + 1 else 0 }))

/-- HAP_OPEN_FAULT (R537). -/
def execHapOpenFault (n : Fin 8) (s : State) : Out :=
  .next (if (s.hap n.val).st = .play && 4 ≤ (s.hap n.val).openRun then s.hapFault n.val 5 else s)

/-- HAP_UNLOCK (R530). -/
def execHapUnlock (n : Fin 8) (s : State) : Out :=
  .next (if 8 ≤ (s.hap n.val).clampRun then
      ((s.setFlag (banked R.HAP_STAT n.val) 6 true).slagWarn 21 n.val 0x13).modHap n.val (fun h => { h with clampRun := 0 })
    else s)

/-- HAP_SEGMENT_END (R531, R533): the next drive segment, a gap that brakes, or the final braking. -/
def execHapSegmentEnd (n : Fin 8) (s : State) : Out :=
  .next (
    let h := s.hap n.val
    if h.st ≠ .play || h.gapBrake then s
    else match h.segs with
      | .gap _ :: _ => s
      | _ :: .gap g :: r => s.modHap n.val (fun h => { h with segs := .gap g :: r, gapBrake := true, brakeRun := 0, half := 0 })
      | _ :: g :: r => s.modHap n.val (fun h => { h with segs := g :: r, half := 0 })
      | _ => s.modHap n.val (fun h => { h with st := .brake, segs := [], brakeRun := 0 }))

/-- HAP_GAP_END (R531): the gap's time has passed, the next drive segment starts. -/
def execHapGapEnd (n : Fin 8) (s : State) : Out :=
  .next (
    let h := s.hap n.val
    match h.st, h.segs with
    | .play, .gap _ :: r => s.modHap n.val (fun h => { h with segs := r, gapBrake := false, half := 0 })
    | _, _ => s)

/-- Braking ends: of a gap, the gates stay off; of the effect, it completes. -/
def State.brakeEnd (s : State) (n : Nat) : State :=
  if (s.hap n).st == .brake then s.endEffect n else s.modHap n (fun h => { h with gapBrake := false })

/-- HAP_BRAKE_END (R533): R below BRAKE_TH in two consecutive windows. -/
def execHapBrakeEnd (n : Fin 8) (s : State) : Out :=
  .next (if (s.hap n.val).braking && 2 ≤ (s.hap n.val).brakeRun then s.brakeEnd n.val else s)

/-- HAP_BRAKE_TIMEOUT (R534): 10 ms of braking. -/
def execHapBrakeTimeout (n : Fin 8) (s : State) : Out :=
  .next (if (s.hap n.val).braking then (s.setFlag (banked R.HAP_STAT n.val) 7 true).brakeEnd n.val else s)

/-- A warm reset, a reset of the HAP block, or a takeover: the effect in progress ends with E_RESET_CUT (R539, R457). -/
def State.hapCut (s : State) (n : Nat) (keepLatched : Bool) : State :=
  let h := s.hap n
  let s := s.cutTrig h.cur E_RESET_CUT
  let s := if keepLatched then s else s.cutTrig h.next E_RESET_CUT
  s.modHap n (fun h =>
    let st := if h.st == .off || h.stopping then .off else if h.st == .fault then .fault else .idle
    let h := { h with st := st, cur := none, segs := [], stopping := false, gapBrake := false }
    match (if keepLatched then h.next else none) with
    | some t => { h with st := .boot, cur := some t, next := none }
    | none => { h with next := none })

/-- QUENCH of scope DEVICE (R155, R539): PLAY enters BRAKE, the latched trigger is discarded, HAP_PLAY billets end. -/
def State.hapQuench (s : State) (n : Nat) : State :=
  let h := s.hap n
  let s := (s.cutTrig h.cur E_QUENCHED).cutTrig h.next E_QUENCHED
  s.modHap n (fun h => { h with
    next := none
    cur := h.cur.map (fun t => { t with src := none })
    st := if h.st == .play then .brake else if h.st == .boot then .idle else h.st
    segs := [], gapBrake := false, brakeRun := 0 })

/-! ## Opcodes -/

/-- An enabled channel in projected state: not OFF, and no disable in progress. -/
def Hap.enabled (h : Hap) : Bool := h.st != .off && !h.stopping

/-- HAP_CONFIG (R138, R535). -/
def opHapConfig : OpDef where
  code := 0x0703
  len := fixedLen 16
  nature := .trans
  checks _ p _ m :=
    let b := m.payload
    let n := u8 b 0
    let changed := p.f0 n != u16 b 2 || p.fld (banked R.HAP_DRV n) 16 16 != u16 b 4 || p.fld (banked R.HAP_TIM n) 0 12 != u16 b 6
    chkOut p n 0 ++ [⟨10, 1 < u8 b 1, 1⟩, ⟨10, u16 b 2 < 50 || 1000 < u16 b 2, 2⟩, ⟨10, 4095 < u16 b 6, 6⟩, resv b 8 8,
     ⟨12, (p.hap n).enabled && changed, 0⟩]
  who := .zero
  issue s n e :=
    let b := e.body.payload
    let k := u8 b 0
    let h := s.hap k
    let s := (s.setReg (banked R.HAP_DRV k) (u16 b 2 + u16 b 4 * 2 ^ 16)).setFld (banked R.HAP_TIM k) 0 12 (u16 b 6)
    let s :=
      if bit (u8 b 1) 0 then
        if h.st == .off then
          let s := ((s.setFlag (banked R.HAP_STAT k) 4 false).setFlag (banked R.HAP_STAT k) 5 false).setT k (roundDiv 50000000 (u16 b 2))
          s.modHap k (fun _ => { Hap.reset with st := .idle })
        else s.modHap k (fun h => { h with stopping := false })
      else
        let s := (s.endTrig h.next 0 1).modHap k (fun h => { h with next := none })
        if h.st == .idle || h.st == .fault then s.modHap k (fun h => { h with st := .off })
        else if h.st == .off then s
        else s.modHap k (fun h => { h with stopping := true })
    s.complete n e.seq S_DONE 0

/-- The slices that own a haptic channel: those of the groups that fire it. -/
def State.ownsHap (s : State) (n k : Nat) : Bool := s.touch.any (fun g => g.configured && g.haptic == some k && g.slice == n)

/-- HAP_PLAY (R139, R535). -/
def opHapPlay : OpDef where
  code := 0x0704
  len := fixedLen 4
  slot := true
  nature := .transient
  checks _ p n m :=
    let b := m.payload
    let k := u8 b 0
    chkOut p k 0 ++ [⟨8, n != 0 && !p.ownsHap n k, 0⟩, ⟨10, 63 < u8 b 1, 1⟩, resv b 3 1,
     ⟨12, (p.hap k).st == .fault || !(p.hap k).enabled, 0⟩]
  issue s n e := s.trigger (u8 e.body.payload 0) ⟨u8 e.body.payload 1, u8 e.body.payload 2, some (n, e.seq)⟩

/-- Haptic opcodes. -/
def hapticOps : List OpDef := [opHapConfig, opHapPlay]

end Sys2Proof.Machine
end

