-- ==== Sys2Proof/Machine/Hardy.lean ====
section
/-! DEFINITION. The Hardy layer and output verification: the plane (R250-R256), the final pixel (R257), region CRCs and
verdicts (R260-R275), the limp-home display (R276-R281), and opcode class 0x04 (R119-R124). -/
namespace Sys2Proof.Machine

/-! ## The plane -/

/-- A plane header (R251). -/
structure Plane where
  x : Nat
  y : Nat
  w : Nat
  h : Nat
  deriving DecidableEq, Repr

/-- Bytes of a Hardy buffer (R250). -/
def hardyBytes : Nat := 0x400000

/-- The live buffer; the other one is pending. -/
def Hardy.live (d : Hardy) : Nat := b2n d.live1
/-- The pending buffer. -/
def Hardy.pendBuf (d : Hardy) : Nat := 1 - d.live

/-- BAR2 offset of a byte of a Hardy buffer (R291). -/
def State.hardyAddr (s : State) (n buf off : Nat) : Nat :=
  granuleAt ((s.hd n).granules.getD (2 * buf + off / granuleBytes) 0) + off % granuleBytes

/-- Bytes of a Hardy buffer, read one by one across granules. -/
def State.hardyRead (s : State) (n buf off len : Nat) : List Byte :=
  (List.range len).map (fun i => s.disp.anvil.get none (s.hardyAddr n buf (off + i)))
/-- Writes bytes to a Hardy buffer. -/
def State.hardyWrite (s : State) (n buf off : Nat) (bs : List Byte) : State :=
  (bs.zip (List.range bs.length)).foldl (fun s p => s.anvilWrite (s.hardyAddr n buf (off + p.2)) [p.1]) s

/-- The header of a buffer. -/
def State.planeOf (s : State) (n buf : Nat) : Plane :=
  let b := s.hardyRead n buf 0 8
  ⟨u16 b 0, u16 b 2, u16 b 4, u16 b 6⟩

/-- Plane pixel (u, v) (R252). -/
def State.planePixel (s : State) (n buf : Nat) (p : Plane) (u v : Nat) : Nat :=
  leNat (s.hardyRead n buf (0x40 + 4 * (v * p.w + u)) 4)

/-- The opaque live plane pixel at (x, y), if there is one (R252, R257). -/
def State.hardyPixel (s : State) (n : Nat) (p : Plane) (x y : Nat) : Option Nat :=
  if p.x ≤ x && x < p.x + p.w && p.y ≤ y && y < p.y + p.h then
    let h := s.planePixel n (s.hd n).live p (x - p.x) (y - p.y)
    if h / 2 ^ 30 % 4 = 0 then none else some (h % 2 ^ 30)
  else none

/-- A plane with W or H 0 lies within any area (R254). -/
def Plane.within (p : Plane) (h v : Nat) : Bool := p.w = 0 || p.h = 0 || (p.x + p.w ≤ h && p.y + p.h ≤ v)

/-! ## The limp image and the final pixel -/

/-- The limp pixel (R276, R277). -/
def State.limpPixel (s : State) (h v x y : Nat) : Nat :=
  let m : Int := if 1600 ≤ h && 960 ≤ v then 2 else 1
  let x0 := ((h : Int) - m * 800).fdiv 2
  let y0 := ((v : Int) - m * 480).fdiv 2
  let u := ((x : Int) - x0).fdiv m; let w := ((y : Int) - y0).fdiv m
  let idx := if 0 ≤ u && u < 800 && 0 ≤ w && w < 480 then
      let i := w.toNat * 800 + u.toNat
      bits (s.disp.limp.image.get none (i / 2)).toNat (4 * (i % 2)) 4
    else 0
  s.disp.limp.palette.getD idx 0

/-- Active size that the generator scans. -/
def State.scanArea (s : State) (n : Nat) : Nat × Nat :=
  match s.scanTim n with
  | some t => (t.hact, t.vact)
  | none => (0, 0)

/-- The limp-home display is shown on output `n`. -/
def State.limpOn (s : State) (n : Nat) : Bool := n == 0 && s.disp.limp.shown

/-- The final pixel (R257). -/
def State.finalPixel (s : State) (n x y : Nat) : Nat :=
  let (h, v) := s.scanArea n
  if s.limpOn n then s.limpPixel h v x y
  else match s.hardyPixel n (s.planeOf n (s.hd n).live) x y with
    | some c => c
    | none => s.bufPixel n (s.front n) x y

/-- A colour word with each component cut to the panel depth (R260, R331). -/
def cutDepth (bpc w : Nat) : Nat :=
  let c := fun lo => bits w lo 10 / 2 ^ (10 - bpc) * 2 ^ (10 - bpc) * 2 ^ lo
  c 0 + c 10 + c 20

/-- Coordinates of a rectangle in raster order. -/
def raster (x y w h : Nat) : List (Nat × Nat) :=
  (List.range h).flatMap (fun j => (List.range w).map (fun i => (x + i, y + j)))

/-- The stream of a region CRC (R260). -/
def hardyStream (n r : Nat) (f : Word) (px : List Nat) : List Byte :=
  leBytes 4 f.toNat ++ leBytes 4 (n * 256 + r) ++ px.flatMap (leBytes 4)

/-- The expected value of a live region for frame `f` (R261): every final pixel taken as the Hardy pixel. -/
def State.expected (s : State) (n r : Nat) (g : HRegion) (f : Word) : Word :=
  let p := s.planeOf n (s.hd n).live
  crc32c (hardyStream n r f ((raster g.x g.y g.w g.h).filterMap (fun q =>
    (s.hardyPixel n p q.1 q.2).map (cutDepth (s.bpc n)))))

/-- The expected value of the limp check (R281): region 16 over the displayed image, clipped to the active area. -/
def State.limpExpected (s : State) (f : Word) : Word :=
  let (h, v) := s.scanArea 0
  let m := if 1600 ≤ h && 960 ≤ v then 2 else 1
  let w := min h (m * 800); let hh := min v (m * 480)
  crc32c (hardyStream 0 16 f ((raster ((h - w) / 2) ((v - hh) / 2) w hh).map (fun q =>
    cutDepth (s.bpc 0) (s.limpPixel h v q.1 q.2))))

/-- The full-output CRC (R275). -/
def State.fullCrc (s : State) (n : Nat) (f : Word) : Word :=
  let (h, v) := s.scanArea n
  crc32c (hardyStream n 0xFF f ((raster 0 0 h v).map (fun q => cutDepth (s.bpc n) (s.finalPixel n q.1 q.2))))

/-! ## Regions -/

/-- Verdict state of region `r`. -/
def State.hv (s : State) (n r : Nat) : HVerdict := (s.hd n).st.getD r HVerdict.reset
/-- Changes it. -/
def State.modHv (s : State) (n r : Nat) (f : HVerdict → HVerdict) : State :=
  s.modHd n (fun d => { d with st := modAt d.st r f })
/-- A region's check is enabled. -/
def HRegion.on (g : HRegion) : Bool := bit g.ctrl 0
/-- Enabled regions of a table. -/
def enabledRegions (l : List HRegion) : List Nat := (List.range 16).filter (fun r => (l.getD r HRegion.reset).on)
/-- REACTION (R119). -/
def HRegion.reaction (g : HRegion) : Nat := bits g.ctrl 1 3

/-- A region of OUT0 with REACTION 3 is latched (R280). -/
def State.limpLatched (s : State) : Bool :=
  (List.range 16).any (fun r => (s.hv 0 r).latched && ((s.hd 0).regs.getD r HRegion.reset).reaction == 3)

/-- Suspension of an output begins or ends (R259, R281). -/
def State.updSusp (s : State) (n : Nat) : State :=
  let now := enabledRegions (s.hd n).regs ≠ [] && (!s.scanning n || s.limpOn n)
  let was := (s.hd n).susp
  let s := s.modHd n (fun d => { d with susp := now })
  if now && !was then s.slagWarn 5 n 0x06 else s

/-- OUT0 comes up from the limp output record (R278): steps 2 to 6 of R304. -/
def State.bringUpLimp (s : State) (b : List Byte) : State :=
  let s := s.setFlag R.HRD_STAT 11 true
  let s := s.modLimp (fun l => { l with tim := some (timingOf (b.drop 16)), trigger := some s.time })
  s.modOu 0 (fun o => { o with gen := .panelOn, blankAt := s.time })

/-- A trigger of the limp-home display (R278, R279). During an entry into DAMP it wakes the device as if by a source (R677);
no source of R668 is recorded for it. -/
def State.limpTrigger (s : State) : State :=
  let s := if s.power.step ≠ 0 && s.power.target = 2 && s.power.heldWake.isNone then
      s.modPow (fun p => { p with heldWake := some (7, 0) })
    else s
  if s.disp.limp.shown || s.disp.limp.trigger.isSome then s
  else if (s.ou 0).gen != .off && (s.ou 0).gen != .stopPanel then s.modLimp (fun l => { l with trigger := some s.time })
  else match s.boot.limpOut with
    | some b => s.bringUpLimp b
    | none => (s.slagX 6 0 0x06 {} false true).setFlag R.HRD_STAT 14 true

/-- This device holds output `n` (R426). Outside a pair it does, but for one that it has still to take from a former partner
(R453). -/
def State.holds (s : State) (n : Nat) : Bool :=
  if s.pair.take.any (fun t => t.1 == n) then false else !s.welded || s.flag R.ULX_HOLD n

/-- The partner's latest verdict for every enabled region of output `n` is match (R270). -/
def State.partnerMatches (s : State) (n : Nat) : Bool :=
  (enabledRegions (s.hd n).regs).all (fun r =>
    match s.pair.results.find? (fun p => p.1 == n && p.2.2.1 == r) with
    | some p => p.2.2.2.2
    | none => false)

/-- A region latches: Slag entry, interrupt, REACTION (R269, R270). -/
def State.latch (s : State) (n r : Nat) (f : Word) : State :=
  let s := s.modHv n r (fun v => { v with latched := true })
  match ((s.hd n).regs.getD r HRegion.reset).reaction with
  | 0 => s.slagErr 5 n 0x06
  | 2 =>
    if s.welded && s.holds n && s.partnerMatches n then
      let s := s.slagX 5 n 0x06 { takeover := true } false false
      if s.pair.ask.any (fun a => a.1 == n) then s else
      { s with pair := { s.pair with ask := (n, f) :: s.pair.ask } }.ulxSend (.tkoRequest n f)
    else s.slagX 5 n 0x06 {} false true
  | 3 => (s.slagX 5 n 0x06 { limp := true } false true).limpTrigger
  | _ => s.slagX 5 n 0x06 {} false true

/-- One verdict of a region runs through the states of R269. -/
def State.judge (s : State) (n r th : Nat) (f : Word) (bad : Bool) : State :=
  let v := s.hv n r
  if !bad then s.modHv n r (fun v => { v with count := 0 })
  else if v.latched then s.modHv n r (fun v => { v with count := sat 8 (v.count + 1) })
  else if v.count + 1 < th then s.modHv n r (fun v => { v with count := v.count + 1 })
  else (s.modHv n r (fun v => { v with count := th })).latch n r f

/-- The verdict of frame `f` for one region: measured value or missing (R268). -/
def State.verdict (s : State) (n r : Nat) (g : HRegion) (f exp : Word) (meas : Option Word) : State :=
  let bad := (s.hv n r).expErr || bit s.boot.checkerBad n || meas != some exp || (s.hd n).spoilt.contains (f, r)
  let s := s.modHv n r (fun v => { v with
    isMatch := !bad
    missing := meas.isNone
    meas := meas.getD 0
    recent := ((f, bad) :: v.recent).take 16 })
  s.judge n r g.threshold f bad

/-- Hearth clears the latch of a region, dated to its verdict of frame `g`, and applies over it the later ones (R269, R271). -/
def State.ackRegion (s : State) (n r : Nat) (g : Option Word) : State :=
  let v := s.hv n r
  let th := ((s.hd n).regs.getD r HRegion.reset).threshold
  let isG := fun (p : Word × Bool) => some p.1 == g
  let badG := match v.recent.find? isG with
    | some p => p.2
    | none => false
  let later := (v.recent.takeWhile (fun p => !isG p)).reverse
  let later := if v.recent.any isG then later else []
  let s := s.modHv n r (fun v => { v with latched := false, count := b2n badG })
  let s := if badG && th ≤ 1 then s.latch n r (g.getD 0) else s
  later.foldl (fun s p => s.judge n r th p.1 p.2) s

/-! ## The swap of a Hardy set -/

/-- Counts return to 0, latches stay (R263 step 4, R265, R269). -/
def State.clearCounts (s : State) (n : Nat) : State :=
  s.modHd n (fun d => { d with st := d.st.map (fun v => { v with count := 0, expErr := false, recent := [] }) })

/-- A Hardy set becomes live at cut-off `c` (R263 steps 4 to 6, R272). -/
def State.hardySwap (s : State) (n : Nat) (c : Word) : State :=
  match (s.hd n).commit with
  | some (sl, seq, .ready) =>
    let e := (s.slice sl).entry seq
    if missesDeadline ((e.map (·.body.deadline)).getD 0) c then
      ((s.modHd n (fun d => { d with commit := none })).setFlag (R.HRD_OUT_STAT n) 18 false).completeOpen sl seq E_DEADLINE
    else
      let d := s.hd n
      let judged := s.scanning n && !d.susp
      let old := if judged then some (c - 1, d.regs, (enabledRegions d.regs).map (fun r =>
        (r, s.expected n r (d.regs.getD r HRegion.reset) (c - 1)))) else none
      let s := s.modHd n (fun d => { d with
        live1 := !d.live1, regs := d.pend, old := old, liveAt := some c, commit := some (sl, seq, .copying) })
      let s := if judged then s else s.clearCounts n
      let p := s.planeOf n (s.hd n).live
      let s := (s.setReg (R.HRD_OUT_PLANE_XY n) (p.x + 2 ^ 16 * p.y)).setReg (R.HRD_OUT_PLANE_WH n) (p.w + 2 ^ 16 * p.h)
      let s := (s.setReg (R.HRD_OUT_LIVE n) c.toNat).setFlag (R.HRD_OUT_STAT n) 17 true
      let s := s.updSusp n
      s.complete sl seq S_DONE (c.toNat + 2 ^ 32 * maskOf (enabledRegions (s.hd n).regs))
  | _ => s

/-- The live buffer and table are copied into the pending ones (R263 step 6). -/
def State.hardyCopyBack (s : State) (n : Nat) : State :=
  match (s.hd n).commit with
  | some (_, _, .copying) =>
    let d := s.hd n
    let cp := fun (m : Mem) k => copyGranule m (d.granules.getD (2 * d.live + k) 0) (d.granules.getD (2 * d.pendBuf + k) 0)
    let s := s.modDisp (fun x => { x with anvil := cp (cp x.anvil 0) 1 })
    let s := s.modHd n (fun d => { d with pend := d.regs, commit := none })
    (s.setFlag (R.HRD_OUT_STAT n) 17 false).setFlag (R.HRD_OUT_STAT n) 18 false
  | _ => s

/-! ## The opcodes -/

/-- A HARDY_COMMIT of output `n` runs (R266). -/
def State.hardyBusy (s : State) (n : Nat) : Bool := (s.hd n).commit.isSome

/-- HARDY_REGION (R119). -/
def opHardyRegion : OpDef where
  code := 0x0400
  len := fixedLen 16
  who := .hardy
  checks _ p _ m :=
    let b := m.payload
    let c := u8 b 2
    let (h, v) := p.active (u8 b 0)
    chkOut p (u8 b 0) 0 ++ [⟨10, 15 < u8 b 1, 1⟩,
      ⟨10, 16 ≤ c || 3 < bits c 1 3 || (bits c 1 3 == 3 && u8 b 0 != 0), 2⟩, ⟨10, u8 b 3 = 0, 3⟩, resv b 0xC 4,
      ⟨11, h < u16 b 4 + u16 b 8 || v < u16 b 6 + u16 b 0xA, 4⟩]
  ready s _ e := !s.hardyBusy (u8 e.body.payload 0)
  issue s n e :=
    let b := e.body.payload
    let g : HRegion := ⟨u8 b 2, u8 b 3, u16 b 4, u16 b 6, u16 b 8, u16 b 0xA⟩
    (s.modHd (u8 b 0) (fun d => { d with pend := putAt d.pend (u8 b 1) g })).complete n e.seq S_DONE 0

/-- HARDY_WRITE (R120). -/
def opHardyWrite : OpDef where
  code := 0x0401
  len m := max 13 (12 + u32 m.payload 8)
  who := .hardy
  checks _ p _ m :=
    let b := m.payload
    chkOut p (u8 b 0) 0 ++ [resv b 1 3, ⟨10, u32 b 8 = 0 || 4052 < u32 b 8, 8⟩, ⟨11, hardyBytes < u32 b 4 + u32 b 8, 4⟩]
  ready s _ e := !s.hardyBusy (u8 e.body.payload 0)
  issue s n e :=
    let b := e.body.payload
    let o := u8 b 0
    (s.hardyWrite o (s.hd o).pendBuf (u32 b 4) ((b.drop 12).take (u32 b 8))).complete n e.seq S_DONE 0

/-- HARDY_COPY (R120, R253). -/
def opHardyCopy : OpDef where
  code := 0x0402
  len := fixedLen 16
  slot := true
  who := .hardy
  checks s p n m :=
    let b := m.payload
    let cnt := u32 b 0xC
    chkOut p (u8 b 2) 2 ++ chkHandle p n (u16 b 0) 0 ++ [resv b 3 1, ⟨10, cnt = 0, 0xC⟩] ++
    (match p.surf n (u16 b 0) with
     | some u => [⟨11, u.bytes < u32 b 4 + cnt, 4⟩]
     | none => []) ++
    [⟨11, u32 b 8 < 0x40 || hardyBytes < u32 b 8 + cnt, 8⟩, ⟨15, s.dmaFull n, fNONE⟩]
  ready s _ e := !s.hardyBusy (u8 e.body.payload 2)
  issue := State.startDma
  finish s n e r :=
    let b := e.body.payload
    let o := u8 b 2
    match s.surf n (u16 b 0) with
    | some u => s.endDma n e r none (u32 b 0xC) (fun s =>
        s.hardyWrite o (s.hd o).pendBuf (u32 b 8) (u.read (u32 b 4) (u32 b 0xC)))
    | none => s

/-- HARDY_COMMIT (R121, R254, R263, R267). -/
def opHardyCommit : OpDef where
  code := 0x0403
  len := fixedLen 4
  slot := true
  takesD := true
  who := .hardy
  nature := .trans
  checks _ p _ m :=
    let b := m.payload
    let o := u8 b 0
    let buf := (p.hd o).pendBuf
    let q := p.planeOf o buf
    let hdr := p.hardyRead o buf 0 0x40
    let (h, v) := p.active o
    let inside := fun (g : HRegion) => q.x ≤ g.x && q.y ≤ g.y && g.x + g.w ≤ q.x + q.w && g.y + g.h ≤ q.y + q.h
    chkOut p o 0 ++ [resv b 1 3, ⟨10, 4096 < q.w, 4⟩, ⟨10, 4096 < q.h, 6⟩, ⟨10, 1048560 < q.w * q.h, 4⟩] ++
    (match firstIdx 0x38 (fun i => u8 hdr (8 + i) != 0) with
     | some i => [⟨10, true, 8 + i⟩]
     | none => []) ++
    [⟨11, !q.within h v || (p.hd o).pend.any (fun g => g.on && !inside g), 0⟩]
  ready s _ e := !s.hardyBusy (u8 e.body.payload 0)
  issue s n e :=
    let o := u8 e.body.payload 0
    (s.modHd o (fun d => { d with commit := some (n, e.seq, .forming) })).setFlag (R.HRD_OUT_STAT o) 18 true
  project s _ e :=
    s.modHd (u8 e.body.payload 0) (fun d => match d.commit with
      | some (_, _, .copying) => d
      | _ => { d with live1 := !d.live1, regs := d.pend, commit := none })

/-- The mask of named regions that were bad in their last verdict (R122, R271). -/
def State.ackResult (s : State) (m : BilletMsg) : Nat :=
  let o := u8 m.payload 0
  maskOf ((maskList 16 (u16 m.payload 2)).filter (fun r =>
    match (s.hv o r).recent with
    | p :: _ => p.2
    | [] => false))

/-- HARDY_ACK (R122, R271). The frame of the last verdict is recorded when the entry is staged. -/
def opHardyAck : OpDef where
  code := 0x0404
  len := fixedLen 4
  who := .hardy
  nature := .trans
  checks _ p _ m := chkOut p (u8 m.payload 0) 0 ++ [resv m.payload 1 1]
  result p _ m := p.ackResult m
  mark s m := some (BitVec.ofNat 16 (b2n (s.hd (u8 m.payload 0)).last.isSome),
    BitVec.ofNat 64 (((s.hd (u8 m.payload 0)).last).getD 0).toNat)
  issue s n e :=
    let o := u8 e.body.payload 0
    let g := match e.applied with
      | some (1, v) => some (BitVec.ofNat 32 v.toNat)
      | _ => none
    ((maskList 16 (u16 e.body.payload 2)).foldl (fun s r => s.ackRegion o r g) s).complete n e.seq S_DONE 0

/-- The output produces verdicts, so a HARDY_ACK is held until the next one (R271). -/
def State.givesVerdicts (s : State) (n : Nat) : Bool := s.scanning n && !(s.hd n).susp && (enabledRegions (s.hd n).regs) ≠ []

/-- Bytes loaded into the limp image or palette (R123). -/
def State.limpStore (s : State) (what off : Nat) (bs : List Byte) : State :=
  s.modLimp (fun l =>
    if what = 0 then { l with image := l.image.write none off bs }
    else
      let old := l.palette.flatMap (leBytes 4)
      let new := old.take off ++ bs ++ old.drop (off + bs.length)
      { l with palette := (List.range 16).map (fun i => u32 new (4 * i)) })

/-- LIMP_LOAD (R123). -/
def opLimpLoad : OpDef where
  code := 0x0405
  len m := max 9 m.length.toNat
  who := .hardy
  checks _ p _ m :=
    let b := m.payload
    let cnt := m.length.toNat - 8
    [⟨10, 1 < u8 b 0, 0⟩, resv b 1 3, ⟨11, (if u8 b 0 = 0 then 192000 else 64) < u32 b 4 + cnt, 4⟩,
     ⟨12, p.disp.limp.shown, 0⟩]
  ready s _ _ := !s.hardyBusy 0
  issue s n e :=
    let b := e.body.payload
    let s := (s.setFlag R.HRD_STAT 10 false).setFlag R.HRD_STAT 13 false
    let s := s.modLimp (fun l => { l with latched := false, count := 0 })
    let s := if s.disp.limp.shown then s.modLimp (fun l => { l with loads := l.loads ++ [(u8 b 0, u32 b 4, b.drop 8)] })
      else s.limpStore (u8 b 0) (u32 b 4) (b.drop 8)
    s.complete n e.seq S_DONE 0

/-- LIMP_CTRL (R124, R278-R280). -/
def opLimpCtrl : OpDef where
  code := 0x0406
  len := fixedLen 4
  slot := true
  who := .hardy
  nature := .trans
  checks s p _ m :=
    let k := u8 m.payload 0
    [⟨10, 2 < k, 0⟩, resv m.payload 1 3, ⟨12, k == 2 && s.limpLatched, 0⟩,
     ⟨12, k == 1 && !(p.ou 0).enabled && s.boot.limpOut.isNone, 0⟩]
  issue s n e :=
    let k := u8 e.body.payload 0
    let l := s.disp.limp
    let now := fun (s : State) => s.completeLo n e.seq S_DONE (s.frameNo 0).toNat
    let wait := fun (s : State) => s.modLimp (fun l => { l with seqs := l.seqs ++ [(n, e.seq)] })
    if k = 1 then
      if l.forced then now s
      else
        let s := s.modLimp (fun l => { l with forced := true })
        if l.shown then now s
        else
          let s := s.limpTrigger
          if s.disp.limp.trigger.isSome then wait s else now s
    else
      let s := s.modLimp (fun l => { l with forced := false })
      if l.forced && l.shown && !s.limpLatched then wait s
      else if l.forced && l.trigger.isSome && !s.limpLatched then
        wait (s.modLimp (fun l => { l with trigger := none }))
      else now s
  project s _ e :=
    s.modLimp (fun l => { l with shown := u8 e.body.payload 0 == 1 || s.limpLatched })

/-- Class 0x04. -/
def hardyOps : List OpDef :=
  [opHardyRegion, opHardyWrite, opHardyCopy, opHardyCommit, opHardyAck, opLimpLoad, opLimpCtrl]

/-! ## Results and verdicts -/

/-- Frame `f` was the last one scanned before the generator of output `n` stopped at the cut-off just passed: it is still
judged, within 100 us (R268, R303, R305). -/
def State.lastScanned (s : State) (n : Nat) (f : Word) : Bool :=
  !s.scanning n && s.frameNo n == f + 1 && 0 < (s.ou n).cutAt && s.time ≤ (s.ou n).cutAt + 100

/-- HARDY_RESULT: a result with its frame number reaches Hearth (R261, R268); `r` is a region, 16 the limp check, 255 the
full output. -/
def execHardyResult (n : Fin 8) (r : Fin 256) (f crc : Word) (s : State) : Out :=
  .next (
    let n := n.val
    if !(s.scanning n || s.lastScanned n f) || s.boot.hearthDown then s else
    match (if n = 0 && r.val = 16 then s.disp.limp.judged else (s.hd n).last) with
    | some g =>
      if sdiff f g ≤ 0 then s.setFld (R.HRD_OUT_STAT n) 24 8 (sat 8 (s.fld (R.HRD_OUT_STAT n) 24 8 + 1))
      else s.modHd n (fun d => { d with results := d.results ++ [(f, r.val, crc)] })
    | none => s.modHd n (fun d => { d with results := d.results ++ [(f, r.val, crc)] }))

/-- A result that has arrived. -/
def Hardy.result (d : Hardy) (f : Word) (r : Nat) : Option Word :=
  (d.results.find? (fun p => p.1 == f && p.2.1 == r)).map (·.2.2)

/-- Frame `f` of output `n` showed the limp-home display (R278, R280). -/
def State.limpFrame (s : State) (n : Nat) (f : Word) : Bool :=
  n == 0 && match s.disp.limp.first with
    | none => false
    | some a => 0 ≤ sdiff f a && (match s.disp.limp.past with
      | some b => sdiff f b < 0
      | none => s.disp.limp.shown)

/-- The limp check of frame `f` (R281). -/
def State.limpVerdict (s : State) (f : Word) : State :=
  if (match s.disp.limp.judged with | some g => decide (sdiff f g ≤ 0) | none => false) then s else
  let s := s.modLimp (fun l => { l with judged := some f })
  let m := (s.hd 0).result f 16
  let bad := bit s.boot.checkerBad 0 || m != some (s.limpExpected f)
  let s := s.setReg R.HRD_LIMP_MEAS (m.getD 0).toNat
  let c := s.disp.limp.count
  if !bad then s.modLimp (fun l => { l with count := 0 })
  else
    let s := s.modLimp (fun l => { l with count := sat 8 (c + 1) })
    if 3 ≤ c + 1 && !s.disp.limp.latched then
      ((s.modLimp (fun l => { l with latched := true })).slagX 6 0 0x06 {} false true).setFlag R.HRD_STAT 10 true
    else s

/-- Cross-judges one result (R273-R275): `ok` and `crc` local, `p` the partner's. -/
def State.cross (s : State) (n r : Nat) (f crc : Word) (ok : Bool) (p : Word × Bool) : State :=
  let s := if (s.hd n).crossed == some f then s
    else (s.setFld (R.HRD_OUT_XCHK n) 0 16 0).modHd n (fun d => { d with crossed := some f })
  if crc == p.1 then s
  else if r = 0xFF then
    (s.setFld (R.HRD_OUT_XCHK n) 24 8 (sat 8 (s.fld (R.HRD_OUT_XCHK n) 24 8 + 1))).slagWarn 5 n 0x07
  else
    let s := s.setFlag (R.HRD_OUT_XCHK n) r true
    if ok && p.2 then s.slagX 5 n 0x07 {} false true
    else if ok then s.slagErr 5 n 0x07 else s

/-- The local result of a judged frame goes to the partner, and is cross-judged if the partner's is in (R273). -/
def State.crossLocal (s : State) (n r : Nat) (f crc : Word) (ok : Bool) : State :=
  if !s.welded then s else
  let s := s.ulxSend (.hardy n f r crc ok)
  match s.pair.results.find? (fun p => p.1 == n && p.2.1 == f && p.2.2.1 == r) with
  | some p => s.cross n r f crc ok p.2.2.2
  | none => s

/-- Hearth judges frame `f` (R268, R272, R281); `expErr` marks regions whose stored values prove uncorrectable (R262). -/
def State.hardyVerdict (s : State) (n : Nat) (f : Word) (expErr : Nat) : State :=
  if s.boot.hearthDown then s
  else if s.limpFrame n f then
    (s.limpVerdict f).modHd n (fun d => { d with results := d.results.filter (fun p => 0 < sdiff p.1 f) })
  else if !s.lastScanned n f && (!s.scanning n || ((s.hd n).susp && !s.limpOn n)) then s
  else if (match (s.hd n).last with | some g => decide (sdiff f g ≤ 0) | none => false) then s
  else
    let d := s.hd n
    let useOld := match d.old with | some (g, _, _) => g == f | none => false
    let s := if d.old.isSome && !useOld then (s.clearCounts n).modHd n (fun d => { d with old := none }) else s
    let regs := match d.old with | some (_, l, _) => if useOld then l else d.regs | none => d.regs
    let exp := fun r => match d.old with
      | some (_, _, l) => if useOld then ((l.find? (fun p => p.1 == r)).map (·.2)).getD 0
          else s.expected n r (regs.getD r HRegion.reset) f
      | none => s.expected n r (regs.getD r HRegion.reset) f
    let s := ((enabledRegions regs).filter (fun r => expErr.testBit r && !(s.hv n r).expErr)).foldl (fun s r =>
      (s.modHv n r (fun v => { v with expErr := true })).slagErr 5 n 0x01) s
    let s := (enabledRegions regs).foldl (fun s r =>
      let meas := d.result f r
      let s := s.verdict n r (regs.getD r HRegion.reset) f (exp r) meas
      match meas with
      | some c => s.crossLocal n r f c (s.hv n r).isMatch
      | none => s) s
    let s := if useOld then (s.clearCounts n).modHd n (fun d => { d with old := none }) else s
    let full := s.flag (R.HRD_OUT_XCHK n) 16
    let s := s.setReg (R.HRD_OUT_FULL n) (if full then ((d.result f 0xFF).getD 0).toNat else 0)
    let s := match full, d.result f 0xFF with
      | true, some c => s.crossLocal n 0xFF f c true
      | _, _ => s
    (s.setReg (R.HRD_OUT_VERDICT n) f.toNat).modHd n (fun d => { d with
      last := some f, results := d.results.filter (fun p => 0 < sdiff p.1 f),
      spoilt := d.spoilt.filter (fun p => 0 < sdiff p.1 f) })

/-- HARDY_EXPECTED_DONE: the values of a pending set are formed; in a pair, `agree` says whether the two devices' values are
equal (R263 steps 2 and 3, R264, R267). -/
def execHardyExpectedDone (n : Fin 8) (agree : Bool) (s : State) : Out :=
  .next (
    let n := n.val
    match (s.hd n).commit with
    | some (sl, seq, .forming) =>
      if s.welded && !agree then
        (((s.modHd n (fun d => { d with commit := none })).setFlag (R.HRD_OUT_STAT n) 18 false).slagErr 5 n 0x07).completeOpen
          sl seq E_DATA
      else
        let s := s.modHd n (fun d => { d with commit := some (sl, seq, .ready) })
        if !(s.ou n).enabled && !s.scanning n then s.hardySwap n (s.frameNo n) else s
    | _ => s)

/-- HARDY_COPYBACK_DONE. -/
def execHardyCopybackDone (n : Fin 8) (s : State) : Out := .next (s.hardyCopyBack n.val)

/-- XCHECK_TIMEOUT: a frame is not cross-judged (R273). -/
def execXcheckTimeout (n : Fin 8) (s : State) : Out :=
  .next (if s.welded then s.setFld (R.HRD_OUT_XCHK n.val) 17 7 (sat 7 (s.fld (R.HRD_OUT_XCHK n.val) 17 7 + 1)) else s)

/-! ## The cut-off in PIXn -/

/-- The limp-home display starts or ends at a cut-off of OUT0 (R278, R280, R123). -/
def State.limpCut (s : State) (f : Word) : State :=
  let s := s.disp.limp.loads.foldl (fun s l => s.limpStore l.1 l.2.1 l.2.2) s
  let s := s.modLimp (fun l => { l with loads := [] })
  let l := s.disp.limp
  let want := l.forced || s.limpLatched
  let due := match l.trigger with
    | some t => s.limpBoot || t + 50 ≤ s.time
    | none => false
  let done := fun (s : State) => l.seqs.foldl (fun s q => s.completeLo q.1 q.2 S_DONE f.toNat)
    (s.modLimp (fun l => { l with seqs := [] }))
  if !l.shown && due && want then
    let (h, v) := s.scanArea 0
    let s := (s.setReg R.HRD_LIMP_FRAME f.toNat).setFlag R.HRD_STAT 12 (1600 ≤ h && 960 ≤ v)
    done ((s.modLimp (fun l => { l with
      shown := true, trigger := none, count := 0, first := some f, past := none })).updSusp 0)
  else if l.shown && !want then
    done ((s.modLimp (fun l => { l with shown := false, trigger := none, past := some f })).updSusp 0)
  else if !l.shown && !want then done (s.modLimp (fun l => { l with trigger := none }))
  else s

end Sys2Proof.Machine
end

