-- ==== Sys2Proof/Machine/Outputs.lean ====
section
/-! DEFINITION. Opcode class 0x03, outputs: OUT_CONFIG (R112, R323), SET_TIMING (R113, R300-R303, R324), OUT_ENABLE (R114,
R304, R305, R708), ANV_ALLOC (R115, R292, R293), BACKLIGHT (R118, R312). -/
namespace Sys2Proof.Machine

/-! ## Pins on outputs -/

/-- The output that an OPEN billet of its own pins: SET_TIMING (R113). A COMMIT pins its members (R108, R209); no other billet
is said to pin an output (DEDUCED, note 25). -/
def outRefs (m : BilletMsg) : List Nat := if m.opcode.toNat = 0x0301 then [u8 m.payload 0] else []

/-- Output `o` is pinned by an OPEN billet (R55, R108, R113, R209). -/
def State.outPinned (s p : State) (o : Nat) : Bool :=
  s.slices.any (fun x => x.journal.any (fun e => e.isOpen && (outRefs e.body).contains o)) ||
  p.disp.commits.any (fun c => c.members.contains o)

/-- No enable, disable, SWITCH or REPROGRAM of output `o` is on its way. A later billet that needs the output's state as those
leave it is issued then, since each issue sees the state set by the earlier ones (R82; DEDUCED, note 25). -/
def State.outQuiet (s : State) (o : Nat) : Bool :=
  (s.ou o).seq.isNone && ((s.ou o).gen == .off || (s.ou o).gen == .run || (o == 0 && s.limpBoot))

/-! ## Link limits -/

/-- LINK of a configuration word. -/
def cfgLink (w : Nat) : Nat := bits w 0 3
/-- LANES. -/
def cfgLanes (w : Nat) : Nat := bits w 3 3
/-- BPC. -/
def cfgBpc (w : Nat) : Nat := bits w 8 4
/-- RATE. -/
def cfgRate (w : Nat) : Nat := bits w 16 12

/-- Lane rate of a DisplayPort code in Mbit/s (R323). -/
def dpRate (c : Nat) : Nat := if c = 0 then 1620 else if c = 1 then 2700 else if c = 2 then 5400 else 8100

/-- Need of a timing in kbit/s (R324). -/
def Timing.need (t : Timing) (bpc : Nat) : Nat := t.pclk * 3 * bpc

/-- The link carries the timing (R323, R324): breaches with the field that each names. -/
def linkBreaches (w : Nat) (t : Timing) : List (Bool × Nat) :=
  let k := cfgLink w
  if k < 2 then [(78 * (cfgLanes w * dpRate (cfgRate w)) * 10 < t.need (cfgBpc w), 4)]
  else if k < 4 then [(900 * (cfgLanes w * cfgRate w) < t.need (cfgBpc w), 4)]
  else if k = 4 then [(112000 < t.pclk, 4)]
  else [(224000 < t.pclk, 4), (t.hact % 2 == 1, 8), (t.hfp % 2 == 1, 0xA), (t.hsync % 2 == 1, 0xC), (t.hbp % 2 == 1, 0xE)]

/-- Checks of OUT_CONFIG on its own fields (R112, R323). -/
def chkOutConfig (b : List Byte) : List Chk :=
  let o := u8 b 0; let k := u8 b 1; let l := u8 b 2; let d := u8 b 3; let r := u16 b 4
  let t := fun off => (⟨10, 1000 < u16 b off, off⟩ : Chk)
  [⟨10, 5 < k || ((k == 2 || k == 3) && 3 < o) || ((k == 4 || k == 5) && o < 4), 1⟩] ++
  (if k < 2 then [⟨10, l != 1 && l != 2 && l != 4, 2⟩, ⟨10, d != 6 && d != 8 && d != 10, 3⟩, ⟨10, 3 < r, 4⟩]
   else if k < 4 then
    [⟨10, l < 1 || 4 < l, 2⟩, ⟨10, d != 6 && d != 8 && d != 10, 3⟩, ⟨10, r < 80 || 2500 < r, 4⟩]
   else [⟨10, l != 3 && l != 4, 2⟩, ⟨10, d != 6 && d != 8, 3⟩, ⟨10, l != (if d = 6 then 3 else 4), 2⟩, ⟨10, r != 0, 4⟩]) ++
  [⟨10, 8 ≤ u16 b 6, 6⟩, t 8, t 0xA, t 0xC, t 0xE]

/-- Checks of SET_TIMING on its own fields (R113, R300). -/
def chkTiming (b : List Byte) : List Chk :=
  [⟨10, 1 < u8 b 1, 1⟩, ⟨10, 4 ≤ u8 b 3, 3⟩] ++ (timingOf b).breaches.map (fun x => ⟨10, x.1, x.2⟩)

/-- Scan-out limit of the tier in kHz (R5). -/
def State.scanLimit (s : State) : Nat := if s.fuses.tier = 4 then 2400000 else 3600000
/-- Sum of the pixel clocks of the enabled outputs. -/
def State.pclkSum (s : State) : Nat :=
  sumBy (fun n => match s.tim n with | some t => if (s.ou n).enabled then t.pclk else 0 | none => 0) (List.range 8)

/-- Step 15 of a billet that raises a load or the pixel clocks: `q` follows `p` (R113, R205). -/
def chkRoom (p q : State) (off : Nat) : List Chk :=
  let l0 := p.rateSum p.pixLoad; let l1 := q.rateSum q.pixLoad
  let b0 := p.rateSum p.fetchLoad; let b1 := q.rateSum q.fetchLoad
  let raises := l0.1 * l1.2 < l1.1 * l0.2 || b0.1 * b1.2 < b1.1 * b0.2
  [⟨15, q.scanLimit < q.pclkSum, off⟩, ⟨15, raises && !q.loadsFit, off⟩]

/-- Allocated size (R322); width 0 when unallocated. -/
def State.allocSize (s : State) (n : Nat) : Nat × Nat :=
  (s.fld (R.SCN_OUT_ALLOC n) 0 13, s.fld (R.SCN_OUT_ALLOC n) 16 13)

/-- The live plane and the plane of an OPEN HARDY_COMMIT lie within an area (R255). -/
def State.planesWithin (s p : State) (n w h : Nat) : Bool :=
  (s.planeOf n (s.hd n).live).within w h && (p.planeOf n (p.hd n).live).within w h

/-! ## OUT_CONFIG -/

/-- The link registers that a payload sets (R344). -/
def State.storeLink (s : State) (n : Nat) (b : List Byte) : State :=
  let s := s.setReg (R.SCN_OUT_LNK_CFG n) (outConfigWord b)
  let s := s.setReg (R.SCN_OUT_PSEQ0 n) (u16 b 8 + 2 ^ 16 * u16 b 0xA)
  let s := s.setReg (R.SCN_OUT_PSEQ1 n) (u16 b 0xC + 2 ^ 16 * u16 b 0xE)
  s.modOu n (fun o => { o with linkCfg := true })

/-- OUT_CONFIG (R112). -/
def opOutConfig : OpDef where
  code := 0x0300
  len := fixedLen 16
  nature := .trans
  who := .zero
  checks _ p _ m :=
    chkOut p (u8 m.payload 0) 0 ++ chkOutConfig m.payload ++ [⟨12, (p.ou (u8 m.payload 0)).enabled, 0⟩]
  ready s _ e := s.outQuiet (u8 e.body.payload 0)
  issue s n e := (s.storeLink (u8 e.body.payload 0) e.body.payload).complete n e.seq S_DONE 0

/-! ## SET_TIMING -/

/-- SET_TIMING once it has taken effect (R54). -/
def State.projectTiming (s : State) (b : List Byte) : State :=
  let n := u8 b 0
  let s := s.loadTiming n (u8 b 1) (timingOf b)
  if u8 b 2 = 0 then (if (s.ou n).enabled then s else s.modOu n (fun o => { o with set := some (u8 b 1) }))
  else s.modOu n (fun o => { o with set := some (u8 b 1), next := none, select := false })

/-- The frame against which a SWITCH is judged at its issue (R113): the first cut-off that follows an active line at most
VACTIVE − 4. -/
def State.switchFrame (s : State) (n : Nat) : Word :=
  let v := match s.scanTim n with | some t => t.vact | none => 0
  let l := s.lineNo n
  if l < v && v < l + 4 then s.frameNo n + 2 else s.frameNo n + 1

/-- The frame against which the DEADLINE of a SET_TIMING is judged at its issue (R113). -/
def State.timingFrame (s : State) (b : List Byte) : Word :=
  if u8 b 2 = 0 then s.regs.get (R.CMP_OUT_FRAME (u8 b 0))
  else if u8 b 2 = 1 then s.switchFrame (u8 b 0)
  else s.frameNo (u8 b 0) + 2

/-- SET_TIMING (R113, R209, R255, R300-R303, R324). A set in use takes no write, so a LOAD of one is issued when it has left
use (R301). -/
def opSetTiming : OpDef where
  code := 0x0301
  len := fixedLen 24
  slot := true
  takesD := true
  nature := .trans
  who := .zero
  checks s p _ m :=
    let b := m.payload
    let o := u8 b 0; let k := u8 b 1; let mode := u8 b 2
    let x := p.ou o
    let t := timingOf b
    let (w, h) := p.allocSize o
    chkOut p o 0 ++ chkTiming b ++ [⟨10, 2 < mode, 2⟩] ++
    (if x.linkCfg then (linkBreaches (p.reg (R.SCN_OUT_LNK_CFG o)) t).map (fun c => ⟨10, c.1, c.2⟩) else []) ++
    [⟨11, w != 0 && w < t.hact, 8⟩, ⟨11, w != 0 && h < t.vact, 0x10⟩,
     ⟨12, mode != 0 && !x.enabled, 0⟩, ⟨12, x.enabled && x.set == some k, 1⟩,
     ⟨12, mode == 1 && p.tim o != some { t with vfp := ((p.tim o).map (·.vfp)).getD 0 }, 2⟩,
     ⟨12, mode != 0 && s.outPinned p o, 0⟩,
     ⟨12, (mode != 0 || !x.enabled) && !s.planesWithin p o t.hact t.vact, 8⟩] ++
    (if mode = 0 then [] else chkRoom p (p.projectTiming b) 4)
  ready s _ e :=
    let b := e.body.payload
    if u8 b 2 = 0 then !s.setInUse (u8 b 0) (u8 b 1) else s.outQuiet (u8 b 0)
  issue s n e :=
    let b := e.body.payload
    let o := u8 b 0; let k := u8 b 1
    let dl := e.body.deadline
    if missesDeadline dl (s.timingFrame b) then s.completeOpen n e.seq E_DEADLINE
    else if u8 b 2 = 0 then (s.projectTiming b).complete n e.seq S_DONE (s.timingFrame b).toNat
    else if u8 b 2 = 1 then
      (s.loadTiming o k (timingOf b)).modOu o (fun x => { x with next := some k, select := false, seq := some e.seq })
    else s.modOu o (fun x => { x with next := some k, gen := .reprogCut, seq := some e.seq })
  project s _ e := s.projectTiming e.body.payload

/-! ## OUT_ENABLE -/

/-- The trained lane count and rate as VALUE_HI holds them (R114). -/
def State.linkValue (s : State) (n : Nat) : Nat := (s.ou n).link.lanes + 2 ^ 8 * (s.ou n).link.rate

/-- The phase reference is lost or started afresh (R309, R310). -/
def State.unlock (s : State) (n : Nat) : State :=
  let was := s.flag (R.SCN_OUT_STAT n) 6
  let s := (s.setFlag (R.SCN_OUT_STAT n) 6 false).modOu n (fun o => { o with glGood := 0, glBad := 0 })
  if was then (s.setFlag (R.SCN_OUT_STAT n) 9 true).slagWarn 13 n 0x13 else s

/-- Trim and lock as an enable or a REPROGRAM leaves them (R310). -/
def State.freshGenlock (s : State) (n : Nat) : State := (s.unlock n).setReg (R.SCN_OUT_GL_TRIM n) 0

/-- OUT_ENABLE (R114, R209, R304, R305, R324, R708). -/
def opOutEnable : OpDef where
  code := 0x0302
  len := fixedLen 4
  slot := true
  nature := .trans
  who := .zero
  checks s p _ m :=
    let b := m.payload
    let o := u8 b 0; let en := u8 b 1 == 1
    let x := p.ou o
    let (w, h) := p.allocSize o
    let q := p.modOu o (fun x => { x with enabled := true })
    chkOut p o 0 ++ [⟨10, 1 < u8 b 1, 1⟩, resv b 2 2] ++
    (if en && !x.enabled then
      (match p.tim o with
       | some t =>
        (if x.linkCfg then (linkBreaches (p.reg (R.SCN_OUT_LNK_CFG o)) t).map (fun c => ⟨10, c.1, 0⟩) else []) ++
        [⟨11, w != 0 && (w < t.hact || h < t.vact), 0⟩]
       | none => []) ++
      [⟨12, !x.linkCfg || (p.tim o).isNone || w = 0, 0⟩] ++ chkRoom p q 0
     else [⟨12, !en && x.enabled && s.outPinned p o, 0⟩])
  ready s _ e :=
    let o := u8 e.body.payload 0
    (s.ou o).enabled == (u8 e.body.payload 1 == 1) || s.outQuiet o
  issue s n e :=
    let o := u8 e.body.payload 0
    let x := s.ou o
    if u8 e.body.payload 1 = 1 then
      if x.enabled then s.complete n e.seq S_DONE ((s.regs.get (R.CMP_OUT_FRAME o)).toNat + 2 ^ 32 * s.linkValue o)
      else
        let s := s.setFld (R.CMP_OUT_PASS o) 16 16 0
        if o = 0 && s.limpBoot then s.modOu o (fun x => { x with enabled := true, seq := some e.seq })
        else (s.freshGenlock o).modOu o (fun x =>
          { x with enabled := true, seq := some e.seq, gen := .panelOn, blankAt := s.time })
    else if !x.enabled then s.complete n e.seq S_DONE 0
    else s.modOu o (fun x => { x with enabled := false, seq := some e.seq, gen := .stopBl, bl := false })
  project s _ e := s.modOu (u8 e.body.payload 0) (fun x => { x with enabled := u8 e.body.payload 1 == 1 })

/-! ## ANV_ALLOC -/

/-- STRIDE (R292). -/
def strideOf (w : Nat) : Nat := ceilDiv (4 * w) 256 * 256
/-- G, granules per buffer (R292). -/
def granulesOf (w h : Nat) : Nat := ceilDiv (strideOf w * h) granuleBytes

/-- Steps 1 to 4 of R293. -/
def State.allocate (s : State) (n w h : Nat) : State :=
  let s := s.setOwner ((s.ou n).gmap.filter (fun g => s.dieOk (g / 64))) 0xFF
  let s := s.setOwner ((s.ou n).gmap.filter (fun g => !s.dieOk (g / 64))) 0xFE
  let hh := if w = 0 then 0 else h
  let got := s.pickGranules (2 * granulesOf w hh)
  let s := (s.setOwner got n).modOu n (fun o => { o with gmap := got })
  let s := s.setReg (R.SCN_OUT_ALLOC n) (w + 2 ^ 16 * hh)
  let s := s.setReg (R.SCN_OUT_GEOM n) (strideOf w + 2 ^ 16 * granulesOf w hh)
  (s.setFld (R.SCN_OUT_STAT n) 4 1 0).showFree

/-- Granules free for output `n` once it has returned its own. -/
def State.freeFor (s : State) (n : Nat) : Nat :=
  s.freeGranules + ((s.ou n).gmap.filter (fun g => s.dieOk (g / 64))).length

/-- The output left without buffers by a STANDBY device that cannot place them (R318). -/
def State.leaveUnallocated (s : State) (n : Nat) : State := (s.allocate n 0 0).slagErr 17 n 0x15

/-- ANV_ALLOC (R115, R209, R255, R293, R318). The apply ends with the zero-fill, before which no later billet of slice 0 is
issued; zeros stand in the granules at once, since a read meanwhile never returns older data (R319). -/
def opAnvAlloc : OpDef where
  code := 0x0303
  len := fixedLen 8
  nature := .trans
  who := .zero
  checks s p _ m :=
    let b := m.payload
    let o := u8 b 0; let w := u16 b 2; let h := u16 b 4
    chkOut p o 0 ++ [resv b 1 1, ⟨10, 4096 < w, 2⟩, ⟨10, w != 0 && (h = 0 || 4096 < h), 4⟩, resv b 6 2,
      ⟨12, (p.ou o).enabled || s.outPinned p o, 0⟩, ⟨12, w != 0 && !s.planesWithin p o w h, 2⟩,
      ⟨15, w != 0 && p.freeFor o < 2 * granulesOf w h, 2⟩]
  result _ _ m := if u16 m.payload 2 = 0 then 0 else 2 * granulesOf (u16 m.payload 2) (u16 m.payload 4)
  ready s _ e := s.outQuiet (u8 e.body.payload 0)
  issue s n e :=
    let b := e.body.payload
    let o := u8 b 0; let w := u16 b 2; let h := u16 b 4
    if w = 0 then (s.allocate o 0 0).complete n e.seq S_DONE 0
    else if s.freeFor o < 2 * granulesOf w h then (s.leaveUnallocated o).complete n e.seq S_DONE 0
    else
      let s := s.allocate o w h
      (s.zeroGranules (s.ou o).gmap).modOu o (fun x => { x with zeroSeq := some e.seq })
  project s _ e :=
    let b := e.body.payload
    if (s.ou (u8 b 0)).zeroSeq = some e.seq then s else s.allocate (u8 b 0) (u16 b 2) (u16 b 4)

/-- ANV_ZERO_FILL_DONE: the zero-fill ends and the allocation applies (R293). -/
def execAnvZeroFillDone (n : Fin 8) (s : State) : Out :=
  .next (match (s.ou n.val).zeroSeq with
  | some q => (s.modOu n.val (fun o => { o with zeroSeq := none })).complete 0 q S_DONE 0
  | none => s)

/-! ## BACKLIGHT -/

/-- Present duty. -/
def State.duty (s : State) (n : Nat) : Nat := s.fld (R.SCN_OUT_BL_DUTY n) 0 16

/-- BACKLIGHT (R118). -/
def opBacklight : OpDef where
  code := 0x0306
  len := fixedLen 8
  who := .zero
  checks _ p _ m :=
    let b := m.payload
    chkOut p (u8 b 0) 0 ++ [resv b 1 1, ⟨10, 10000 < u16 b 4, 4⟩, resv b 6 2]
  issue s n e :=
    let b := e.body.payload
    let o := u8 b 0
    ((s.setFld (R.SCN_OUT_BL_DUTY o) 16 16 (u16 b 2)).modOu o (fun x =>
      { x with ramp := some ⟨s.duty o, u16 b 2, u16 b 4⟩ })).complete n e.seq S_DONE 0

/-- Class 0x03 but for the loads of the compositor. -/
def outputOps : List OpDef := [opOutConfig, opSetTiming, opOutEnable, opAnvAlloc, opBacklight]

end Sys2Proof.Machine
end

