-- ==== Sys2Proof/Machine/Links.lean ====
section
/-! DEFINITION. The display links (R323-R344): link start and training, hot plug, what is sent of each frame with panel
self-refresh and DSI command mode, AUX and DSI packets. -/
namespace Sys2Proof.Machine

/-! ## Link state -/

/-- LNK_STAT.STATE as the link state machine holds it: 0 OFF, 1 TRAINING, 2 SENDING, 3 FAIL, 4 SELF_REFRESH. -/
def State.lnk (s : State) (n : Nat) : Nat := s.fld (R.SCN_OUT_LNK_STAT n) 0 3
/-- Sets it. TLANES and TRATE read 0 while no lane is trained: OFF, TRAINING and FAIL (DEDUCED, note 23). -/
def State.setLnk (s : State) (n k : Nat) : State :=
  let s := s.setFld (R.SCN_OUT_LNK_STAT n) 0 3 k
  if k = 2 || k = 4 then s else s.setFld (R.SCN_OUT_LNK_STAT n) 4 6 0
/-- A field of LNK_OPT. -/
def State.lnkOpt (s : State) (n lo w : Nat) : Nat := s.fld (R.SCN_OUT_LNK_OPT n) lo w
/-- This device drives the pins of output `n` (R306, R340): it holds the output and its heartbeat runs. -/
def State.drives (s : State) (n : Nat) : Bool := s.holds n && !s.boot.hearthDown
/-- Changes the link memory of output `n`. -/
def State.modLink (s : State) (n : Nat) (f : LinkSt → LinkSt) : State := s.modOu n (fun o => { o with link := f o.link })

/-- A link fails (R328): the output goes on without it. -/
def State.linkFail (s : State) (n : Nat) : State :=
  let s := (s.setFlag (R.SCN_OUT_LNK_STAT n) 12 true).setFld (R.SCN_OUT_LNK_STAT n) 4 6 0
  ((s.setLnk n 3).modLink n (fun l => { l with lanes := 0, equal := 0, lastCrc := none })).slagErr 16 n 0x13

/-- A retrain starts (R329); RETRAINS wraps. -/
def State.linkRetrain (s : State) (n : Nat) : State := (s.setLnk n 1).incWrap (R.SCN_OUT_LNK_STAT n) 16 16

/-! ## Training -/

/-- The lane rates that training tries, in Mbit/s (R327). -/
def trainRates (link code : Nat) : List Nat :=
  ([1620, 2700, 5400, 8100].filter (· ≤ dpRate code)) ++
  (if link = 1 then [2160, 2430, 3240, 4320].filter (· ≤ dpRate code) else [])

/-- The candidates of R327 in the order tried: lanes and rate. -/
def trainCandidates (cfg need : Nat) : List (Nat × Nat) :=
  let all := ([1, 2, 4].filter (· ≤ cfgLanes cfg)).flatMap (fun l => (trainRates (cfgLink cfg) (cfgRate cfg)).map (fun r => (l, r)))
  let fit := all.filter (fun c => need ≤ 780 * (c.1 * c.2))
  sortBy (fun c => (40000 - c.1 * c.2) * 8 + (4 - c.1)) fit

/-- Rate code that a trained rate reads as: an intermediate rate the next lower code (R344). -/
def rateCode (r : Nat) : Nat := if r < 2700 then 0 else if r < 5400 then 1 else if r < 8100 then 2 else 3

/-- The outcome of a link start in which the lane and rate pairs `bad` fail (R326, R327): lanes and rate, none on failure.
Training without AUX handshake keeps the last trained pair. -/
def State.linkResult (s : State) (n : Nat) (bad : List (Nat × Nat)) : Option (Nat × Nat) :=
  let cfg := s.linkCfg n
  let need := match s.scanTim n with
    | some t => t.need (cfgBpc cfg)
    | none => 0
  if cfgLink cfg < 2 then
    let l := (s.ou n).link
    let last := (trainCandidates cfg need).filter (fun c => c.1 == l.lanes && rateCode c.2 == l.rate)
    let fast := s.lnkOpt n 3 1 == 1 && s.flag (R.SCN_OUT_LNK_STAT n) 11 && l.trained
    ((if fast then last else []) ++ trainCandidates cfg need).find? (fun c => !bad.contains c)
  else if bad.contains (cfgLanes cfg, cfgRate cfg) then none
  else some (cfgLanes cfg, cfgRate cfg)

/-- A link start has ended: the link sends, or has failed. `fast`, `psr`, `psr2` and `gran` are what the sink reports in its
DPCD (R326, R332). -/
def State.endLinkStart (s : State) (n : Nat) (bad : List (Nat × Nat)) (fast psr psr2 : Bool) (gran : Nat) : State :=
  let dp := cfgLink (s.linkCfg n) < 2
  let s := if dp then
      (s.setFlag (R.SCN_OUT_LNK_STAT n) 11 fast).modLink n (fun l => { l with psr := psr, psr2 := psr2, gran := gran })
    else s
  match s.linkResult n bad with
  | some (l, r) =>
    let code := if dp then rateCode r else r
    let s := ((s.setLnk n 2).setFld (R.SCN_OUT_LNK_STAT n) 4 3 l).setFld (R.SCN_OUT_LNK_STAT n) 7 3 (if dp then code else 0)
    s.modLink n (fun k => { k with lanes := l, rate := code, trained := true, lastCrc := none, equal := 0, since := 0 })
  | none => s.linkFail n

/-- HPD_UNPLUG: HPD low for more than 2 ms (R329). -/
def execHpdUnplug (n : Fin 8) (s : State) : Out :=
  .next (
    let n := n.val
    if s.nOut ≤ n then s else
    let s := (s.setFlag (R.SCN_OUT_LNK_STAT n) 3 false).modLink n (fun l => { l with trained := false })
    if (s.lnk n = 2 || s.lnk n = 4 || s.lnk n = 1) && cfgLink (s.linkCfg n) < 2 then
      (s.setFlag (R.SCN_OUT_LNK_STAT n) 14 true).linkFail n
    else s.setFlag (R.SCN_OUT_LNK_STAT n) 14 true)

/-- HPD_REPLUG: HPD high for 100 ms (R329). -/
def execHpdReplug (n : Fin 8) (s : State) : Out :=
  .next (
    let n := n.val
    if s.nOut ≤ n then s else
    let s := s.setFlag (R.SCN_OUT_LNK_STAT n) 3 true
    if s.lnk n = 3 && s.scanning n && cfgLink (s.linkCfg n) < 2 && s.lnkOpt n 1 1 = 1 then s.linkRetrain n else s)

/-- HPD_IRQ: a low pulse of 0.5 to 1 ms; `lost` says whether a lane reports lost lock (R329). -/
def execHpdIrq (n : Fin 8) (lost : Bool) (s : State) : Out :=
  .next (
    let n := n.val
    if s.nOut ≤ n then s else
    let s := s.setFlag (R.SCN_OUT_LNK_STAT n) 13 true
    if lost && (s.lnk n = 2 || s.lnk n = 4) && cfgLink (s.linkCfg n) < 2 then s.linkRetrain n else s)

/-- LINK_RETRY: once per second while AUTO_RETRAIN is 1 (R328). -/
def execLinkRetry (n : Fin 8) (s : State) : Out :=
  .next (if s.lnk n.val = 3 && s.scanning n.val && s.lnkOpt n.val 1 1 = 1 then s.linkRetrain n.val else s)

/-! ## What is sent of a frame -/

/-- The content CRC of the frame being scanned (R331). -/
def State.contentCrc (s : State) (n : Nat) : Word :=
  let (h, v) := s.scanArea n
  crc32c (((raster 0 0 h v).map (fun q => cutDepth (s.bpc n) (s.finalPixel n q.1 q.2))).flatMap (leBytes 4))

/-- PSR2 is in use (R332). -/
def State.psr2On (s : State) (n : Nat) : Bool :=
  let l := (s.ou n).link
  bit (s.linkCfg n) 29 && l.psr2 && (l.gran == 1 || l.gran == 2 || l.gran == 4 || l.gran == 8 || (l.gran != 0 && l.gran % 16 == 0))
/-- PSR may be used (R332). -/
def State.psrOn (s : State) (n : Nat) : Bool := cfgLink (s.linkCfg n) == 1 && bit (s.linkCfg n) 28 && (s.ou n).link.psr && !bit s.boot.contentBad n

/-- Counts a frame sent or not sent (R344). -/
def State.countFrame (s : State) (n : Nat) (sent : Bool) : State :=
  s.incWrap (R.SCN_OUT_LNK_FRAMES n) (if sent && s.drives n then 16 else 0) 16

/-- The frame just scanned was sent whole, as a change: its content CRC is the last one sent. -/
def State.sentFrame (s : State) (n : Nat) (c : Option Word) (equal : Nat) : State :=
  (s.countFrame n true).modLink n (fun l => { l with lastCrc := c, equal := equal, since := 0 })
/-- The frame just scanned was not sent. -/
def State.keptFrame (s : State) (n : Nat) : State :=
  (s.countFrame n false).modLink n (fun l => { l with since := l.since + 1 })

/-- What the link did with the frame that has just been scanned (R328, R332, R335). -/
def State.linkFrame (s : State) (n : Nat) : State :=
  let k := cfgLink (s.linkCfg n)
  let l := (s.ou n).link
  if s.lnk n = 2 then
    if k = 3 then
      let c := s.contentCrc n
      if l.lastCrc = some c then s.keptFrame n else s.sentFrame n (some c) 0
    else if k = 1 then
      let c := s.contentCrc n
      s.sentFrame n (some c) (if l.lastCrc = some c then l.equal + 1 else 0)
    else s.sentFrame n none 0
  else if s.lnk n = 4 then
    let c := s.contentCrc n
    if l.lastCrc = some c then s.keptFrame n
    else if s.lnkOpt n 2 1 = 1 then
      ((s.keptFrame n).setLnk n 2).modLink n (fun l => { l with lastCrc := none, equal := 0 })
    else if s.flag (R.SCN_OUT_LNK_STAT n) 10 then s.sentFrame n (some c) 0
    else (s.sentFrame n (some c) 0).setLnk n 2
  else s.keptFrame n

/-- PSR_ENTRY: K frames with unchanged content (R332). -/
def execPsrEntry (n : Fin 8) (s : State) : Out :=
  .next (
    let n := n.val
    if s.scanning n && s.lnk n = 2 && s.psrOn n && max 1 (s.lnkOpt n 8 4) ≤ (s.ou n).link.equal then
      (s.setLnk n 4).setFlag (R.SCN_OUT_LNK_STAT n) 10 (s.psr2On n)
    else s)

/-- PSR_REFRESH: Q frames since the last sent frame; the next frame is sent whole, as on a change (R332, R335). -/
def execPsrRefresh (n : Fin 8) (s : State) : Out :=
  .next (
    let n := n.val
    let q := s.lnkOpt n 16 8
    if (s.lnk n = 4 || (s.lnk n = 2 && cfgLink (s.linkCfg n) = 3)) && q != 0 && q ≤ (s.ou n).link.since then
      s.modLink n (fun l => { l with lastCrc := none })
    else s)

/-- TE_REPORT: the tearing-effect report of a command-mode panel (R336). -/
def execTeReport (n : Fin 8) (s : State) : Out := .next (s.modLink n.val (fun l => { l with noTe := 0 }))

/-- TE_LOST: no report in three frames (R336). -/
def execTeLost (n : Fin 8) (s : State) : Out :=
  .next (
    let n := n.val
    if cfgLink (s.linkCfg n) = 3 && s.scanning n && (s.ou n).link.noTe < 3 then
      ((s.modLink n (fun l => { l with noTe := 3 })).setFlag (R.SCN_OUT_LNK_STAT n) 15 true).slagWarn 13 n 0x13
    else s)

/-! ## AUX -/

/-- A native write that touches a register of the link state machine (R330). The request code of a native write, 8, is that
of DP 1.4a (PRESUMED). -/
def auxRefused (req addr len : Nat) : Bool :=
  req == 8 && (List.range (len + 1)).any (fun i =>
    let a := addr + i
    (0x100 ≤ a && a ≤ 0x1FF) || a == 0x600 || a == 0x170)

/-- Ends an AUX transaction. -/
def State.auxEnd (s : State) (n reply bitNo count : Nat) : State :=
  s.setReg (R.SCN_OUT_AUX_STAT n) (3 + 4 * (reply % 16) + (if bitNo = 0 then 0 else 2 ^ bitNo) + 2 ^ 9 * count)

/-- A GO accepted at AUX_CMD (R330). -/
def State.auxStart (s : State) (n : Nat) : State :=
  let c := s.reg (R.SCN_OUT_AUX_CMD n)
  if s.fld (R.SCN_OUT_AUX_STAT n) 0 2 = 1 || s.fld (R.SCN_OUT_AUX_STAT n) 0 2 = 2 then s
  else if !s.drives n then s.auxEnd n 0 8 0
  else if auxRefused (bits c 0 4) (bits c 4 20) (bits c 24 4) then s.auxEnd n 0 7 0
  else (s.setReg (R.SCN_OUT_AUX_STAT n) (if s.lnk n = 1 then 1 else 2)).modLink n (fun l => { l with defers := 0 })

/-- A write to SCN_OUTn_AUX_CMD by master `m` (R330, R615). -/
def State.auxCmdWrite (s : State) (n m v : Nat) : State :=
  let off := R.SCN_OUT_AUX_CMD n
  let s := (s.rsvCheck m off v 0x70000000).setReg off (bits v 0 28)
  if bit v 31 then s.auxStart n else s

/-- AUX_GO: a write to SCN_OUTn_AUX_CMD with GO set. -/
def execAuxGo (n : Fin 8) (a : Access) (s : State) : Out :=
  .next ((s.gateWrite a (R.SCN_OUT_AUX_CMD n.val) false).run (fun m => s.auxCmdWrite n.val m (a.data.toNat ||| 2 ^ 31)))

/-- AUX_REPLY: a reply with its code and data (R330). A DEFER is retried up to seven times. -/
def execAuxReply (n : Fin 8) (code : Fin 16) (data : List Byte) (s : State) : Out :=
  .next (
    let n := n.val
    let st := s.fld (R.SCN_OUT_AUX_STAT n) 0 2
    if st != 1 && st != 2 then s else
    let c := s.reg (R.SCN_OUT_AUX_CMD n)
    if (code.val = 2 || code.val = 8) && (s.ou n).link.defers < 7 then
      (s.setFld (R.SCN_OUT_AUX_STAT n) 0 2 2).modLink n (fun l => { l with defers := l.defers + 1 })
    else
      let rd := bit c 0
      let len := bits c 24 4 + 1
      let bytes := data.take len
      let s := if rd then foldN 4 (fun s k =>
          if 4 * k < bytes.length then
            s.setReg (R.SCN_OUT_AUX_DATA n k) (leNat ((bytes.drop (4 * k)).take 4) +
              (s.reg (R.SCN_OUT_AUX_DATA n k) >>> (8 * min 4 (bytes.length - 4 * k))) * 2 ^ (8 * min 4 (bytes.length - 4 * k)))
          else s) s else s
      s.auxEnd n code.val 0 (if rd then bytes.length else if code.val = 0 then len else 0))

/-- AUX_TIMEOUT: no reply within 400 us (R330). -/
def execAuxTimeout (n : Fin 8) (s : State) : Out :=
  .next (
    let st := s.fld (R.SCN_OUT_AUX_STAT n.val) 0 2
    if st = 1 || st = 2 then s.auxEnd n.val 0 6 0 else s)

/-! ## DSI packets -/

/-- A write to SCN_OUTn_DSI_HDR by master `m` (R337, R615). -/
def State.dsiHdrWrite (s : State) (n m v : Nat) : State :=
  let off := R.SCN_OUT_DSI_HDR n
  let s := (s.rsvCheck m off v 0x7C0000C0).setReg off (bits v 0 6 + 2 ^ 8 * bits v 8 18)
  if !bit v 31 || s.fld (R.SCN_OUT_DSI_STAT n) 0 2 = 1 then s
  else if !s.drives n then s.setReg (R.SCN_OUT_DSI_STAT n) (2 ^ 25)
  else (s.setReg (R.SCN_OUT_DSI_STAT n) 1).modLink n (fun l => { l with dsiWait := 0 })

/-- DSI_GO: a write to SCN_OUTn_DSI_HDR with GO set. -/
def execDsiGo (n : Fin 4) (a : Access) (s : State) : Out :=
  .next ((s.gateWrite a (R.SCN_OUT_DSI_HDR n.val) false).run (fun m => s.dsiHdrWrite n.val m (a.data.toNat ||| 2 ^ 31)))

/-- DSI_PACKET_SEND: a blanking, or in command mode a frame not being transferred, in which the queued packet fits or not;
`resp` is the panel's response at bus turnaround: data type, word count, payload (R337). -/
def execDsiPacketSend (n : Fin 4) (fits : Bool) (resp : Option (Fin 64 × BitVec 16 × List Byte)) (ackErr : Bool) (s : State) :
    Out :=
  .next (
    let n := n.val
    let st := R.SCN_OUT_DSI_STAT n
    if s.fld st 0 2 != 1 || !s.scanning n then s
    else if !s.drives n then s.setReg st (2 ^ 25)
    else if !fits then
      let s := s.modLink n (fun l => { l with dsiWait := l.dsiWait + 1 })
      if 16 ≤ (s.ou n).link.dsiWait then s.setFlag st 26 true else s
    else match s.flag (R.SCN_OUT_DSI_HDR n) 24, resp with
      | true, some (dt, wc, pay) =>
        let s := foldN 16 (fun s k => if 4 * k < pay.length then
          s.setReg (R.SCN_OUT_DSI_PAY n k) (leNat ((pay.drop (4 * k)).take 4)) else s) s
        s.setReg st (3 + 4 * dt.val + 2 ^ 8 * wc.toNat + 2 ^ 24 * b2n ackErr + 2 ^ 26 * b2n (s.flag st 26))
      | _, _ => s.setReg st (2 + 2 ^ 24 * b2n ackErr + 2 ^ 26 * b2n (s.flag st 26)))

end Sys2Proof.Machine
end

