-- ==== Sys2Proof/Machine/Scanout.lean ====
section
/-! DEFINITION. The Anvil and scan-out: the cut-off (R215, R216, R299), SWITCH and REPROGRAM (R302, R303), enable and disable
(R304, R305, R708), genlock (R307-R310), backlight (R311, R312), scrubbing and die faults (R313-R317), BAR2 (R297). -/
namespace Sys2Proof.Machine

/-! ## Genlock -/

/-- SRC of output `n` leads, over at most eight outputs, to a source other than 3 (R307). -/
def State.srcChain (s : State) : Nat → Nat → Bool
  | 0, _ => false
  | k + 1, n =>
    let m := s.fld (R.SCN_OUT_GL_CFG n) 2 3
    s.fld (R.SCN_OUT_GL_CFG n) 0 2 != 3 || (m != n && m < s.nOut && s.srcChain k m)

/-- The reference in force: 0 none, 1 gPTP, 2 partner, 3 the panel's tearing-effect report, 16 + m output m (R307, R336). -/
def State.glSource (s : State) (n : Nat) : Nat :=
  let src := s.fld (R.SCN_OUT_GL_CFG n) 0 2
  if s.pair.role = .standby then 2
  else if cfgLink (s.linkCfg n) = 3 && src != 2 then (if (s.ou n).link.noTe < 3 then 3 else 0)
  else if src = 1 then (if s.ptpLocked then 1 else 0)
  else if src = 2 then (if s.welded then 2 else 0)
  else if src = 3 then (if s.srcChain 8 n then 16 + s.fld (R.SCN_OUT_GL_CFG n) 2 3 else 0)
  else 0

/-- GENLOCK_ADJUST at a cut-off whose phase error is `e` steps of 10 ns (R308, R309). The proportional-integral step is not
given: the new trim is free within the limit. -/
def State.genlock (s : State) (n : Nat) (e : BitVec 28) : State :=
  let src := s.glSource n
  let s := if src = (s.ou n).glSrc then s else (s.unlock n).modOu n (fun o => { o with glSrc := src })
  if src = 0 then s else
  let ns := e.toInt * 10
  let mx : Int := max 1 (s.fld (R.SCN_OUT_GL_CFG n) 16 9) * 1000
  let trim := clampI (-mx) mx (Config.pllTrim n ns (sgn 32 (s.reg (R.SCN_OUT_GL_TRIM n))))
  let s := (s.setReg (R.SCN_OUT_GL_ERR n) (unsgn 32 ns)).setReg (R.SCN_OUT_GL_TRIM n) (unsgn 32 trim)
  let s := s.modOu n (fun o => { o with
    glGood := if ns.natAbs ≤ 500 then min 8 (o.glGood + 1) else 0
    glBad := if 2000 < ns.natAbs then min 2 (o.glBad + 1) else 0 })
  if 8 ≤ (s.ou n).glGood then s.setFlag (R.SCN_OUT_STAT n) 6 true
  else if 2 ≤ (s.ou n).glBad then s.unlock n
  else s

/-! ## Relocation from an unhealthy die -/

/-- Granules of a list that lie on unhealthy dies. -/
def State.onBadDie (s : State) (gs : List Nat) : List Nat := gs.filter (fun g => !s.dieOk (g / 64))

/-- A Hardy region still waits for its copy (R316 step 2): step 3 starts after it. -/
def State.hardyLeaves (s : State) : Bool :=
  (List.range s.nOut).any (fun n => (s.hd n).move.isNone && s.onBadDie (s.hd n).granules ≠ []) && 4 ≤ s.freeGranules

/-- Steps 3 to 5 of R316 for one output: entries of the back buffer on an unhealthy die are replaced and zero-filled. -/
def State.relocateBack (s : State) (n : Nat) : State :=
  if s.hardyLeaves then s else
  let g := s.bufGranules n
  let lo := (1 - s.front n) * g
  let idx := (List.range g).map (· + lo) |>.filter (fun i => !s.dieOk ((s.ou n).gmap.getD i 0 / 64))
  if idx = [] then s
  else
    let got := s.pickGranules idx.length
    if got.length < idx.length then s.setFlag R.ANV_STAT 4 true
    else
      let s := (s.setOwner got n).zeroGranules got
      let s := s.modOu n (fun o => { o with gmap := (idx.zip got).foldl (fun m p => putAt m p.1 p.2) o.gmap })
      let s := if s.onBadDie (s.ou n).gmap = [] then
          s.setOwner ((List.range 192).filter (fun x => s.owner x == n && !s.dieOk (x / 64))) 0xFE
        else s
      s.showFree

/-- The Hardy region moves to its copy at a cut-off (R316 step 2). -/
def State.hardyMove (s : State) (n : Nat) : State :=
  match (s.hd n).move with
  | some new =>
    let s := s.setOwner (s.onBadDie (s.hd n).granules) 0xFE
    let s := s.setOwner ((s.hd n).granules.filter (fun g => s.dieOk (g / 64))) 0xFF
    (s.modHd n (fun d => { d with granules := new, move := none })).showFree
  | none => s

/-- A die channel fails, and with it its die (R313, R316 step 1). -/
def State.channelFail (s : State) (c : Nat) : State :=
  let d := c / 8
  if s.nDies ≤ d then s else
  let s := s.setFlag R.ANV_CHAN_FAIL c true
  if !s.dieOk d then s else
  let s := s.setFlag R.ANV_STAT d false
  let s := s.setOwner (((List.range 64).map (· + 64 * d)).filter (fun g => s.owner g == 0xFF)) 0xFE
  (s.slagX 9 c 0x15 { isolate := true } false false).showFree

/-- ANV_DIE_FAIL: a protocol error on a die channel (R313, R316). -/
def execAnvDieFail (c : Fin 24) (s : State) : Out := .next (s.channelFail c.val)

/-- ANV_HARDY_RELOCATED: Hearth has copied both buffers of a Hardy region off an unhealthy die; without four free granules
the region stays (R316, R317). An output that scans nothing moves at once. -/
def execAnvHardyRelocated (n : Fin 8) (s : State) : Out :=
  .next (
    let n := n.val
    let d := s.hd n
    if s.nOut ≤ n || d.move.isSome || s.onBadDie d.granules = [] then s else
    let got := s.pickGranules 4
    if got.length < 4 then s.setFlag R.ANV_STAT 4 true
    else
      let s := s.modDisp (fun x => { x with anvil := (d.granules.zip got).foldl (fun m p => copyGranule m p.1 p.2) x.anvil })
      let s := ((s.setOwner got (0x40 + n)).modHd n (fun d => { d with move := some got })).showFree
      if s.scanning n then s else s.hardyMove n)

/-! ## The cut-off -/

/-- After the last handover of a PAIR_SWITCH this device forwards its final ring counts and becomes STANDBY (R454 step 2); the
new ACTIVE device completes the slot. -/
def State.endSwitch (s : State) : State :=
  match s.pair.switch with
  | some q =>
    if s.pair.role = .active && s.pair.give = [] then
      let s := (List.range 16).foldl (fun s n => match (s.slice n).binding with
        | .pcie _ _ => s.ulxSend (.reply n none (s.slice n).rqTail (s.slice n).sqHead (s.slice n).db)
        | _ => s) s
      let s := (s.setRole .standby).setFld R.ULX_HOLD 0 16 (2 ^ 8 * (2 ^ s.nOut - 1))
      (s.modPair (fun p => { p with switch := none })).completeLo 0 q S_DONE (s.frameNo 0).toNat
    else s
  | none => s

/-- The output is released at this cut-off: handed over to the partner, with a report (R342, R450, R454), or given up after
a severed weld (R455). -/
def State.giveOutput (s : State) (n : Nat) (f : Word) : State :=
  if s.pair.give.any (fun g => g.1 == n && 0 ≤ sdiff f g.2) then
    let s := { s with pair := { s.pair with give := s.pair.give.filter (fun g => g.1 != n) } }
    let s := s.setFlag R.ULX_HOLD n false
    if s.welded then
      let s := if s.pair.switch.isSome then s else s.slagErr 17 n 0x06
      ((s.setFlag R.ULX_HOLD (8 + n) true).ulxSend (.tkoRelease n)).endSwitch
    else (s.modOu n (fun o => { o with enabled := false, gen := .off, seq := none, bl := false })).setLnk n 0
  else s

/-- A SWITCH takes effect at cut-off `f` (R302 steps 4 and 5, R310). Its change of covered fields is committed (R621). -/
def State.takeSwitch (s : State) (n : Nat) (f : Word) : State :=
  let o := s.ou n
  match o.next with
  | some k =>
    let s := s.modOu n (fun o => { o with set := some k, next := none, select := false, seq := none })
    let s := ((s.setReg (R.SCN_OUT_GL_BASE_LO n) (s.net.time % 2 ^ 32)).setReg (R.SCN_OUT_GL_BASE_HI n)
      (s.net.time / 2 ^ 32)).commitAfter s [R.SCN_OUT_GL_BASE_LO n, R.SCN_OUT_GL_BASE_HI n]
    match o.seq with
    | some q => s.complete 0 q S_DONE f.toNat
    | none => s
  | none => s

/-- Step 3 of R216 with what belongs to it: bindings, a SWITCH, a Hardy swap, the limp-home display, relocation. No commit
applies while FAB is in reset (R650). -/
def State.cutState (s : State) (n : Nat) (f : Word) (sw hardy : Bool) : State :=
  let s := if s.boot.warmStep = 0 then s.cutFab n f else s
  let s := if sw then s.takeSwitch n f else s
  let s := if hardy then s.hardySwap n f else s
  let s := if n = 0 then s.limpCut f else s
  s.hardyMove n

/-- What this cut-off takes on a SOLO or ACTIVE device: a sent set select and a Hardy set that is ready. -/
def State.cutSwitch (s : State) (n : Nat) : Bool := (s.ou n).select && (s.ou n).gen == .run
/-- A Hardy set is ready. -/
def State.cutHardy (s : State) (n : Nat) : Bool :=
  match (s.hd n).commit with
  | some (_, _, .ready) => true
  | _ => false

/-- A REPROGRAM, or an enable that takes OUT0 over from the limp output record, stops the generator (R303, R708). -/
def State.stopReprogram (s : State) (n : Nat) : State :=
  let o := s.ou n
  let body := o.seq.bind (fun q => (s.slice 0).entry q)
  let s := match o.next, body with
    | some k, some e =>
      ((s.loadTiming n k (timingOf e.body.payload)).commitAfter s (timingKeys n k)).modOu n (fun o => { o with
        set := some k, next := none })
    | _, _ => s
  let s := (s.freshGenlock n).modOu n (fun o => { o with gen := .reprogPll, blankAt := s.time, pass := .idle })
  (s.setLnk n 0).updSusp n

/-- The generator stops for good (R305 step 4); OUT0 of the limp output record returns to disabled (R280). -/
def State.stopGenerator (s : State) (n : Nat) : State :=
  let s := s.modOu n (fun o => { o with gen := .stopPanel, blankAt := s.time, pass := .idle })
  (s.setLnk n 0).updSusp n

/-- After the state update: the generator goes on, stops for a REPROGRAM, or stops (R303, R305, R708, R280). -/
def State.afterCut (s : State) (n : Nat) : State :=
  let o := s.ou n
  let limp := n = 0 && s.limpBoot
  if o.gen = .reprogCut || (limp && o.enabled) then s.stopReprogram n
  else if o.gen = .stopCut then s.stopGenerator n
  else if limp && !s.disp.limp.shown && s.disp.limp.trigger.isNone then
    (s.stopGenerator n).setFlag R.HRD_STAT 11 false
  else if limp then s
  else (s.relocateBack n).startPass n

/-- Another output follows output `n` as its genlock reference (R307). -/
def State.isReference (s : State) (n : Nat) : Bool := (List.range 8).any (fun m => m != n && s.glSource m == 16 + n)

/-- Output `n` is takeover-ready on this device, which does not hold it (R446). -/
def State.takeReady (s : State) (n : Nat) : Bool :=
  s.welded && !s.holds n && (s.ou n).enabled && (s.allocSize n).1 != 0 && (s.ou n).linkCfg &&
  (s.flag (R.SCN_OUT_STAT n) 6 || (s.isReference n && !s.flag (R.SCN_OUT_STAT n) 9)) &&
  s.frameNo n == s.pair.cutFrame.getD n 0 && s.pair.cutOk.getD n 0 == 8 &&
  !(List.range 16).any (fun r => (s.hv n r).latched) &&
  (enabledRegions (s.hd n).regs).all (fun r => (s.hv n r).isMatch)

/-- Mask of the takeover-ready outputs. -/
def State.readyMask (s : State) : Nat := maskOf ((List.range s.nOut).filter s.takeReady)

/-- The CUTOFF frame of this cut-off (R438, R446): the ACTIVE device names what applies there. -/
def State.sendCutoff (s : State) (n : Nat) (f : Word) (sw hardy : Bool) : State :=
  if s.welded then
    let binds := if s.leads then
        (s.disp.commits.filter (fun c => c.bound.contains (n, f))).map (fun c => (c.slice, c.seq)) else []
    s.ulxSend (.cutoff ⟨n, f, binds, sw, hardy, s.readyMask⟩)
  else s

/-- The part of a cut-off in FAB on the device that decides (R216 steps 3 and 4). -/
def State.fabCut (s : State) (n : Nat) (f : Word) : State :=
  let sw := s.cutSwitch n
  let hw := s.cutHardy n
  (((s.sendCutoff n f sw hw).cutState n f sw hw).giveOutput n f).afterCut n

/-- The part of a cut-off in FAB on a STANDBY device, as a CUTOFF frame names it (R440). -/
def State.fabFollow (s : State) (c : CutMsg) : State :=
  let s := s.modOu c.out (fun o => { o with fabDue := false })
  let s := c.binds.foldl (fun s b => s.modCommit b.1 b.2 (fun k =>
    if k.bound.contains (c.out, c.frame) then k else { k with bound := k.bound ++ [(c.out, c.frame)] })) s
  (((s.sendCutoff c.out c.frame false false).cutState c.out c.frame c.sw c.hardy).giveOutput c.out c.frame).afterCut c.out

/-- Steps 1 to 4 of R216 at cut-off `f`: on a STANDBY device step 3 waits for the CUTOFF frame (R440). -/
def State.cut (s : State) (n : Nat) (f : Word) : State :=
  let s := s.setReg (R.SCN_OUT_FRAME n) f.toNat
  let s := if n = 0 then s.sendGptp else s
  let s := (s.modOu n (fun o => { o with cutAt := s.time })).swapBuffers n
  if s.leads then s.fabCut n f
  else match s.pair.cuts.find? (fun c => c.out == n && c.frame == f) with
    | some c => { s with pair := { s.pair with cuts := s.pair.cuts.filter (fun d => d != c) } }.fabFollow c
    | none => s.modOu n (fun o => { o with fabDue := true })

/-- CUT_OFF: line VACTIVE starts; `e` is the phase error in steps of 10 ns (R216, R299, R308). -/
def execCutOff (n : Fin 8) (e : BitVec 28) (s : State) : Out :=
  .next (
    let n := n.val
    if s.nOut ≤ n || !s.scanning n then s else
    ((s.linkFrame n).genlock n e).cut n (s.frameNo n + 1))

/-! ## Enable, disable, REPROGRAM -/

/-- SWITCH_SELECT: the set select goes to PIXn while the mirrored line is active and at most VACTIVE − 4 (R302). -/
def execSwitchSelect (n : Fin 8) (s : State) : Out :=
  .next (
    let n := n.val
    let v := match s.scanTim n with | some t => t.vact | none => 0
    if s.leads && (s.ou n).next.isSome && (s.ou n).gen == .run && s.lineNo n + 4 ≤ v then
      s.modOu n (fun o => { o with select := true })
    else s)

/-- PANEL_ON_DELAY_END: T_PANEL_ON has elapsed (R304 step 3). -/
def execPanelOnDelayEnd (n : Fin 8) (s : State) : Out :=
  .next (if (s.ou n.val).gen = .panelOn then s.modOu n.val (fun o => { o with gen := .pll }) else s)

/-- PLL_LOCK: the prime pass and link start begin (R303 step 4, R304 step 4). -/
def execPllLock (n : Fin 8) (s : State) : Out :=
  .next (
    let n := n.val
    let go := fun (g : GenSt) => (s.modOu n (fun o => { o with gen := g })).setLnk n 1
    let prime := fun (s : State) => (s.relocateBack n).startPass n
    match (s.ou n).gen with
    | .pll => if n = 0 && s.limpBoot then go .link else prime (go .link)
    | .reprogPll => prime (go .reprogLink)
    | _ => s)

/-- The generator starts at line VACTIVE: the first cut-off of an enable or REPROGRAM (R303 steps 6 and 7, R304 steps 6
and 7, R708). -/
def State.startGenerator (s : State) (n : Nat) : State :=
  let o := s.ou n
  let f := s.frameNo n + 1
  let reprog := o.gen == .reprogLink && !(n == 0 && s.limpBoot)
  let limpUp := n = 0 && s.limpBoot && o.gen == .link
  let s := if n = 0 && o.enabled && !limpUp then
      (s.setFlag R.HRD_STAT 11 false).modLimp (fun l => { l with tim := if s.limpBoot then none else l.tim })
    else s
  let s := s.modOu n (fun o => { o with gen := .run, seq := if limpUp then o.seq else none })
  let s := (s.cut n f).updSusp n
  match o.seq with
  | some q =>
    let hi := if reprog then (s.time - o.blankAt) % 2 ^ 32 else s.linkValue n
    s.complete 0 q S_DONE (f.toNat + 2 ^ 32 * hi)
  | none => s

/-- LINK_START_DONE: link start or a retrain ends; the lane and rate pairs `bad` fail; the sink reports training without AUX
handshake, PSR, PSR2 and its Y granularity (R326-R328). -/
def execLinkStartDone (n : Fin 8) (bad : List (Nat × Nat)) (fast psr psr2 : Bool) (gran : Nat) (s : State) : Out :=
  .next (
    let n := n.val
    match (s.ou n).gen with
    | .link | .reprogLink => (s.endLinkStart n bad fast psr psr2 gran).startGenerator n
    | .run => if s.lnk n = 1 then s.endLinkStart n bad fast psr psr2 gran else s
    | _ => s)

/-- BACKLIGHT_ON_DELAY_END: T_BL_ON after line 0 of the first frame (R304 step 8). -/
def execBacklightOnDelayEnd (n : Fin 8) (s : State) : Out :=
  .next (if (s.ou n.val).enabled && (s.ou n.val).gen = .run then s.modOu n.val (fun o => { o with bl := true }) else s)

/-- BACKLIGHT_OFF_DELAY_END: T_BL_OFF has elapsed; the generator stops at the next cut-off (R305 step 3). A disable that finds
no running generator powers the panel down. -/
def execBacklightOffDelayEnd (n : Fin 8) (s : State) : Out :=
  .next (if (s.ou n.val).gen = .stopBl then s.modOu n.val (fun o => { o with gen := .stopCut }) else s)

/-- PANEL_OFF_DELAY_END: T_PANEL_OFF has elapsed (R305 steps 5 and 6). A limp trigger that waited for a cut-off of this output
brings it up from the limp output record (R278). -/
def execPanelOffDelayEnd (n : Fin 8) (s : State) : Out :=
  .next (
    let n := n.val
    let o := s.ou n
    if o.gen != .stopPanel then s else
    let s := s.modOu n (fun o => { o with gen := .off, seq := none })
    let s := match o.seq with
      | some q => s.complete 0 q S_DONE 0
      | none => s
    if n = 0 && s.disp.limp.trigger.isSome then (s.modLimp (fun l => { l with trigger := none })).limpTrigger else s)

/-- BL_PWM_PERIOD: a PWM period starts, `us` after the start of the ramp (R312). -/
def execBlPwmPeriod (n : Fin 8) (us : Nat) (s : State) : Out :=
  .next (
    let n := n.val
    match (s.ou n).ramp with
    | some r =>
      let done := 1000 * r.ms ≤ us
      let v := if done then r.target
        else if r.start ≤ r.target then r.start + ceilDiv ((r.target - r.start) * us) (1000 * r.ms)
        else r.start - ceilDiv ((r.start - r.target) * us) (1000 * r.ms)
      let s := s.setFld (R.SCN_OUT_BL_DUTY n) 0 16 v
      if done then s.modOu n (fun o => { o with ramp := none }) else s
    | none => s)

/-- Active time and period of OUTn_BL_PWM in REFCLK cycles (R311). -/
def State.pwm (s : State) (n : Nat) : Nat × Nat :=
  let f := s.fld (R.SCN_OUT_BL_CFG n) 0 16
  let p := (100000000 + f / 2) / max 1 f
  let d := s.duty n
  (if d = 0 then 0 else if d = 65535 then p
   else min p (max ((d * p + 32767) / 65535) (s.fld (R.SCN_OUT_BL_CFG n) 24 8)), p)

/-! ## Errors and scrubbing -/

/-- SCANOUT_UNDERRUN (R290). -/
def execScanoutUnderrun (n : Fin 8) (s : State) : Out :=
  .next (if s.scanning n.val then (s.setFlag (R.SCN_OUT_STAT n.val) 7 true).slagErr 9 n.val 0x15 else s)

/-- Live plane pixels of the aligned 8-byte word at `off` of the live Hardy buffer. -/
def planePixels (p : Plane) (off : Nat) : List (Nat × Nat) :=
  ([0, 1].filterMap (fun i =>
    let k := (off - 0x40) / 4 + i
    if off < 0x40 || p.w = 0 || p.h ≤ k / p.w then none else some (p.x + k % p.w, p.y + k / p.w)))

/-- SCANOUT_READ_ERROR: scan-out finds the word at `off` of the front buffer, or of the live Hardy plane, uncorrectable (R313). -/
def execScanoutReadError (n : Fin 8) (plane : Bool) (off : BitVec 26) (s : State) : Out :=
  .next (
    let n := n.val
    let o := off.toNat / 8 * 8
    if !s.scanning n then s
    else if plane then
      let d := s.hd n
      let a := s.hardyAddr n d.live o
      let px := planePixels (s.planeOf n d.live) o
      let hit := (enabledRegions d.regs).filter (fun r =>
        let g := d.regs.getD r HRegion.reset
        px.any (fun q => g.x ≤ q.1 && q.1 < g.x + g.w && g.y ≤ q.2 && q.2 < g.y + g.h))
      (s.modHd n (fun d => { d with spoilt := d.spoilt ++ hit.map (fun r => (s.frameNo n, r)) })).anvUe a 2 (dieChannel a) 0x01
    else
      let a := granuleAt ((s.ou n).gmap.getD (s.front n * s.bufGranules n + o / granuleBytes) 0) + o % granuleBytes
      let s := (s.setFlag (R.SCN_OUT_STAT n) 8 true).setReg (R.SCN_OUT_UE n) (sat 32 (s.reg (R.SCN_OUT_UE n) + 2))
      s.anvUe a 9 (dieChannel a) 0x01)

/-- The granule that the scrubber reads after `g`, and whether a pass has ended. -/
def State.nextScrub (s : State) (g : Nat) : Nat × Bool :=
  match ((List.range 192).drop (g + 1)).find? (fun k => s.dieOk (k / 64)) with
  | some k => (k, false)
  | none => (((List.range 192).find? (fun k => s.dieOk (k / 64))).getD 0, true)

/-- ANV_SCRUB_GRANULE: the scrubber has read a granule; `fixed` lists corrected words as offset and whether the bit was a check
bit, `ue` the uncorrectable ones (R313, R314). -/
def execAnvScrubGranule (fixed : List (BitVec 21 × Bool)) (ue : List (BitVec 21)) (s : State) : Out :=
  .next (
    let g := s.disp.scrubAt
    if !s.flag R.ANV_SCRUB_CFG 31 || 1 < s.power.st || !s.dieOk (g / 64) then
      (if s.dieOk (g / 64) then s else s.modDisp (fun d => { d with scrubAt := (s.nextScrub g).1 })) else
    let at_ := fun (o : BitVec 21) => granuleAt g + o.toNat
    let s := fixed.foldl (fun s p =>
      (s.incSat R.ANV_CE_COUNT 0 32).slagErr (if p.2 then 0 else 1) (dieChannel (at_ p.1)) 0x02) s
    let s := ue.foldl (fun s o =>
      let c := dieChannel (at_ o)
      let s := (s.anvUe (at_ o) 2 c 0x02).modDisp (fun d => { d with chanUe := modAt d.chanUe c (· + 1) })
      if 8 ≤ s.disp.chanUe.getD c 0 then s.channelFail c else s) s
    let (k, ended) := s.nextScrub g
    let s := s.modDisp (fun d => { d with scrubAt := k })
    if ended then (s.incWrap R.ANV_STAT 16 16).modDisp (fun d => { d with chanUe := List.replicate 24 0 }) else s)

/-! ## BAR2 -/

/-- A BAR2 write to the Anvil aperture is taken: a free granule, or one of a disabled output, on a SOLO device (R297). -/
def State.bar2Taken (s : State) (g : Nat) : Bool :=
  let w := s.owner g
  s.pair.role == .solo && (w == 0xFF || (w < 8 && !(s.ou w).enabled && (s.ou w).gen == .off))

/-- BAR2_WRITE from a port: `lost` says that the merge read of a partly written word is uncorrectable (R14, R15, R256, R287,
R297, R657). -/
def execBar2Write (p : Fin 2) (addr : BitVec 29) (bytes : List Byte) (lost : Bool) (s : State) : Out :=
  .next (
    let a := addr.toNat
    let g := a / granuleBytes
    if !s.served || s.sysMaster (.port p) = none || bytes = [] || s.nDies ≤ g / 64 then s
    else if 0x40 ≤ s.owner g && s.owner g < 0x48 then
      (s.incSat R.HRD_FOREIGN 0 32).slagErr 5 (s.owner g - 0x40) 0x14
    else if !s.bar2Taken g then s.incSat R.ANV_BAR2_REF 0 32
    else
      let lo := a / 8 * 8
      let hi := roundUp (a + bytes.length) 8
      let part := lo < a || a + bytes.length < hi
      if lost && part then
        (s.anvilWrite lo (List.replicate (a - lo) 0 ++ bytes ++ List.replicate (hi - a - bytes.length) 0)).anvUe lo 2
          (dieChannel lo) 0x01
      else s.anvilWrite a bytes)

end Sys2Proof.Machine
end

