-- ==== Sys2Proof/Machine/Pair.lean ====
section
/-! DEFINITION. Mirrored pairs over Ulinex: the link (R428-R431), welding (R432-R437), per-output takeover (R450), and opcode
class 0x09 (R145, R454, R455). -/
namespace Sys2Proof.Machine

/-- PHASE of ULX_STAT (R434): 0 NONE, 1 HELLO, 2 COPY, 3 DRAIN, 4 FREEZE, 5 WELDED. -/
def State.phase (s : State) : Nat := s.fld R.ULX_STAT 6 3
/-- Sets PHASE. -/
def State.setPhase (s : State) (k : Nat) : State := s.setFld R.ULX_STAT 6 3 k
/-! ## The link -/

/-- A frame arrives (R430): a bad CRC or an LSEQ out of order discards it; LACK acknowledges what was sent. -/
def State.ulxRx (s : State) (h : UlxHdr) (f : State → State) : State :=
  if !s.flag R.ULX_STAT 2 then s
  else if !h.good || h.lseq != s.pair.rseq + 1 then s.incSat R.ULX_LINK 0 16
  else f ((s.modPair (fun p => { p with
    rseq := h.lseq, unacked := p.unacked.filter (fun u => 0 < sdiff u.1 h.lack) })).ulxPump)

/-- IDLE_FRAME: acknowledgements only; LSEQ is that of the last frame sent (R429, R430). -/
def execIdleFrame (h : UlxHdr) (s : State) : Out :=
  .next (
    if !s.flag R.ULX_STAT 2 then s
    else if !h.good || h.lseq != s.pair.rseq then s.incSat R.ULX_LINK 0 16
    else (s.modPair (fun p => { p with unacked := p.unacked.filter (fun u => 0 < sdiff u.1 h.lack) })).ulxPump)

/-- ULX_RETRANSMIT: the sender resends from the first unacknowledged frame (R430). -/
def execUlxRetransmit (s : State) : Out :=
  .next (if s.flag R.ULX_STAT 2 then s.pair.unacked.foldl (fun s u => s.emit (.ulx u.2)) s else s)

/-- ULX_TRAINED: training completes with the measured latency (R428, R431); unacknowledged frames are sent again. -/
def execUlxTrained (lat : Half) (s : State) : Out :=
  .next (
    if !s.fuses.pair || !s.flag R.ULX_CTRL 0 then s else
    let s := (s.setFlag R.ULX_STAT 2 true).setFld R.ULX_LAT 0 16 lat.toNat
    let s := s.modPair (fun p => { p with downAt := none })
    (s.pair.unacked.foldl (fun s u => s.emit (.ulx u.2)) s).ulxPump)

/-- ULX_LINK_DOWN: lock is lost, or LACK has not advanced for 20 us; the link retrains (R431). -/
def execUlxLinkDown (s : State) : Out :=
  .next (
    if !s.flag R.ULX_STAT 2 then s else
    ((s.setFlag R.ULX_STAT 2 false).incSat R.ULX_LINK 16 16).modPair (fun p => { p with downAt := some s.time }))

/-- ULX_LATENCY_MEASURE (R428). -/
def execUlxLatencyMeasure (lat : Half) (s : State) : Out :=
  .next (if s.flag R.ULX_STAT 2 then s.setFld R.ULX_LAT 0 16 lat.toNat else s)

/-! ## Welding -/

/-- This device holds at least one enabled output. -/
def State.holdsAny (s : State) : Bool := (List.range s.nOut).any (fun n => (s.ou n).enabled && s.holds n)

/-- The HELLO of this device (R434). -/
def State.helloMsg (s : State) (prefer : Nat) : Hello :=
  ⟨if h : prefer < 3 then ⟨prefer, h⟩ else 0, s.flag R.ULX_CFG 0, s.fuses.tier, s.boot.log2n, s.nDrc * s.fld R.DRC_CFG 16 4 * 1024,
    s.flag R.DRC_CFG 14, 0xB0, s.holdsAny⟩

/-- PAIR_WELD completes without a weld (R433). -/
def State.failWeld (s : State) (reason : Nat) : State :=
  let s := match s.pair.weld with
    | some (q, _) => s.complete 0 q S_DONE (2 ^ 32 * reason)
    | none => s
  ((s.modPair (fun p => { p with weld := none, hello := none, toActive := false })).setPhase 0).slagErr 17 0 0x0D

/-- A slice of the STANDBY-to-be: ring disabled, own journal, surfaces and staged state dropped (R434). -/
def Slice.dropForWeld (x : Slice) : Slice :=
  { x with ringEn := false, journal := [], inHand := .none, surfaces := [], sets := [], dirty := none, fetchRetry := false }

/-- The STANDBY-to-be gives up its own state (R434). -/
def State.dropForWeld (s : State) : State :=
  let s := { s with slices := s.slices.map Slice.dropForWeld }
  let s := s.modDisp (fun d => { d with
    layers := List.replicate 64 Layer.reset
    commits := []
    outs := d.outs.map (fun o => { o with enabled := false, gen := .off, seq := none, bl := false, wb := none, pass := .idle }) })
  (List.range 8).foldl (fun s n => (s.setLnk n 0).updSusp n) s

/-- State still to send at the start of COPY, in MiB (R436). -/
def State.copyMiB (s : State) : Nat := ceilDiv (sumBy s.pagesUsed (List.range 16)) 256

/-- The roles that two HELLOs decide (R432): none is a conflict; otherwise whether this device becomes ACTIVE. -/
def weldRole (mine theirs : Hello) : Option Bool :=
  if mine.prefer = 1 && theirs.prefer = 1 || mine.prefer = 2 && theirs.prefer = 2 then none
  else if mine.prefer = 1 || theirs.prefer = 2 then some true
  else if mine.prefer = 2 || theirs.prefer = 1 then some false
  else if mine.drives != theirs.drives then some mine.drives
  else some (!mine.rank)

/-- Both HELLOs are in: the weld goes on or ends (R432-R434). -/
def State.decideWeld (s : State) : State :=
  match s.pair.weld, s.pair.hello with
  | some (q, pf), some h =>
    let mine := s.helloMsg pf
    if mine.rank == h.rank then s.failWeld 6
    else if mine.tier != h.tier || mine.log2n != h.log2n || mine.dramMiB != h.dramMiB || mine.ecc != h.ecc ||
        mine.stepping != h.stepping then s.failWeld 3
    else match weldRole mine h with
      | none => s.failWeld 2
      | some true =>
        ((s.modPair (fun p => { p with toActive := true, hello := none })).setPhase 2).setReg R.ULX_COPY s.copyMiB
      | some false =>
        let s := s.complete 0 q S_DONE 2
        ((s.dropForWeld.modPair (fun p => { p with toActive := false, hello := none, weld := none })).setPhase 2)
  | _, _ => s

/-- HELLO: the partner's weld handshake arrives (R434). -/
def execHello (h : UlxHdr) (m : Hello) (s : State) : Out :=
  .next (s.ulxRx h (fun s =>
    if s.phase = 0 || s.phase = 1 then (s.modPair (fun p => { p with hello := some m })).decideWeld else s))

/-- WELD_TIMEOUT: no partner PAIR_WELD within WELD_TIMEOUT (R433). -/
def execWeldTimeout (s : State) : Out := .next (if s.phase = 1 then s.failWeld 1 else s)

/-- WELD_DRAIN: fewer than 16 MiB of resent pages remain (R434). -/
def execWeldDrain (s : State) : Out :=
  .next (if s.phase = 2 && s.pair.toActive then s.setPhase 3 else s)

/-- A raster job, compute job or DMA transfer is OPEN.ISSUED (R434). -/
def State.workIssued (s : State) : Bool :=
  s.slices.any (fun x => x.journal.any (fun e => e.st == .openIssued && (isJob e.body || isDma e.body)))

/-- WELD_FREEZE: no job or transfer is OPEN.ISSUED, and every billet is held at step 16 (R434). -/
def execWeldFreeze (s : State) : Out :=
  .next (if s.phase = 3 && s.pair.toActive && !s.workIssued then (s.setPhase 4).setReg R.ULX_COPY 0 else s)

/-- The bytes of two granules, from address 0. -/
def State.granulePair (s : State) (g h : Nat) : Mem :=
  let part := fun (x base : Nat) => (s.disp.anvil.filter (fun e => granuleAt x ≤ e.1 && e.1 < granuleAt x + granuleBytes)).map
    (fun e => (e.1 - granuleAt x + base, e.2))
  part g 0 ++ part h granuleBytes

/-- A register belongs to configuration: it holds a class C or class S field. -/
def isConfigReg (off : Nat) : Bool :=
  match findReg (off % bankStride) with
  | some h => h.row.fields.any (fun f => f.cls == .c || f.cls == .s)
  | none => false

/-- The bulk state that a weld sends (R434). -/
def State.weldParts (s : State) : List StPart :=
  [.config (s.regs.filter (fun e => isConfigReg e.1))] ++
  (List.range 16).map (fun n => .slice n (s.slice n)) ++
  [.compose s.disp.layers s.disp.commits s.disp.scalers] ++
  (List.range 8).map (fun n =>
    let o := s.ou n
    .output n o.enabled o.linkCfg o.set o.colour o.wb (s.allocSize n).1 (s.allocSize n).2) ++
  (List.range 8).map (fun n =>
    let d := s.hd n
    .hardy n d (s.granulePair (d.granules.getD 0 0) (d.granules.getD 1 0))
      (s.granulePair (d.granules.getD 2 0) (d.granules.getD 3 0))) ++
  [.limp s.disp.limp.image s.disp.limp.palette, .frames ((List.range 8).map s.frameNo),
   .hmi s.touch s.aud s.net.gates s.net.avtp]

/-- The content of a Hardy buffer received as one memory. -/
def State.putGranulePair (s : State) (g h : Nat) (m : Mem) : State :=
  let s := s.zeroGranules [g, h]
  m.foldl (fun s e =>
    s.anvilWrite (if e.1 < granuleBytes then granuleAt g + e.1 else granuleAt h + (e.1 - granuleBytes)) [e.2]) s

/-- An output's object state as the ACTIVE-to-be holds it; this device allocates its own granules (R318). An enabled output is
brought up under R304. -/
def State.loadOutput (s : State) (n : Nat) (enabled linkCfg : Bool) (set : Option Nat) (colour : ColourSt) (wb : Option Nat)
    (w h : Nat) : State :=
  let s := s.modOu n (fun o => { o with linkCfg := linkCfg, set := set, colour := colour, wb := wb })
  let s := if w = 0 then s.allocate n 0 0
    else if s.freeFor n < 2 * granulesOf w h then s.leaveUnallocated n
    else
      let s := s.allocate n w h
      s.zeroGranules (s.ou n).gmap
  if enabled then
    (s.freshGenlock n).modOu n (fun o => { o with enabled := true, gen := .panelOn, blankAt := s.time })
  else s

/-- A part of the bulk state is stored (R434). -/
def State.loadPart (s : State) (p : StPart) : State :=
  match p with
  | .config l => l.foldl (fun s e => if isConfigReg e.1 && e.1 != R.ULX_CFG then { s with regs := s.regs.put e.1 e.2 } else s) s
  | .slice n x => s.modSlice n (fun y => { x with
      binding := y.binding, ringEn := y.ringEn, sqBase := y.sqBase, rqBase := y.rqBase, db := y.db, rqHead := y.rqHead
      inHand := .none, udpOut := [] })
  | .compose l c k => s.modDisp (fun d => { d with layers := l, commits := c, scalers := k })
  | .output n en lc set col wb w h => s.loadOutput n en lc set col wb w h
  | .hardy n h b0 b1 =>
    let g := (s.hd n).granules
    let s := s.modHd n (fun d => { h with granules := d.granules, move := none })
    (s.putGranulePair (g.getD 0 0) (g.getD 1 0) b0).putGranulePair (g.getD 2 0) (g.getD 3 0) b1
  | .limp im pal => s.modLimp (fun l => { l with image := im, palette := pal })
  | .frames l => s.modPair (fun p => { p with frames := l })
  | .hmi t a g v => { s with touch := t, aud := a, net := { s.net with gates := g, avtp := v } }

/-- STATE_FRAME: bulk state arrives at the STANDBY-to-be (R434). -/
def execStateFrame (h : UlxHdr) (p : StPart) (s : State) : Out :=
  .next (s.ulxRx h (fun s => if s.phase = 2 && !s.pair.toActive then s.loadPart p else s))

/-- WELD_DONE: FREEZE ends (R434, R437). The ACTIVE-to-be has then sent everything; the STANDBY-to-be loads its frame counters. -/
def execWeldDone (s : State) : Out :=
  .next (
    let all := 2 ^ s.nOut - 1
    let fresh := fun (s : State) => (s.modPair (fun p => { p with
      weld := none, cutOk := List.replicate 8 0, cuts := [], results := [], completions := [], recent := [], take := [], give := [], ask := [],
      took := [], lostAt := none, switch := none, ptp := s.flag R.NET_PTP_STAT 0 })).setReg R.ULX_FWD 0 |>.setFld R.ULX_LAT 16 16 0
    if s.phase = 4 && s.pair.toActive then
      let s := match s.pair.weld with
        | some (q, _) => s.complete 0 q S_DONE 1
        | none => s
      let s := s.weldParts.foldl (fun s p => s.ulxSend (.state p)) s
      ((fresh s).setPhase 5 |>.setRole .active).setFld R.ULX_HOLD 0 16 all
    else if s.phase = 2 && !s.pair.toActive then
      let s := ((s.pair.frames.zip (List.range 8)).foldl (fun s p => s.setReg (R.SCN_OUT_FRAME p.2) p.1.toNat) s)
      ((fresh s).setPhase 5 |>.setRole .standby).setFld R.ULX_HOLD 0 16 (2 ^ 8 * all)
    else s)

/-! ## The end of a weld -/

/-- The STANDBY device after severance or unweld (R455). -/
def State.severedStandby (s : State) : State :=
  let s := { s with slices := s.slices.map (fun (x : Slice) => { x with ringEn := false }) }
  let s := ((s.setRole .solo).setPhase 0).setFlag R.ULX_STAT 10 true
  let s := s.modPair (fun p => { p with take := [], ask := [], cuts := [], completions := [], switch := none, lostAt := none, give := [] })
  let s := (List.range s.nOut).foldl (fun s n =>
    if s.flag R.ULX_HOLD n && s.scanning n then
      s.modPair (fun p => { p with give := p.give ++ [(n, s.frameNo n + 1)] })
    else ((s.modOu n (fun o => { o with enabled := false, gen := .off, seq := none, bl := false, fabDue := false })).setLnk n 0).updSusp n) s
  (s.setFld R.ULX_HOLD 8 8 0).slagErr 17 0 0x0D

/-- Outputs that the partner holds. -/
def State.partnerHeld (s : State) : List Nat := maskList s.nOut (s.fld R.ULX_HOLD 8 8)

/-- ULX_LAST, ULX_LAST_FRAME and TAKEOVERS at a takeover of the outputs `l` (R450, R452). -/
def State.noteTakeover (s : State) (l : List Nat) (cause : Nat) : State :=
  let s := s.incSat R.ULX_STAT 24 8
  let s := s.setReg R.ULX_LAST (maskOf l + 2 ^ 8 * cause)
  match l with
  | n :: _ => s.setReg R.ULX_LAST_FRAME (s.frameNo n).toNat
  | [] => s

/-! ## Becoming ACTIVE -/

/-- The takeover notice to slice `n` (R456). -/
def State.notice (s : State) (n : Nat) : State :=
  match (s.slice n).binding with
  | .pcie _ _ => s.irq n 3
  | .eth id =>
    let q := (s.slice n).nextSeq
    s.emit (.udp false id (Reply.bytes ⟨q, 0, 0, false, false, BitVec.ofNat 16 E_SEQ_GAP, q⟩))
  | .unbound => s

/-- The reply records forwarded in the last 50 us are written again at their counts, then the tail shadow (R452 step 4). -/
def State.rewriteReplies (s : State) (n : Nat) : State :=
  match (s.slice n).binding with
  | .pcie _ _ =>
    let x := s.slice n
    let l := (s.pair.recent.filter (fun q => q.1 == n && decide (s.time ≤ q.2.2.2 + 50))).reverse
    if l = [] then s
    else
      let s := l.foldl (fun s q => s.hostWrite n (x.rqBase.toNat + 16 * (q.2.1.toNat % 256)) q.2.2.1.bytes) s
      s.hostWrite n (x.rqBase.toNat + 0x1000) (leBytes 4 x.rqTail.toNat)
  | _ => s

/-- Entries whose own effect has ended while no completion was forwarded take their own values (R441). -/
def State.ownResults (s : State) (n : Nat) : State :=
  ((s.slice n).journal.filter (fun e => e.isOpen && e.slot.isSome)).foldl (fun s e => match e.here with
    | some (st, v) => s.endEntry n e st.toNat v.toNat
    | none => s) s

/-- Steps 3 to 5 of R452: the device becomes ACTIVE; entries go on with their own values, recent replies are written again, and
every configured slice is told. Haptic effects end, and dirty-page logs report every page (R457, R185). -/
def State.becomeActive (s : State) : State :=
  let s := s.setRole .active
  let s := { s with slices := s.slices.map (fun (x : Slice) => match x.dirty with
    | some d => { x with dirty := some { d with all := true } }
    | none => x) }
  let s := (List.range 16).foldl (fun s n => (s.ownResults n).rewriteReplies n) s
  let s := (s.modPair (fun p => { p with recent := [], cuts := [] })).modDisp (fun d => { d with
    outs := d.outs.map (fun (o : OutSt) => { o with fabDue := false }) })
  let s := (List.range 8).foldl (fun s k => s.hapCut k true) s
  (List.range s.nSlices).foldl (fun s n => s.notice n) s

/-- A PAIR_SWITCH in progress completes on this device (R454, R459). -/
def State.switchDone (s : State) : State :=
  match s.pair.switch with
  | some q => (s.modPair (fun p => { p with switch := none })).completeLo 0 q S_DONE (s.frameNo 0).toNat
  | none => s

/-- Outputs that this device has to take: scanning and not held. The others it simply holds from now on. -/
def State.takeAll (s : State) : State :=
  let l := (List.range s.nOut).filter (fun n => !s.flag R.ULX_HOLD n && s.scanning n)
  let rest := (List.range s.nOut).filter (fun n => !l.contains n)
  let s := rest.foldl (fun s n => (s.setFlag R.ULX_HOLD n true).setFlag R.ULX_HOLD (8 + n) false) s
  s.modPair (fun p => { p with
    cause := 1, took := []
    take := l.map (fun n => (n, match p.take.find? (fun t => t.1 == n) with | some t => t.2 | none => none)) })

/-- Step 3 of R454: with every output of the former ACTIVE device taken, this device becomes ACTIVE and completes the switch. -/
def State.promote (s : State) : State :=
  ((s.becomeActive.switchDone.takeAll).noteTakeover s.pair.took 3).modPair (fun p => { p with took := [] })

/-- The outputs that the partner held are to be taken: those that scan at a cut-off, the others at once (R453, R455). -/
def State.retake (s : State) (l : List Nat) : State :=
  let t := l.filter s.scanning
  let s := (l.filter (fun n => !t.contains n)).foldl (fun s n => s.setFlag R.ULX_HOLD n true) s
  (s.setFld R.ULX_HOLD 8 8 (maskOf t)).modPair (fun p => { p with cause := 1, took := [], take := t.map (fun n => (n, none)) })

/-! ## Per-output takeover -/

/-- The first cut-off of output `n` at least 50 us ahead (R450, R454). -/
def State.cutIn50 (s : State) (n : Nat) : Word :=
  match s.scanTim n with
  | some t =>
    let period := t.htot * t.vtot * 1000 / max 1 t.pclk
    if s.time + 50 ≤ (s.ou n).cutAt + period then s.frameNo n + 1 else s.frameNo n + 2
  | none => s.frameNo n + 1

/-- TKO_REQUEST: the partner asks this device to take output `n` (R450 step 2). -/
def execTkoRequest (h : UlxHdr) (n : Fin 8) (f : Word) (s : State) : Out :=
  .next (s.ulxRx h (fun s =>
    let n := n.val
    let ok := (enabledRegions (s.hd n).regs).all (fun r => (s.hv n r).recent.contains (f, false))
    if s.takeReady n && ok && !s.pair.ask.any (fun a => a.1 == n) then
      let c := s.cutIn50 n
      (s.modPair (fun p => { p with take := p.take.filter (fun t => t.1 != n) ++ [(n, some c)], cause := 2 })).ulxSend (.tkoGrant n c)
    else s.ulxSend (.tkoRefusal n)))

/-- A request is refused or not answered: FAULT_N (R450 step 3). -/
def State.refused (s : State) (n : Nat) : State :=
  if s.pair.ask.any (fun a => a.1 == n) then
    (s.modPair (fun p => { p with ask := p.ask.filter (fun a => a.1 != n) })).slagX 5 n 0x06 {} false true
  else s

/-- TKO_GRANT: the partner takes the output at cut-off `c` (R450). -/
def execTkoGrant (h : UlxHdr) (n : Fin 8) (c : Word) (s : State) : Out :=
  .next (s.ulxRx h (fun s =>
    if s.pair.ask.any (fun a => a.1 == n.val) then
      s.modPair (fun p => { p with ask := p.ask.filter (fun a => a.1 != n.val), give := p.give ++ [(n.val, c)] })
    else s))

/-- TKO_REFUSAL (R450). -/
def execTkoRefusal (h : UlxHdr) (n : Fin 8) (s : State) : Out := .next (s.ulxRx h (fun s => s.refused n.val))

/-- TKO_ANSWER_TIMEOUT: no answer within 20 us (R450). -/
def execTkoAnswerTimeout (n : Fin 8) (s : State) : Out := .next (s.refused n.val)

/-- TKO_RELEASE: the holder reports that it has released the output (R342 step 2). -/
def execTkoRelease (h : UlxHdr) (n : Fin 8) (s : State) : Out :=
  .next (s.ulxRx h (fun s => s.setFlag R.ULX_HOLD (8 + n.val) false))

/-- HARDY_FRAME: a result of the partner arrives (R273). -/
def execHardyFrame (h : UlxHdr) (n : Fin 8) (f : Word) (r : Fin 256) (crc : Word) (ok : Bool) (s : State) : Out :=
  .next (s.ulxRx h (fun s =>
    if !s.welded then s else
    let n := n.val
    let s := { s with pair := { s.pair with results :=
      (n, f, r.val, crc, ok) :: s.pair.results.filter (fun p => !(p.1 == n && p.2.2.1 == r.val)) } }
    if (s.hd n).last != some f then s
    else if r.val = 0xFF then s.cross n 0xFF f (s.regs.get (R.HRD_OUT_FULL n)) true (crc, ok)
    else if r.val < 16 && !(s.hv n r.val).missing then s.cross n r.val f (s.hv n r.val).meas (s.hv n r.val).isMatch (crc, ok)
    else s))

/-- HB_PRESENT: 64 consecutive edges; `tko` is the level of ULX_TKO_IN (R449). -/
def execHbPresent (tko : Bool) (s : State) : Out :=
  .next (if s.fuses.pair then
    ((s.setFlag R.ULX_STAT 3 true).setFlag R.ULX_STAT 4 tko).modPair (fun p => { p with lostAt := none })
  else s)

/-! ## The opcodes -/

/-- PAIR_WELD (R145, R432, R434). -/
def opPairWeld : OpDef where
  code := 0x0900
  len := fixedLen 4
  slot := true
  nature := .trans
  who := .zero
  checks _ p _ m :=
    [⟨10, 2 < u8 m.payload 0, 0⟩, resv m.payload 1 3,
     ⟨12, p.pair.role != .solo || p.pair.weld.isSome || !p.flag R.ULX_STAT 2, fNONE⟩]
  issue s _ e :=
    let pf := u8 e.body.payload 0
    (((s.modPair (fun p => { p with weld := some (e.seq, pf) })).setPhase 1).ulxSend (.hello (s.helloMsg pf))).decideWeld

/-- PAIR_UNWELD (R145, R455). -/
def opPairUnweld : OpDef where
  code := 0x0901
  len := fixedLen 4
  slot := true
  nature := .trans
  who := .zero
  checks _ p _ m := [⟨10, u8 m.payload 0 != 0, 0⟩, resv m.payload 1 3, ⟨12, p.pair.role == .solo, fNONE⟩]
  issue s n e :=
    if s.pair.role = .standby then (s.severedStandby).completeOpen n e.seq S_DONE
    else
      let l := s.partnerHeld
      let s := ((s.completeOpen n e.seq S_DONE).setRole .solo).setPhase 0
      let s := ((s.setFlag R.ULX_STAT 10 true).modPair (fun p => { p with give := [], ask := [] })).retake l
      if l = [] then s else s.noteTakeover l 0
  project s _ _ := s.modPair (fun p => { p with role := .solo })

/-- PAIR_SWITCH (R145, R454). -/
def opPairSwitch : OpDef where
  code := 0x0902
  len := fixedLen 4
  slot := true
  nature := .trans
  who := .zero
  checks _ p _ m :=
    [⟨10, u8 m.payload 0 != 0, 0⟩, resv m.payload 1 3,
     ⟨12, p.pair.role != .active || p.pair.switch.isSome ||
      (maskList 8 (p.fld R.ULX_HOLD 0 8)).any (fun n => !p.flag R.ULX_HOLD (24 + n)), fNONE⟩]
  issue s _ e :=
    if s.pair.role = .active then
      let l := (maskList s.nOut (s.fld R.ULX_HOLD 0 8)).filter s.scanning
      (s.modPair (fun p => { p with switch := some e.seq, give := l.map (fun n => (n, s.cutIn50 n)) })).endSwitch
    else
      let l := s.partnerHeld.filter s.scanning
      let s := s.modPair (fun p => { p with switch := some e.seq, cause := 3, took := [], take := l.map (fun n => (n, some (s.cutIn50 n))) })
      if l = [] then s.promote else s
  project s _ _ := s.modPair (fun p => { p with switch := some 0 })

/-- PAIR_XCHECK (R145, R275). -/
def opPairXcheck : OpDef where
  code := 0x0903
  len := fixedLen 4
  who := .zero
  checks _ _ _ m := [⟨10, 1 < u8 m.payload 0, 0⟩, resv m.payload 1 3]
  issue s n e :=
    ((List.range s.nOut).foldl (fun s k => s.setFlag (R.HRD_OUT_XCHK k) 16 (u8 e.body.payload 0 == 1)) s).complete n e.seq S_DONE 0

/-- Class 0x09. -/
def pairOps : List OpDef := [opPairWeld, opPairUnweld, opPairSwitch, opPairXcheck]

end Sys2Proof.Machine
end

