-- ==== Sys2Proof/Machine/Touch.lean ====
section
/-! DEFINITION. Capacitive keys, sliders and wheels (R505-R524) and their opcodes (R135-R137, R140). -/
namespace Sys2Proof.Machine

/-! ## Groups, electrodes, controls -/

/-- Group `g`. -/
def State.tg (s : State) (g : Nat) : TouchGroup := s.touch.getD g TouchGroup.reset
/-- Changes group `g`. -/
def State.modTg (s : State) (g : Nat) (f : TouchGroup → TouchGroup) : State := { s with touch := modAt s.touch g f }
/-- Electrode `e`. -/
def TouchGroup.el (t : TouchGroup) (e : Nat) : TouchEl := t.els.getD e TouchEl.reset
/-- Changes electrode `e`. -/
def TouchGroup.modEl (t : TouchGroup) (e : Nat) (f : TouchEl → TouchEl) : TouchGroup := { t with els := modAt t.els e f }
/-- The control at electrode `e`. -/
def TouchGroup.ctl (t : TouchGroup) (e : Nat) : TouchCtl := t.ctls.getD e TouchCtl.reset
/-- Changes the control at electrode `e`. -/
def TouchGroup.modCtl (t : TouchGroup) (e : Nat) (f : TouchCtl → TouchCtl) : TouchGroup := { t with ctls := modAt t.ctls e f }

/-- Kind of an electrode: 0 unused, 1 key, 2 slider, 3 wheel. -/
def TouchEl.kind (x : TouchEl) : Nat := x.role % 4
/-- Control number. -/
def TouchEl.num (x : TouchEl) : Nat := x.role / 16
/-- Open or short (R515). -/
def TouchEl.faulty (x : TouchEl) : Bool := x.isOpen || x.short

/-- The electrodes of the control that holds electrode `e`, ascending. -/
def TouchGroup.members (t : TouchGroup) (e : Nat) : List Nat :=
  if (t.el e).kind < 2 then [e]
  else (List.range 12).filter (fun k => (t.el k).kind == (t.el e).kind && (t.el k).num == (t.el e).num)
/-- The lowest electrode of the control of `e`, where its state stands. -/
def TouchGroup.head (t : TouchGroup) (e : Nat) : Nat := (t.members e).headD e
/-- The controls of a group, by their lowest electrode. -/
def TouchGroup.controls (t : TouchGroup) : List Nat :=
  (List.range 12).filter (fun e => (t.el e).kind != 0 && t.head e == e)
/-- Delta of a control: its electrode's, or the largest of a slider or wheel (R507). -/
def TouchGroup.delta (t : TouchGroup) (c : Nat) : Int :=
  (t.members c).foldl (fun a e => if a < (t.el e).delta then (t.el e).delta else a) (t.el c).delta
/-- An electrode of the control acquires. -/
def TouchGroup.acquires (t : TouchGroup) (c : Nat) : Bool := (t.members c).any (fun e => (t.el e).acq.isSome)
/-- An electrode of the control is open or short: the control takes no further part (R515). -/
def TouchGroup.broken (t : TouchGroup) (c : Nat) : Bool := (t.members c).any (fun e => (t.el e).faulty)
/-- Some control is pressed. -/
def TouchGroup.anyPressed (t : TouchGroup) : Bool := t.controls.any (fun c => (t.ctl c).pressed)

/-- Position of a slider or wheel from its deltas (R509); none where every delta is 0 or less and the quotient has no value. -/
def touchPos (wheel : Bool) (deltas : List Int) : Option Nat :=
  let d := deltas.map (fun x => x.toNat)
  let m := d.length
  let i := (List.range m).foldl (fun a j => if d.getD a 0 < d.getD j 0 then j else a) 0
  let dm := if 0 < i then d.getD (i - 1) 0 else if wheel then d.getD (m - 1) 0 else 0
  let dp := if i + 1 < m then d.getD (i + 1) 0 else if wheel then d.getD 0 0 else 0
  let sum := dm + d.getD i 0 + dp
  if sum = 0 then none
  else
    let r : Int := 256 * (i : Int) + (256 * ((dp : Int) - dm)).fdiv sum
    if wheel then some ((r % (256 * m : Nat)).toNat * 1024 / (256 * m))
    else some ((clampI 0 (256 * (m - 1) : Nat) r).toNat * 1023 / (256 * (m - 1)))

/-- Position of a control. -/
def TouchGroup.position (t : TouchGroup) (c : Nat) : Option Nat :=
  touchPos ((t.el c).kind == 3) ((t.members c).map (fun e => (t.el e).delta))

/-! ## Reports (R519, R520) -/

/-- gPTP time in µs, 0 while not locked. -/
def State.touchTime (s : State) : Nat := if s.ptpLocked then s.net.time / 1000 % 2 ^ 32 else 0

/-- Delta saturated to 16 bits. -/
def sat16 (d : Int) : Nat := unsgn 16 (clampI (-32768) 32767 d)

/-- Marks a report with OVERFLOW. -/
def markLost (r : List Byte) : List Byte := modAt r 7 (fun b => b ||| 8)

/-- Reports leave while the human interface can reach a host: not in BANK and deeper (R664). -/
def State.touchOut (s : State) : Bool := s.power.st < 3 && !(s.power.restoring && 3 ≤ s.power.resState) && s.leads

/-- Writes one report into the ring of a PCIe-bound slice (R520). -/
def State.ringReport (s : State) (n entries addr : Nat) (seq : Word) (r : List Byte) : State :=
  (s.hostWrite n (addr + 16 * (seq.toNat % entries)) r).hostWrite n (addr + 16 * entries) (leBytes 4 (seq + 1).toNat)

/-- Delivers a group's kept reports to a PCIe-bound slice, oldest first. -/
def State.deliverRing (s : State) (g : Nat) : State :=
  let t := s.tg g
  match t.reports with
  | some (n, entries, addr) =>
    match (s.slice n).binding with
    | .pcie _ _ =>
      if s.touchOut then
        let l := match t.fifo with
          | (q, r) :: rest => if t.lost then (q, markLost r) :: rest else t.fifo
          | [] => []
        let s := l.foldl (fun s e => s.ringReport n entries addr e.1 e.2) s
        s.modTg g (fun t => { t with fifo := [], lost := t.lost && l.isEmpty })
      else s
    | _ => s
  | none => s

/-- Sends a group's kept reports to an Ethernet-bound slice, in one datagram: the reports of a scan that has ended (R520). -/
def State.deliverUdp (s : State) (g : Nat) : State :=
  let t := s.tg g
  match t.reports with
  | some (n, _, _) =>
    match (s.slice n).binding with
    | .eth id =>
      if s.touchOut && !t.fifo.isEmpty then
        let l := match t.fifo with
          | (q, r) :: rest => if t.lost then (q, markLost r) :: rest else t.fifo
          | [] => []
        (s.emit (.udp false id (l.flatMap (·.2)))).modTg g (fun t => { t with fifo := [], lost := false })
      else s
    | _ => s
  | none => s

/-- A report joins the group's FIFO of 64 and is delivered; without TCH_REPORTS it is dropped (R520). In a pair it is forwarded
(R439). -/
def State.putReport (s : State) (g : Nat) (r : List Byte) (seq : Word) : State :=
  let s := if s.pair.role == .active then s.ulxSend (.event (.touch g r)) else s
  if (s.tg g).reports.isNone then s
  else
    let full := 64 ≤ (s.tg g).fifo.length
    let s := if full then s.setFlag (banked R.TCH_SLG g) 3 true else s
    (s.modTg g (fun t => { t with
      fifo := (if full then t.fifo.drop 1 else t.fifo) ++ [(seq, r)], lost := t.lost || full })).deliverRing g

/-- Forms a report (R519): control or electrode `c`, EVENT, FLAGS without CONTROL, position, delta. -/
def State.report (s : State) (g c event flags pos : Nat) (delta : Int) : State :=
  let t := s.tg g
  let isCtl := event != 4 && 2 ≤ (t.el c).kind
  let bytes := leBytes 4 t.seq.toNat ++ leBytes 1 g ++ leBytes 1 (if isCtl then (t.el c).num else c) ++ leBytes 1 event ++
    leBytes 1 (flags + if isCtl then 0x20 else 0) ++ leBytes 2 pos ++ leBytes 2 (sat16 delta) ++ leBytes 4 s.touchTime
  (s.modTg g (fun t => { t with seq := t.seq + 1 })).putReport g bytes t.seq

/-- POSITION of a report of a control: 0 for a key, R509 for a slider or wheel; a position without a value is free. -/
def State.reportPos (s : State) (g c : Nat) : Nat × State :=
  let t := s.tg g
  if (t.el c).kind < 2 then (0, s)
  else match t.position c with
    | some p => (p, s)
    | none =>
      let (k, s) := s.draw
      (bits (Config.undefWord k 0).toNat 0 16, s)

/-! ## Presses and releases -/

/-- The bindings of a control fire at an edge: 0 press, 1 release (R521), the lower electrode first. They fire in the states in
which the channels run (R664). Answers whether the report carries HAPTIC. -/
def State.fireBinds (s : State) (g c edge : Nat) : Bool × State :=
  let t := s.tg g
  match t.haptic with
  | none => (false, s)
  | some ch =>
    let bs := sortBy HapBind.el (t.binds.filter (fun b => b.edge.testBit edge && (t.members c).contains b.el))
    if bs.isEmpty then (false, s)
    else if 3 ≤ s.power.st then (false, bs.foldl (fun s _ => s.incSat (banked R.HAP_CNT ch) 16 16) s)
    else
      let faulted := (s.hap ch).st == .fault
      let s := bs.foldl (fun s b =>
        let s := if s.pair.role == .active then s.ulxSend (.event (.bind (12 * g + b.el))) else s
        s.trigger ch ⟨b.effect, 255, none⟩) s
      (!faulted, s)

/-- Releases a control: report with `flags`, release bindings when `bind` (R507, R514, R515, R522). -/
def State.releaseCtl (s : State) (g c flags : Nat) (bind : Bool) : State :=
  let s := s.modTg g (fun t => t.modCtl c (fun x => { x with pressed := false, pressRun := 0, relRun := 0, pos := none }))
  let (h, s) := if bind then s.fireBinds g c 1 else (false, s)
  let (p, s) := s.reportPos g c
  s.report g c 2 (flags + if h then 4 else 0) p ((s.tg g).delta c)

/-- Groups with a pressed control (R523). -/
def State.touchedMask (s : State) : Nat := maskOf ((List.range s.nOut).filter (fun g => (s.tg g).anyPressed))

/-- Whether a group is scanned: present, enabled, on the device that drives the pins, in a state that keeps the engine
(R427, R664). -/
def State.scans (s : State) (g : Nat) : Bool := g < s.nOut && (s.tg g).enabled && s.leads && s.power.st < 5

/-- TOUCH_PRESS (R507, R518, R521): the control's press run is complete. -/
def execTouchPress (g : Fin 8) (c : Fin 12) (s : State) : Out :=
  .next (
    let t := s.tg g.val
    let x := t.ctl c.val
    if !s.scans g.val || !t.controls.contains c.val || x.pressed || x.pressRun < t.debounce then s
    else
      let (h, s) := s.fireBinds g.val c.val 0
      let (p, s) := s.reportPos g.val c.val
      let s := s.modTg g.val (fun t => t.modCtl c.val (fun x =>
        { x with pressed := true, relRun := 0, pos := if (t.el c.val).kind < 2 then none else some p }))
      let s := s.report g.val c.val 1 (if h then 4 else 0) p (t.delta c.val)
      if s.flag (banked R.TCH_GRP_OPT g.val) 2 then s.wake 2 g.val else s)

/-- TOUCH_RELEASE (R507, R521): the control's release run is complete. -/
def execTouchRelease (g : Fin 8) (c : Fin 12) (s : State) : Out :=
  .next (
    let t := s.tg g.val
    let x := t.ctl c.val
    if !s.scans g.val || !t.controls.contains c.val || !x.pressed || x.relRun < t.debounce then s
    else s.releaseCtl g.val c.val 0 true)

/-! ## Scanning (R506-R512, R515, R517) -/

/-- One electrode's part of a scan: its raw count, its delta, its acquisition, and the runs of R512 and R515. -/
def TouchEl.scan (x : TouchEl) (neg openMin raw : Nat) : TouchEl :=
  if x.kind = 0 || x.faulty then x
  else
    let delta : Int := (raw : Int) - x.base
    { x with
      raw := raw
      delta := delta
      acq := x.acq.map (fun l => if l.length < 16 then l ++ [raw] else l)
      negRun := if x.acq.isNone && openMin ≤ raw && delta < -(neg : Int) then x.negRun + 1 else 0
      openRun := if raw < openMin then x.openRun + 1 else 0
      shortRun := if raw = 0xFFFF then x.shortRun + 1 else 0 }

/-- AKS suppression of a key (R508). -/
def TouchGroup.suppressed (t : TouchGroup) (mode c : Nat) : Bool :=
  if (t.el c).kind != 1 || (t.ctl c).pressed || mode = 0 || mode = 3 then false
  else
    let beats := fun k => (t.el k).kind == 1 && k != c &&
      ((t.el c).delta < (t.el k).delta || ((t.el c).delta == (t.el k).delta && k < c))
    if mode = 1 then (0 < c && beats (c - 1)) || (c < 11 && beats (c + 1))
    else (List.range 12).any beats || (List.range 12).any (fun k => (t.el k).kind == 1 && (t.ctl k).pressed)

/-- Debounce of one control (R507, R508). -/
def TouchGroup.debounceCtl (t : TouchGroup) (mode c : Nat) : TouchGroup :=
  if t.broken c || t.acquires c then t.modCtl c (fun x => { x with pressRun := 0, relRun := 0 })
  else
    let d := t.delta c
    let sup := t.suppressed mode c
    t.modCtl c (fun x => { x with
      pressRun := if !sup && (t.th : Int) ≤ d then x.pressRun + 1 else 0
      relRun := if sup || d < (t.rel : Int) then x.relRun + 1 else 0 })

/-- MOVE of a pressed slider or wheel whose position has changed (R507). -/
def State.moveCtl (s : State) (g c : Nat) : State :=
  let t := s.tg g
  let x := t.ctl c
  if (t.el c).kind < 2 || !x.pressed || t.broken c then s
  else match t.position c with
    | some p =>
      if x.pos = some p then s
      else (s.modTg g (fun t => t.modCtl c (fun x => { x with pos := some p }))).report g c 3 0 p (t.delta c)
    | none => s

/-- TOUCH_SCAN (R506): the raw counts of the group's electrodes at the end of a scan. -/
def execTouchScan (g : Fin 8) (raws : List Half) (s : State) : Out :=
  .next (
    if !s.scans g.val then s
    else
      let s := s.deliverUdp g.val
      let opt := s.reg (banked R.TCH_GRP_OPT g.val)
      let t0 := s.tg g.val
      let t := { t0 with
        scans := t0.scans + 1
        follow := t0.follow + 1
        els := (List.range 12).map (fun e => (t0.el e).scan t0.neg (bits opt 16 16) (raws.getD e 0).toNat) }
      let t := t.controls.foldl (fun t c => t.debounceCtl (bits opt 0 2) c) t
      let s := s.modTg g.val (fun _ => t)
      let reach := t.els.any (fun x => x.kind != 0 && !x.faulty && x.acq.isNone && (t.th : Int) ≤ x.delta)
      let s := if reach then s.setFld R.TCH_GSTAT 0 3 0 else s
      t.controls.foldl (fun s c => s.moveCtl g.val c) s)

/-- TOUCH_FOLLOW (R511): every FOLLOW scans each baseline moves one count. -/
def execTouchFollow (g : Fin 8) (s : State) : Out :=
  .next (
    let t := s.tg g.val
    let step := max 1 (s.fld (banked R.TCH_GRP_OPT g.val) 8 8)
    if !s.scans g.val || t.follow < step then s
    else
      let s := s.modTg g.val (fun t => { t with follow := 0 })
      if t.anyPressed || t.els.any (fun x => x.acq.isSome) then s
      else s.modTg g.val (fun t => { t with els := t.els.map (fun x =>
        if x.kind != 0 && !x.faulty && -(t.neg : Int) < x.delta && x.delta < (t.th : Int) then
          { x with base := if x.base < x.raw then x.base + 1 else if x.raw < x.base then x.base - 1 else x.base }
        else x) }))

/-- An electrode begins an acquisition (R510). -/
def TouchEl.acquire (x : TouchEl) (atEnable : Bool) : TouchEl := { x with acq := some [], atEnable := atEnable, negRun := 0 }

/-- TOUCH_NEG_REACQ (R512). -/
def execTouchNegReacq (g : Fin 8) (e : Fin 12) (s : State) : Out :=
  .next (
    if s.scans g.val && 8 ≤ ((s.tg g.val).el e.val).negRun then
      (s.setFlag (banked R.TCH_SLG g.val) 4 true).modTg g.val (fun t => t.modEl e.val (fun x => x.acquire false))
    else s)

/-- Factory reference of electrode `e` of group `g` (R513). -/
def State.touchRef (s : State) (g e : Nat) : Nat := let k := 12 * g + e; s.fld (R.TCH_REF (k / 2)) (16 * (k % 2)) 16

/-- An electrode's acquisition ends: baseline, SUSPECT and BASELINE report (R510, R513). -/
def State.endAcquire (s : State) (g e : Nat) : State :=
  let t := s.tg g
  let x := t.el e
  match x.acq with
  | some l =>
    if l.length < 16 then s
    else
      let base := (l.foldl (· + ·) 0 + 8) / 16
      let ref := s.touchRef g e
      let suspect := ref != 0 && ref + t.th < base && (x.atEnable || x.suspect)
      let s := s.modTg g (fun t => t.modEl e (fun x =>
        { x with acq := none, atEnable := false, base := base, suspect := suspect, delta := (x.raw : Int) - base }))
      s.report g e 4 (if suspect then 2 else 0) base ((x.raw : Int) - base)
  | none => s

/-- Mask of the electrodes flagged SUSPECT. -/
def TouchGroup.suspects (t : TouchGroup) : Nat := maskOf ((List.range 12).filter (fun e => (t.el e).suspect))

/-- TOUCH_BASELINE_DONE (R510): the acquisitions of a group that have 16 counts end; a TCH_ENABLE completes (R136). -/
def execTouchBaselineDone (g : Fin 8) (s : State) : Out :=
  .next (
    if !s.scans g.val then s
    else
      let s := foldN 12 (fun s e => s.endAcquire g.val e) s
      let s := if s.pair.role == .active then s.ulxSend (.event (.baseline g.val ((s.tg g.val).els.map TouchEl.base))) else s
      let t := s.tg g.val
      match t.enabling with
      | some (n, seq) =>
        if 16 ≤ t.scans && t.els.all (fun x => x.acq.isNone || !x.atEnable) then
          (s.modTg g.val (fun t => { t with enabling := none })).complete n seq S_DONE t.suspects
        else s
      | none => s)

/-- TOUCH_STUCK (R514): a control has been pressed for STUCK_S; a release run complete in the same scan wins (R522). -/
def execTouchStuck (g : Fin 8) (c : Fin 12) (s : State) : Out :=
  .next (
    let t := s.tg g.val
    let x := t.ctl c.val
    if !s.scans g.val || !t.controls.contains c.val || !x.pressed || t.debounce ≤ x.relRun then s
    else
      let s := s.releaseCtl g.val c.val 1 true
      let s := s.modTg g.val (fun t => (t.members c.val).foldl (fun t e => t.modEl e (fun x => x.acquire false)) t)
      (s.setFlag (banked R.TCH_SLG g.val) 0 true).slagErr 21 g.val 0x13)

/-- TOUCH_ELECTRODE_FAULT (R515): 8 scans below OPEN_MIN, or at 0xFFFF. -/
def execTouchElectrodeFault (g : Fin 8) (e : Fin 12) (s : State) : Out :=
  .next (
    let t := s.tg g.val
    let x := t.el e.val
    if !s.scans g.val || x.faulty || (x.openRun < 8 && x.shortRun < 8) then s
    else
      let isShort := 8 ≤ x.shortRun
      let c := t.head e.val
      let was := (t.ctl c).pressed
      let s := s.modTg g.val (fun t => t.modEl e.val (fun x =>
        { x with isOpen := !isShort, short := isShort, acq := none, negRun := 0 }))
      let s := (s.setFlag (banked R.TCH_SLG g.val) (if isShort then 2 else 1) true).slagErr 21 g.val 0x13
      if was then s.releaseCtl g.val c 0x10 false
      else
        let (p, s) := s.reportPos g.val c
        s.report g.val c 5 0 p ((s.tg g.val).delta c))

/-- TOUCH_RATE_STEP (R517): the idle time of the present rate has passed with no electrode at TOUCH_TH. -/
def execTouchRateStep (s : State) : Out :=
  .next (
    let r := s.fld R.TCH_GSTAT 0 3
    let quiet := (List.range s.nOut).all (fun g => !(s.tg g).enabled || (s.tg g).els.all (fun x =>
      x.kind == 0 || x.delta < ((s.tg g).th : Int)))
    if 4 ≤ r || s.fld R.TCH_RATE (8 * r) 8 = 0 || s.power.st = 3 || !quiet then s
    else s.setFld R.TCH_GSTAT 0 3 (r + 1))

/-! ## Opcodes -/

/-- The first ROLE byte that breaks R135 or R505. -/
def roleBad (b : List Byte) : Option Nat :=
  let r := fun e => u8 b (4 + e)
  let sharesNum := fun e k => 2 ≤ r e % 4 && 2 ≤ r k % 4 && r e / 16 == r k / 16
  let bad := fun e =>
    r e / 4 % 4 != 0 || (r e % 4 < 2 && r e / 16 != 0) ||
    (List.range e).any (fun k => sharesNum e k && r e % 4 != r k % 4) ||
    (2 ≤ r e % 4 && ((List.range 12).filter (fun k => sharesNum e k && r k % 4 == r e % 4)).length < r e % 4)
  firstIdx 12 bad

/-- TCH_GROUP (R135, R505). -/
def opTchGroup : OpDef where
  code := 0x0700
  len := fixedLen 32
  nature := .trans
  who := .zero
  checks _ p _ m :=
    let b := m.payload
    let g := u8 b 0
    chkOut p g 0 ++ [⟨10, p.nSlices ≤ u8 b 1, 1⟩, ⟨7, p.nOut ≤ u8 b 2 && u8 b 2 < 8, 2⟩, ⟨10, 7 < u8 b 2 && u8 b 2 != 0xFF, 2⟩,
      resv b 3 1, ⟨10, (roleBad b).isSome, 4 + (roleBad b).getD 0⟩, ⟨10, u16 b 0x10 < u16 b 0x12, 0x12⟩, ⟨10, 600 < u16 b 0x16, 0x16⟩,
      ⟨10, u8 b 0x18 = 0 || 8 < u8 b 0x18, 0x18⟩, resv b 0x19 7, ⟨12, (p.tg g).enabled, 0⟩]
  issue s n e :=
    let b := e.body.payload
    (s.modTg (u8 b 0) (fun t => { t with
      configured := true
      reports := if t.slice = u8 b 1 then t.reports else none
      fifo := if t.slice = u8 b 1 then t.fifo else []
      slice := u8 b 1
      haptic := if u8 b 2 = 0xFF then none else some (u8 b 2)
      th := u16 b 0x10, rel := u16 b 0x12, neg := u16 b 0x14
      stuckS := if u16 b 0x16 = 0 then 30 else u16 b 0x16
      debounce := u8 b 0x18
      els := (List.range 12).map (fun k => { TouchEl.reset with role := u8 b (4 + k) })
      ctls := List.replicate 12 TouchCtl.reset })).complete n e.seq S_DONE 0

/-- Slice `n` is the one a group is assigned to. -/
def State.ownsGroup (s : State) (n g : Nat) : Bool := (s.tg g).configured && (s.tg g).slice == n

/-- A group ends its scanning: a pressed control is released without flag or binding (R522). -/
def State.disableGroup (s : State) (g : Nat) : State :=
  let s := (s.tg g).controls.foldl (fun s c => if ((s.tg g).ctl c).pressed then s.releaseCtl g c 0 false else s) s
  let s := match (s.tg g).enabling with
    | some (n, seq) => s.complete n seq S_DONE (s.tg g).suspects
    | none => s
  s.modTg g (fun t => { t with
    enabled := false, enabling := none, els := t.els.map (fun x => { x with acq := none }), ctls := List.replicate 12 TouchCtl.reset })

/-- TCH_ENABLE (R136, R510). -/
def opTchEnable : OpDef where
  code := 0x0701
  len := fixedLen 4
  slot := true
  nature := .trans
  checks _ p n m :=
    let b := m.payload
    chkOut p (u8 b 0) 0 ++ [⟨8, n != 0 && !p.ownsGroup n (u8 b 0), 0⟩, ⟨10, 1 < u8 b 1, 1⟩, resv b 2 2]
  issue s n e :=
    let b := e.body.payload
    let g := u8 b 0
    if u8 b 1 = 0 then (s.disableGroup g).completeOpen n e.seq S_DONE
    else if (s.tg g).enabled && (s.tg g).enabling.isNone then s.complete n e.seq S_DONE (s.tg g).suspects
    else
      s.modTg g (fun t => { t with
        enabled := true, enabling := some (n, e.seq), scans := 0, follow := 0
        els := t.els.map (fun x => if x.kind = 0 then x else
          { x.acquire true with suspect := false, isOpen := false, short := false, openRun := 0, shortRun := 0 })
        ctls := List.replicate 12 TouchCtl.reset })
  project s _ e := s.modTg (u8 e.body.payload 0) (fun t => { t with enabled := u8 e.body.payload 1 = 1 })
  restart s n e :=
    if u8 e.body.payload 1 = 1 then
      s.modTg (u8 e.body.payload 0) (fun t => { t with enabling := some (n, e.seq), scans := 0, els := t.els.map (fun x => if x.kind = 0 then x else x.acquire true) })
    else s

/-- TCH_REPORTS (R137). -/
def opTchReports : OpDef where
  code := 0x0702
  len := fixedLen 16
  nature := .trans
  checks s p n m :=
    let b := m.payload
    let eth := match (s.slice n).binding with
      | .eth _ => true
      | _ => false
    chkOut p (u8 b 0) 0 ++ [⟨8, !p.ownsGroup n (u8 b 0), 0⟩, resv b 1 3,
      ⟨10, !isPow2 (u32 b 4) || u32 b 4 < 16 || 4096 < u32 b 4, 4⟩, ⟨10, eth && u64 b 8 != 0, 8⟩]
  issue s n e :=
    let b := e.body.payload
    (s.modTg (u8 b 0) (fun t => { t with reports := some (n, u32 b 4, u64 b 8) })).complete n e.seq S_DONE 0

/-- HAP_BIND (R140). -/
def opHapBind : OpDef where
  code := 0x0705
  len := fixedLen 4
  nature := .trans
  checks _ p n m :=
    let b := m.payload
    chkOut p (u8 b 0) 0 ++ [⟨8, !p.ownsGroup n (u8 b 0), 0⟩, ⟨10, 11 < u8 b 1, 1⟩, ⟨10, 63 < u8 b 2 && u8 b 2 != 0xFF, 2⟩,
      ⟨10, 3 < u8 b 3, 3⟩]
  issue s n e :=
    let b := e.body.payload
    let l := (s.tg (u8 b 0)).binds.filter (fun x => x.el != u8 b 1)
    (s.modTg (u8 b 0) (fun t => { t with binds := if u8 b 2 = 0xFF then l else l ++ [⟨u8 b 1, u8 b 2, u8 b 3⟩] })).complete n e.seq S_DONE 0

/-- Touch opcodes. -/
def touchOps : List OpDef := [opTchGroup, opTchEnable, opTchReports, opHapBind]

end Sys2Proof.Machine
end

