-- ==== Sys2Proof/Machine/Reset.lean ====
section
/-! DEFINITION. What resets and the deeper Bellows states clear and keep (R633, R648, R662, R667, R673, R674). -/
namespace Sys2Proof.Machine

/-- A RESET entry with its cause code (R633). -/
def State.resetEntry (s : State) (code unit : Nat) : State :=
  { s.slagErr 24 unit code with boot := { s.boot with lastReset := code } }

/-! ## Power-on reset and RESET_N -/

/-- Everything at its reset value, the Slag log and the SLG registers kept unless `log` is false (R633, R648). The queue of
commands, what has been sent, and the fused part are not part of what a reset touches. -/
def State.clearAll (s : State) (log : Bool) : State :=
  { State.reset with
    pending := s.pending
    time := if log then s.time else 0
    fresh := s.fresh
    out := s.out
    fuses := s.fuses
    regs := if log then RegFile.put [] R.HRT_AVS (BitVec.ofNat 32 (putBits ((RegFile.get [] R.HRT_AVS).toNat) 20 1 (s.fld R.HRT_AVS 20 1))) else []
    slag := if log then s.slag else Slag.reset
    boot := { Boot.reset with
      mainEn := s.boot.mainEn, mainPg := s.boot.mainPg, resetLow := s.boot.resetLow, warmLow := s.boot.warmLow
      lastReset := if log then s.boot.lastReset else 0, env := s.boot.env
      clockBad := s.boot.clockBad, supplyBad := s.boot.supplyBad, thermalBad := s.boot.thermalBad
      avsMv := if log then s.boot.avsMv else 800 } }

/-- RESET_N low, or MAIN_PG lost: everything but the Slag log is reset, and hardware holds FAULT_N low (R634, R648). -/
def State.holdReset (s : State) : State :=
  let s := s.clearAll true
  { s with slag := { s.slag with hw := true, held := [] } }

/-! ## The main domain -/

/-- A register page outside the main domain: BLW, RST, SLG and CFG, HRD, TCH, FUS and HRT (R662, R673). -/
def keptPage (key : Nat) : Bool :=
  let off := key % bankStride
  (0x101000 ≤ off && off < 0x105000) || (0x130000 ≤ off && off < 0x140000) || (0x180000 ≤ off && off < 0x190000) || 0x1E0000 ≤ off

/-- An output after a loss of the main domain: disabled, its link configuration, selected set and granule map kept. -/
def OutSt.parked (o : OutSt) : OutSt := { OutSt.reset with linkCfg := o.linkCfg, set := o.set, gmap := o.gmap }

/-- A Hardy region set after a loss of the Anvil: empty planes and no enabled region; counts and latches are kept (R673). -/
def Hardy.parked (h : Hardy) : Hardy := { Hardy.reset with granules := h.granules, live1 := h.live1, st := h.st }

/-- The players whose chimes Hearth plays on the bypass. -/
def Player.safe (p : Player) : Player :=
  let keep := fun (c : Option Chime) => match c with
    | some c => if c.safety then some c else none
    | none => none
  ⟨keep p.cur, keep p.next⟩

/-- BANK and EMBER: the main domain, the Anvil and the PHYs are powered off (R662, R667 step 6, R675). The journal, bindings,
surfaces and quotas, the touch configuration, the Slag log, the granule maps and Hardy's counts and latches are kept
(R673). -/
def State.mainOff (s : State) : State :=
  let frames := (List.range 8).map s.frameNo
  let geom := fun (k : Nat) => k == R.ANV_STAT || k == R.ANV_CHAN_FAIL ||
    (List.range 8).any (fun n => k == R.SCN_OUT_GEOM n || k == R.SCN_OUT_ALLOC n)
  { s with
    regs := s.regs.filter (fun e => keptPage e.1 || geom e.1)
    power := { s.power with savedFrames := frames }
    slices := s.slices.map (fun x => { x with sets := [], inHand := .none, fetchRetry := false })
    cfg := { s.cfg with sealed := false, opened := false }
    ports := s.ports.map (fun q => (q.setCause .linkDown true).cfgReset)
    net := Net.reset
    locks := List.replicate 64 Lock.free
    chans := List.replicate 32 Channel.empty
    pair := Pair.reset
    dram := { Dram.reset with
      temp := s.dram.temp, storedTemp := s.dram.storedTemp, drift := s.dram.drift, dly := s.dram.dly, stored := s.dram.stored
      map := s.dram.map }
    disp := { Display.reset with
      outs := s.disp.outs.map OutSt.parked, owner := s.disp.owner, hardy := s.disp.hardy.map Hardy.parked, limp := s.disp.limp }
    cru := Cluster.reset
    haps := List.replicate 8 Hap.reset
    aud := { Audio.reset with
      players := s.aud.players.map Player.safe, chimeNo := s.aud.chimeNo, faultSeen := s.aud.faultSeen, hwSeen := s.aud.hwSeen }
    boot := { s.boot with rstPend := 0, rstBlk := 0, mainEn := false, mainPg := false } }

/-- ASH: Hearth and Hearth RAM are lost too; the always-on timer keeps the wake setup and what BLW_WAKE and BLW_RES show
(R667 step 8, R674). -/
def State.hearthOff (s : State) : State :=
  { s.clearAll true with power := { s.power with heldWake := s.power.heldWake }, slag := Slag.reset }

/-- Every covered field is rewritten from Knaby's shadow (R673). -/
def State.rewriteAll (s : State) : State := (List.range 35).foldl (fun s b => s.rewriteBlock b) s

end Sys2Proof.Machine
end

