-- ==== Sys2Proof/Machine/CheckUnits.lean ====
section
/-! DEFINITION. The eight general check units (R598-R606, R609). -/
namespace Sys2Proof.Machine

/-- The configuration of a unit as R599 uses it. -/
structure CrcCfg where
  w : Nat
  refin : Bool
  refout : Bool
  inv : Bool
  poly : Nat
  deriving DecidableEq, Repr

/-- One byte into a register of width `w` (R599). -/
def CrcCfg.byte (c : CrcCfg) (r b : Nat) : Nat :=
  crcByte c.w c.poly r (if c.refin then reflect 8 b else b)

/-- A byte stream into the register (R599). -/
def CrcCfg.feed (c : CrcCfg) (r : Nat) (bs : List Byte) : Nat := bs.foldl (fun r b => c.byte r b.toNat) r

/-- The result of the register (R599). -/
def CrcCfg.result (c : CrcCfg) (r : Nat) : Nat :=
  let x := if c.refout then reflect c.w r else r
  if c.inv then x ^^^ (2 ^ c.w - 1) else x

/-- The configuration registers of unit `k`. -/
def State.crcCfg (s : State) (k : Nat) : CrcCfg :=
  let v := s.reg (R.CRC_U_CFG k)
  ⟨bits v 0 5 + 1, bit v 5, bit v 6, bit v 7, s.reg (R.CRC_U_POLY k)⟩

/-- FOLD of CFG; 3 is taken as 0 when written. -/
def State.crcFoldMode (s : State) (k : Nat) : Nat := s.fld (R.CRC_U_CFG k) 8 2
/-- Unit enabled. -/
def State.crcEn (s : State) (k : Nat) : Bool := s.flag (R.CRC_U_CTRL k) 0
/-- A CRC_RUN is in progress. -/
def State.crcBusy (s : State) (k : Nat) : Bool := s.flag (R.CRC_U_CTRL k) 3
/-- Unit marked failed (R606). -/
def State.crcFailed (s : State) (k : Nat) : Bool := s.flag R.CRC_STAT k
/-- Owner master ID. -/
def State.crcOwner (s : State) (k : Nat) : Nat := s.fld (R.CRC_U_OWNER k) 0 8

/-- The fold (R600): mode 1 feeds `addr`, mode 2 feeds SEQ and increments it. -/
def State.crcFold (s : State) (k addr : Nat) : State :=
  let c := s.crcCfg k
  let r := s.reg (R.CRC_U_RUN k)
  match s.crcFoldMode k with
  | 1 => s.setReg (R.CRC_U_RUN k) (c.feed r (leBytes 4 addr))
  | 2 =>
    let q := s.reg (R.CRC_U_SEQ k)
    (s.setReg (R.CRC_U_RUN k) (c.feed r (leBytes 4 q))).setReg (R.CRC_U_SEQ k) (q + 1)
  | _ => s

/-- r takes INIT (R599). -/
def State.crcInit (s : State) (k : Nat) : State :=
  s.setReg (R.CRC_U_RUN k) (s.reg (R.CRC_U_INIT k) % 2 ^ (s.crcCfg k).w)

/-- START (R601). -/
def State.crcStart (s : State) (k : Nat) : State := (s.crcInit k).crcFold k (s.reg (R.CRC_U_FOLD k))

/-- Bytes fed into the unit (R601). -/
def State.crcFeed (s : State) (k : Nat) (bs : List Byte) : State :=
  s.setReg (R.CRC_U_RUN k) ((s.crcCfg k).feed (s.reg (R.CRC_U_RUN k)) bs)

/-- RESULT as the unit now shows it (R599). -/
def State.crcResult (s : State) (k : Nat) : Nat := (s.crcCfg k).result (s.reg (R.CRC_U_RUN k))

/-- One CRC_RUN over the bytes of the surface range (R602): the state after it and VALUE_LO. -/
def State.crcRunSurface (s : State) (k offset : Nat) (cont : Bool) (bs : List Byte) : State × Nat :=
  let s := if cont then s else s.crcInit k
  let s := (s.crcFold k offset).crcFeed k bs
  (s, s.crcResult k)

/-- Whether master `m` drives unit `k` through registers (R601): the owner. -/
def State.crcDrives (s : State) (k m : Nat) : Bool := s.crcOwner k == m

/-- Whether master `m` may write the configuration of unit `k`: the owner, or slice 0 for a unit of slice 1 to 15, which
has no register path of its own (R601). -/
def State.crcConfigures (s : State) (k m : Nat) : Bool := s.crcOwner k == m || (m == 16 && 17 ≤ s.crcOwner k)

/-- A write ignored under the owner rule (R601). -/
def State.crcForeign (s : State) (k : Nat) : State := s.incSat (R.CRC_U_STAT k) 8 8

/-- A register write that meets a CRC_RUN in progress (R603). -/
def State.crcBusyRej (s : State) (k : Nat) : State := s.setFlag (R.CRC_U_STAT k) 1 true

/-- A write to CRC_Uk_CTRL by master `m`: EN is taken, then START, then FOLD (R601, R603). -/
def State.crcCtrlWrite (s : State) (k m v : Nat) : State :=
  let drives := s.crcDrives k m
  if !(if v &&& 6 = 0 then s.crcConfigures k m else drives) then s.crcForeign k
  else if s.crcBusy k then s.crcBusyRej k
  else
    let s := s.setFlag (R.CRC_U_CTRL k) 0 (bit v 0)
    let s := if bit v 1 then s.crcStart k else s
    if bit v 2 then s.crcFold k (s.reg (R.CRC_U_FOLD k)) else s

/-- The bytes that byte enables select, in ascending address order. -/
def selBytes (be v : Nat) : List Byte :=
  ((List.range 4).filter (fun i => be.testBit i)).map (fun i => BitVec.ofNat 8 (bits v (8 * i) 8))

/-- A write to CRC_Uk_DATA by master `m` (R601, R603). -/
def State.crcDataWrite (s : State) (k m be v : Nat) : State :=
  if !s.crcDrives k m then s.crcForeign k
  else if s.crcBusy k then s.crcBusyRej k
  else if !s.crcEn k || s.crcFailed k then s.setFlag (R.CRC_U_STAT k) 0 true
  else s.crcFeed k (selBytes be v)

/-- CRC_Uk_CTRL written with START set: the written value with bit 1 at 1 (R601). -/
def execCrcStart (k : Fin 8) (a : Access) (s : State) : Out :=
  let off := R.CRC_U_CTRL k.val
  .next ((s.gateWrite a off false).run (fun m =>
    let v := a.data.toNat ||| 2
    (s.rsvCheck m off v 0xFFFFFFF0).crcCtrlWrite k.val m v))

/-- CRC_Uk_CTRL written with FOLD set: the written value with bit 2 at 1 (R600). -/
def execCrcFold (k : Fin 8) (a : Access) (s : State) : Out :=
  let off := R.CRC_U_CTRL k.val
  .next ((s.gateWrite a off false).run (fun m =>
    let v := a.data.toNat ||| 4
    (s.rsvCheck m off v 0xFFFFFFF0).crcCtrlWrite k.val m v))

/-- CRC_Uk_DATA written (R601). -/
def execCrcData (k : Fin 8) (a : Access) (s : State) : Out :=
  .next ((s.gateWrite a (R.CRC_U_DATA k.val) true).run (fun m => s.crcDataWrite k.val m a.be.toNat a.data.toNat))

/-- The stream "123456789" of R599. -/
def checkBytes : List Byte := [0x31, 0x32, 0x33, 0x34, 0x35, 0x36, 0x37, 0x38, 0x39]

end Sys2Proof.Machine
end

