-- ==== Sys2Proof/Machine/View.lean ====
section
/-! DEFINITION. What a read of a system-page register returns, without side effects (R9, R14, R610-R614): a register whose
content lives elsewhere in the state is formed from it. -/
namespace Sys2Proof.Machine

/-- The index of `off` in an array of `n` registers. -/
def regIdx (off base stride n : Nat) : Option Nat :=
  if base ≤ off && (off - base) % stride == 0 && (off - base) / stride < n then some ((off - base) / stride) else none

/-- Four bytes of a list as a word. -/
def bytes4 (l : List Nat) : Nat := l.getD 0 0 + 2 ^ 8 * l.getD 1 0 + 2 ^ 16 * l.getD 2 0 + 2 ^ 24 * l.getD 3 0

/-- The key of the stored register behind an offset: TCH_GSEL and HAP_SEL select a bank. -/
def State.keyOf (s : State) (off : Nat) : Nat :=
  if 0x180010 ≤ off && off < 0x180200 then banked off (s.fld R.TCH_GSEL 0 3)
  else if 0x190010 ≤ off && off < 0x190028 then banked off (s.fld R.HAP_SEL 0 3)
  else off

/-- GLB, BLW and RST pages. -/
def State.viewHost (s : State) (off : Nat) : Nat :=
  let p := s.power
  let pci := fun n =>
    let q := s.port n
    if n = 1 && s.boot.bond then 2 ^ 8
    else b2n q.linkUp + 2 * q.width + 2 ^ 5 * q.speed + 2 ^ 8 * b2n s.boot.bond + 2 ^ 9 * b2n q.bme +
      2 ^ 10 * b2n q.pasidEn + 2 ^ 11 * b2n q.holds
  if off = R.GLB_SNAP_TRIG then s.reg R.GLB_SNAP_SEQ
  else if off = R.GLB_PCI_STAT 0 then pci 0
  else if off = R.GLB_PCI_STAT 1 then pci 1
  else if off = R.GLB_PCI_ERR 0 then (s.port 0).fetchErr + 2 ^ 16 * (s.port 0).cplErr
  else if off = R.GLB_PCI_ERR 1 then (if s.boot.bond then 0 else (s.port 1).fetchErr + 2 ^ 16 * (s.port 1).cplErr)
  else if off = R.BLW_STAT then p.st + 2 ^ 3 * b2n p.entering + 2 ^ 4 * b2n p.restoring + 2 ^ 8 * p.target
  else if off = R.BLW_SRC then p.sources
  else if off = R.BLW_ALARM_LO then p.alarm % 2 ^ 32
  else if off = R.BLW_ALARM_HI then p.alarm / 2 ^ 32
  else if off = R.BLW_WAKE then p.cause + 2 ^ 3 * p.group + 2 ^ 8 * p.merged + 2 ^ 16 * p.count
  else if off = R.BLW_RES then p.resState + 2 ^ 3 * sat 29 p.resMs
  else if off = R.RST_BLK then s.boot.rstBlk
  else if off = R.RST_STAT then s.boot.lastReset + 2 ^ 3 * b2n s.boot.warmLow
  else s.reg off

/-- Entry `i` of the log as R630 numbers them. -/
def Slag.at (g : Slag) (i : Nat) : Nat :=
  if i = 0 then match g.first with | some e => e.word | none => 0
  else match g.log[i - 1]? with | some e => e.word | none => 0

/-- SLG and CFG pages. -/
def State.viewSlag (s : State) (off : Nat) : Nat :=
  let g := s.slag
  let c := s.cfg
  if off = R.SLG_STAT then g.log.length + 2 ^ 8 * b2n g.wrapped + 2 ^ 9 * b2n g.first.isSome + 2 ^ 16 * g.merged + 2 ^ 24 * g.total
  else if off = R.SLG_STICKY then g.sticky
  else if off = R.SLG_FMASK then g.fmask
  else if off = R.SLG_FAULT then g.cause + 2 ^ 26 * b2n (g.faultN || (s.boot.step < 5 && s.power.st != 5)) + 2 ^ 27 * b2n g.hw
  else if off = R.SLG_FIRST_LO then g.at 0 % 2 ^ 32
  else if off = R.SLG_FIRST_HI then g.at 0 / 2 ^ 32
  else if off = R.SLG_LAST_LO then g.at 1 % 2 ^ 32
  else if off = R.SLG_LAST_HI then g.at 1 / 2 ^ 32
  else if off = R.SLG_IDX then g.idx
  else if off = R.SLG_ENT_LO then g.at g.idx % 2 ^ 32
  else if off = R.SLG_ENT_HI then g.at g.idx / 2 ^ 32
  else if off = R.SLG_RESETS then g.warm + 2 ^ 8 * g.knaby + 2 ^ 16 * g.hearth
  else if off = R.CFG_STAT then b2n c.sealed + 2 * b2n c.opened + 4 * b2n c.mismatch + 8 * b2n c.openTo + 16 * b2n c.restored +
    32 * b2n c.refErr + 2 ^ 8 * c.block + 2 ^ 16 * c.passes
  else if off = R.CFG_RUN then c.run.toNat
  else if off = R.CFG_REF then (if c.refs.all (· == 0) then 0 else (deviceCrc c.refs).toNat)
  else if off = R.CFG_MISMATCH_LO then c.mism % 2 ^ 32
  else if off = R.CFG_MISMATCH_HI then c.mism / 2 ^ 32
  else match regIdx off (R.CFG_BLK_REF 0) 4 35 with
    | some k => (c.refs.getD k 0).toNat
    | none => s.reg off

/-- STATE of SCN_OUTn_STAT. -/
def GenSt.code : GenSt → Nat
  | .off => 0
  | .panelOn => 1
  | .pll | .link => 2
  | .run => 3
  | .reprogCut | .reprogPll | .reprogLink => 4
  | .stopBl | .stopCut | .stopPanel => 5

/-- SCNn page. -/
def State.viewScn (s : State) (off : Nat) : Nat :=
  let n := off / 0x1000 % 8
  let o := s.ou n
  let en := o.gen != .off && s.drives n
  if off = R.SCN_OUT_STAT n then
    (s.reg off &&& 0x3D0) + o.gen.code + 2 ^ 3 * b2n (o.set == some 1) + 2 ^ 5 * b2n (s.vblank n) +
    2 ^ 10 * b2n (o.bl && s.drives n) + 2 ^ 11 * b2n en + 2 ^ 12 * b2n (en && bit (s.linkCfg n) 30)
  else if off = R.SCN_OUT_LINE n then s.lineNo n
  else if off = R.SCN_OUT_LNK_STAT n then
    (if o.gen != .off && !s.drives n then putBits (s.reg off) 0 3 5 else s.reg off)
  else if off = R.SCN_OUT_T_STAT n 0 || off = R.SCN_OUT_T_STAT n 1 then
    let k := if off = R.SCN_OUT_T_STAT n 0 then 0 else 1
    b2n (s.timingSet n k).valid + 2 * b2n (s.setInUse n k) + 4 * b2n (o.set == some k)
  else match regIdx off (R.SCN_OUT_GMAP n 0) 4 16 with
    | some j => bytes4 ((List.range 4).map (fun i => o.gmap.getD (4 * j + i) 0xFF))
    | none => s.reg off

/-- The value of slice 0 that waits for a class S register. -/
def State.stagedReg (s : State) (off : Nat) : Option Nat :=
  let pick := fun (i : StageItem) => match i with
    | .reg o v => if o = off then some v.toNat else none
    | _ => none
  match (s.slice 0).staged.findSome? pick with
  | some v => some v
  | none => s.pendingItems.reverse.findSome? (fun p => if p.1 = 0 then pick p.2 else none)

/-- Scaler register `k`, at its offset within the scaler's 0x400 bytes (R248). -/
def State.viewScaler (s : State) (k off : Nat) : Nat :=
  let z := s.scl k
  let lo := off % 0x400
  if lo = 0 then
    (match s.scalerHolder k with
     | some l => l + 2 ^ 8 * (s.lay l).output
     | none => 0xFF) + 2 ^ 12 * b2n z.busy + 2 ^ 13 * b2n (s.scalerWaits k)
  else if lo = 8 then
    let v := s.reg (off - 4)
    let vert := bit v 0
    let bank := if vert then (if bit v 1 then z.vIn else z.vAct) else (if bit v 1 then z.hIn else z.hAct)
    unsgn 32 ((CoefBank.taps bank vert (bits v 2 6)).getD (bits v 8 3) 0)
  else s.reg off

/-- CMPn page (R227, R247, R248). -/
def State.viewCmp (s : State) (off : Nat) : Nat :=
  let n := off / 0x1000 % 8
  let c := (s.ou n).colour
  if 0x800 ≤ off % 0x1000 then s.viewScaler (2 * n + off / 0x400 % 2) off
  else if off = R.CMP_OUT_BG n || off = R.CMP_OUT_CCTRL n then (s.stagedReg off).getD (s.reg off)
  else if off = R.CMP_OUT_LUT_DATA n then
    let i := s.reg (R.CMP_OUT_LUT_IDX n)
    Lut.entry (if bit i 31 then c.lIn else c.lAct) (bits i 0 10)
  else if off = R.CMP_OUT_CSTAT n then
    b2n c.busy + 2 * b2n (s.itemWaits (1, n, 0) || s.itemWaits (1, n, 1) || s.itemWaits (4, R.CMP_OUT_CCTRL n, 0))
  else match regIdx off (R.CMP_OUT_MAT n 0) 4 12 with
    | some k => (if s.itemWaits (1, n, 0) then c.mIn else c.mAct).getD k 0
    | none => s.reg off

/-- A set of a slice that holds a change of layer `k`. -/
def State.layerGroup (s : State) (k : Nat) : Option Nat :=
  s.slices.findSome? (fun x => (x.sets.find? (fun z => z.items.any (fun i => i.key == (0, k, 0)))).map (·.group))

/-- The layer table and the common registers of the compositor (R226, R227). -/
def State.viewPool (s : State) (off : Nat) : Nat :=
  if off = R.CMP_FETCH_BUDGET then s.fetchBudget
  else if off < 0x128400 || 0x128C00 ≤ off then s.reg off
  else
    let k := (off - 0x128400) / 0x20
    let l := s.lay k
    let c := l.com
    let lo := off % 0x20
    if lo = 0 then
      match l.slice with
      | some n => n + 2 ^ 8 * l.output + 2 ^ 16 * l.z + 2 ^ 24 * l.scaler.getD 0xFF
      | none => 0xFF0000FF
    else if l.slice.isNone || !c.on then 0
    else if lo = 4 then
      c.ctrl + 2 ^ 8 * (match s.surf (l.slice.getD 0) c.surface with | some u => u.format | none => 0) + 2 ^ 24 * c.planeAlpha
    else if lo = 8 then c.srcX + 2 ^ 16 * c.srcY
    else if lo = 0xC then c.srcW + 2 ^ 16 * c.srcH
    else if lo = 0x10 then unsgn 16 c.dstX + 2 ^ 16 * unsgn 16 c.dstY
    else if lo = 0x14 then c.dstW + 2 ^ 16 * c.dstH
    else if lo = 0x18 then c.surface
    else
      let pend := s.pendingItems.any (fun p => p.2.key == (0, k, 0))
      match s.layerGroup k with
      | some g => 1 + 2 * b2n pend + 2 ^ 16 * g
      | none => 2 * b2n pend

/-- HRD page (R282-R285). -/
def State.viewHrd (s : State) (off : Nat) : Nat :=
  let mask := fun n f => maskOf ((List.range 16).filter (fun r => f (s.hv n r)))
  if off = R.HRD_STAT then
    let l := s.disp.limp
    let v := s.reg off
    maskOf ((List.range 8).filter (fun n => (s.hd n).st.any (·.latched))) + 2 ^ 8 * b2n l.shown + 2 ^ 9 * b2n l.forced +
    2 ^ 10 * bits v 10 2 + 2 ^ 12 * b2n (l.shown && bit v 12) + 2 ^ 13 * bits v 13 2
  else if off < 0x130100 then s.reg off
  else if off < 0x130200 then
    let n := (off - 0x130100) / 0x20
    let d := s.hd n
    if off = R.HRD_OUT_STAT n then
      (s.reg off &&& 0xFF060000) + maskOf (enabledRegions d.regs) + 2 ^ 16 * b2n d.susp
    else if off = R.HRD_OUT_LATCH n then
      mask n (·.latched) + 2 ^ 16 * mask n (fun v => match v.recent with | (_, b) :: _ => b | [] => false)
    else s.reg off
  else if off < 0x130800 || 0x131000 ≤ off then s.reg off
  else
    let n := (off - 0x130800) / 0x100
    let r := (off - 0x130800) / 0x10 % 16
    let g := (s.hd n).regs.getD r HRegion.reset
    let v := s.hv n r
    let lo := off % 0x10
    if lo = 0 then g.ctrl + 2 ^ 8 * g.threshold + 2 ^ 16 * v.count + 2 ^ 24 * b2n v.latched + 2 ^ 25 * b2n v.isMatch +
      2 ^ 26 * b2n v.missing + 2 ^ 27 * b2n v.expErr
    else if lo = 4 then g.x + 2 ^ 16 * g.y
    else if lo = 8 then g.w + 2 ^ 16 * g.h
    else v.meas.toNat

/-- ANV and DRC pages. -/
def State.viewMem (s : State) (off : Nat) : Nat :=
  if off = R.ANV_ID then (2 ^ s.nDies - 1) + 2 ^ 8 * (64 * s.nDies) + 2 ^ 16 * 8
  else if off = R.ANV_STAT then
    putBits (s.reg off) 5 1 (b2n (s.flag R.ANV_SCRUB_CFG 31 && s.power.st < 2 && s.fld off 0 3 != 0))
  else if off = R.DRC_ID then
    s.nDrc + 2 ^ 3 * s.fld R.DRC_CFG 13 2 + 2 ^ 16 * s.usableMiB
  else if off = R.DRC_CAP then s.creditsUse + 2 ^ 16 * s.creditsRaw
  else if off = R.DRC_SHARE then s.sliceShare + 2 ^ 16 * (s.guestPool - s.nSlices * s.sliceShare)
  else if off = R.DRC_T_DLY then s.dlyValue
  else match regIdx off (R.ANV_OWN 0) 4 48 with
    | some k => bytes4 ((List.range 4).map (fun i => if 4 * k + i < 64 * s.nDies then s.owner (4 * k + i) else 0))
    | none => s.reg off

/-- ULX and AUD pages. -/
def State.viewPair (s : State) (off : Nat) : Nat :=
  if off = R.ULX_STAT then putBits (s.reg off) 5 1 (b2n (s.fld R.ULX_HOLD 0 8 != 0 && !s.boot.hearthDown))
  else if off = R.ULX_HOLD then putBits (s.reg off) 16 8 s.readyMask
  else match regIdx off (0x170100) 4 4 with
    | some p => s.chimeReg p
    | none => s.reg off

/-- TCH page (R523): the selected views read 0 while TCH_GSEL names an absent group. -/
def State.viewTch (s : State) (off : Nat) : Nat :=
  let g := s.fld R.TCH_GSEL 0 3
  let t := s.tg g
  let mask := fun f => maskOf ((List.range 12).filter (fun e => f (t.el e)))
  if off = R.TCH_ID then s.nOut + 2 ^ 8 * s.nElec
  else if off = R.TCH_GSTAT then
    s.fld off 0 3 + 2 ^ 8 * maskOf ((List.range 8).filter (fun g => (s.tg g).enabled)) +
    2 ^ 16 * maskOf ((List.range 8).filter (fun g => (s.tg g).anyPressed))
  else if off < 0x180010 then s.reg off
  else if 0x180200 ≤ off then
    let k := (off - 0x180200) / 4
    let v := s.reg off
    (if 2 * k < s.nElec then v % 2 ^ 16 else 0) + 2 ^ 16 * (if 2 * k + 1 < s.nElec then v / 2 ^ 16 else 0)
  else if s.nOut ≤ g then 0
  else if off = R.TCH_STAT then
    mask (·.suspect) + 2 ^ 16 * mask (·.faulty) + 2 ^ 28 * b2n (t.els.any (fun x => x.acq.isSome))
  else if off = R.TCH_REPSEQ then t.seq.toNat
  else if 0x180100 ≤ off then
    let e := (off - 0x180100) / 8
    let x := t.el e
    if off % 8 = 0 then x.raw + 2 ^ 16 * x.base
    else sat16 x.delta + 2 ^ 16 * b2n (t.controls.contains (t.head e) && (t.ctl (t.head e)).pressed) + 2 ^ 17 * b2n x.faulty + 2 ^ 18 * b2n x.acq.isSome
  else s.reg (banked off g)

/-- STATE of HAP_STAT. -/
def HapSt.code : HapSt → Nat
  | .off => 0
  | .idle => 1
  | .boot => 2
  | .play => 3
  | .brake => 4
  | .fault => 5

/-- HAP page (R540). -/
def State.viewHap (s : State) (off : Nat) : Nat :=
  let n := s.fld R.HAP_SEL 0 3
  let h := s.hap n
  if off = R.HAP_ID then s.nOut
  else if off < 0x190010 then s.reg off
  else if s.nOut ≤ n then 0
  else if off = R.HAP_STAT then (s.reg (banked off n) &&& 0xFF01F0) + h.st.code + 2 ^ 3 * b2n h.next.isSome
  else s.reg (banked off n)

/-- NET page (R580, R684). -/
def State.viewNet (s : State) (off : Nat) : Nat :=
  if off = R.NET_ID then s.nEth
  else match regIdx off (R.NET_VLAN 0) 4 64 with
    | some _ => putBits (s.reg off) 12 4 (bits (s.reg off) 12 4 &&& (2 ^ s.nEth - 1))
    | none => s.reg off

/-- MBX and LCK pages as master `m` reads them (R588, R589, R596, R597). -/
def State.viewMbx (s : State) (m off : Nat) : Nat :=
  if off = R.MBX_PEND then maskOf ((List.range 32).filter (fun k => (s.chan k).msgs != [] || (s.chan k).bell != 0))
  else if off = R.LCK_HELD_LO then maskOf ((List.range 32).filter (fun k => (s.lock k).holder != .none))
  else if off = R.LCK_HELD_HI then maskOf ((List.range 32).filter (fun k => (s.lock (32 + k)).holder != .none))
  else if 0x1B0100 ≤ off && off < 0x1B0900 then
    let k := (off - 0x1B0100) / 0x40
    let lo := (off - 0x1B0100) % 0x40
    let c := s.chan k
    if lo = 4 then c.msgs.length + 2 ^ 4 * b2n c.dropped + 2 ^ 5 * b2n c.aborted + 2 ^ 6 * b2n c.rxReset + 2 ^ 8 * c.foreign
    else if 0x20 ≤ lo then (s.rxValue k ((lo - 0x20) / 4) m).toNat
    else s.reg off
  else match regIdx off (0x1C0100) 4 64 with
    | some k => (s.lock k).stat m
    | none => s.reg off

/-- CRC page as master `m` reads it (R601). -/
def State.viewCrc (s : State) (m off : Nat) : Nat :=
  if off < 0x1D0100 then s.reg off
  else
    let k := (off - 0x1D0100) / 0x40
    if off = R.CRC_U_RUN k then (if s.crcDrives k m then s.reg off else 0)
    else if off = R.CRC_U_RESULT k then (if s.crcDrives k m then s.crcResult k else 0)
    else s.reg off

/-- FUS page: what Hearth has loaded from the fuses at step 3 of R656 (R682). -/
def State.viewFus (s : State) (off : Nat) : Nat :=
  let f := s.fuses
  if s.boot.step < 3 then 0
  else if off = R.FUS_ID then f.tier + 2 ^ 4 * b2n f.pair + 2 ^ 5 * b2n f.gradeE + 0xB000 + 2 ^ 16 * b2n (f.tier == 4)
  else if off = R.FUS_UNITS then
    (2 ^ s.nOut - 1) + 2 ^ 8 * s.nCores + 2 ^ 16 * (2 ^ s.nDies - 1) + 2 ^ 20 * (2 ^ s.nEth - 1) + 2 ^ 24 * (2 ^ s.nDrc - 1) +
    2 ^ 28 * b2n f.pair
  else if off = R.FUS_PCI then f.vendor + 2 ^ 16 * (0x5800 + 16 * b2n f.pair + f.tier)
  else if off = R.FUS_VFLOOR then f.vfloor
  else if off = R.FUS_TRIM then f.trim
  else if off = R.FUS_ROWS then f.rows + 2 ^ 8 * b2n f.rowsOk
  else if off = R.FUS_UID_LO then f.uid.toNat % 2 ^ 32
  else if off = R.FUS_UID_HI then f.uid.toNat / 2 ^ 32
  else match regIdx off (R.FUS_KEY 0 0) 4 12, regIdx off (R.FUS_KEY 1 0) 4 12 with
    | some w, _ => (f.key0.getD w 0).toNat
    | none, some w => (f.key1.getD w 0).toNat
    | none, none => s.reg off

/-- HRT page (R661). -/
def State.viewHrt (s : State) (off : Nat) : Nat :=
  let b := s.boot
  if off = R.HRT_STAT then b2n (1 < b.step && !b.hearthDown) + 2 * b2n b.refclkOk + 4 * b2n b.xtal
  else if off = R.HRT_BOOT then b.step + 2 ^ 4 * b2n b.sealedOnce + 2 ^ 5 * b2n b.failed + 2 ^ 6 * b2n b.slotB +
    2 ^ 7 * b2n b.fallback + 2 ^ 8 * b.reason
  else if off = R.HRT_IMG_VER then b.imgVer.toNat
  else if off = R.HRT_TIME then s.ms % 2 ^ 32
  else s.reg off

/-- The bits of a register that a read returns: WO and RSV bits read 0 (R9). -/
def RegRow.readMask (r : RegRow) : Nat :=
  (r.fields.filter (fun f => f.ty != .wo && f.ty != .rsv)).foldl (fun a f => a ||| f.mask) 0

/-- The register at a system-page offset as master `m` reads it; 0 where none is assigned or the unit is absent (R14,
R684). -/
def State.view (s : State) (m off : Nat) : Nat :=
  match findReg off with
  | none => 0
  | some h =>
    if s.absentReg off then 0 else
    let pg := off / 0x1000
    (if pg < 0x103 then s.viewHost off
     else if pg < 0x105 then s.viewSlag off
     else if pg < 0x118 then s.viewScn off
     else if pg < 0x128 then s.viewCmp off
     else if pg < 0x130 then s.viewPool off
     else if pg < 0x140 then s.viewHrd off
     else if pg < 0x160 then s.viewMem off
     else if pg < 0x180 then s.viewPair off
     else if pg < 0x190 then s.viewTch off
     else if pg < 0x1A0 then s.viewHap off
     else if pg < 0x1B0 then s.viewNet off
     else if pg < 0x1D0 then s.viewMbx m off
     else if pg < 0x1E0 then s.viewCrc m off
     else if pg < 0x1F0 then s.viewFus off
     else s.viewHrt off) &&& h.row.readMask

end Sys2Proof.Machine
end

