-- ==== Sys2Proof/Machine/Bus.lean ====
section
/-! DEFINITION. A write and a read of the system pages, field by field, and the snapshot (R9, R10, R30-R33, R610-R618). -/
namespace Sys2Proof.Machine

/-! ## Fields -/

/-- The block enable that governs the class C fields of a register (R616). -/
def State.regEnabled (s : State) (h : RegHit) : Bool :=
  match h.row.en with
  | .none => s.cfg.sealed
  | .sealed => s.cfg.sealed
  | .cfgCheck => s.flag R.CFG_CTRL 0
  | .scn => (s.ou h.i).enabled
  | .tset => s.setInUse h.i h.k
  | .scrub => s.flag R.ANV_SCRUB_CFG 31
  | .drc => s.flag R.DRC_CTRL 0
  | .ulx => s.flag R.ULX_CTRL 0
  | .aud => s.flag R.AUD_CFG 0
  | .tdm => s.flag (R.AUD_TDM_CFG h.i) 0
  | .tch => (s.tg (s.fld R.TCH_GSEL 0 3)).enabled
  | .hap => (s.hap (s.fld R.HAP_SEL 0 3)).enabled
  | .net => s.flag R.NET_CFG 0
  | .ptp => s.flag R.NET_PTP_CFG 0
  | .netPort => s.flag (R.NET_P_CFG h.i) 0
  | .crc => s.flag (R.CRC_U_CTRL h.i) 0

/-- What step 3 of R615 finds for one field: ignored, the SLG_ACC bit, or the field's new bits. -/
inductive FieldOut where
  | skip
  | flag (b : Nat)
  | take (v : Nat)
  deriving DecidableEq, Repr

/-- Judges field `f` of a register against written `v`; `old` is the stored value (R615). -/
def RegField.judge (f : RegField) (locked written en : Bool) (old v : Nat) : FieldOut :=
  let x := bits v f.lo f.w
  if f.ty = .ro then .skip
  else if f.ty = .rsv then (if x = 0 then .skip else .flag 3)
  else if (f.ty = .wl && locked) || (f.ty = .w1 && written) then .flag 1
  else if f.cls = .c && en then .flag 2
  else match f.ty with
    | .w1c => .take (bits old f.lo f.w &&& ((2 ^ f.w - 1) ^^^ x))
    | .w1s => .take (bits old f.lo f.w ||| x)
    | _ => .take (f.norm.apply x)

/-- The outcome of a write of `v` to a register: the new value and the flags, each once. -/
def RegRow.judge (r : RegRow) (locked written en : Bool) (old v : Nat) : Nat × List Nat :=
  r.fields.foldl (fun a f =>
    match f.judge locked written en old v with
    | .skip => a
    | .flag b => (a.1, insNat b a.2)
    | .take x => (putBits a.1 f.lo f.w x, a.2)) (old, [])

/-- Knaby's own covered writes enter its shadow (R621). -/
def State.noteShadow (s : State) (m key : Nat) : State :=
  if (m = 1 || m = 2) && coveredKey key then s.shadowKeys [key] else s

/-- A write to a register whose fields have no effect but their values. -/
def State.plainWrite (s : State) (h : RegHit) (m off v : Nat) : State :=
  let key := s.keyOf off
  let r := h.row.judge (s.flag R.MBX_LOCK 0) false (s.regEnabled h) (s.cfgStored key) v
  let x := if 0x1A0400 ≤ off && off < 0x1A0500 then putBits r.1 12 4 (bits r.1 12 4 &&& (2 ^ s.nEth - 1)) else r.1
  ((s.cfgStore key x).accFlags r.2 m off).noteShadow m key

/-! ## Registers with effects of their own -/

/-- RST_CTRL written: the Knaby restart and the warm reset are due 10 us later (R647, R660). -/
def State.rstCtrlWrite (s : State) (m v : Nat) : State :=
  let s := s.rsvCheck m R.RST_CTRL v 0xFFFFFFFC
  { s with boot := { s.boot with rstPend := s.boot.rstPend ||| (v % 4) } }

/-- RST_BLK written: a bit whose reset runs is ignored (R649, R659). -/
def State.rstBlkWrite (s : State) (m v : Nat) : State :=
  let s := s.rsvCheck m R.RST_BLK v 0xFFFFFF80
  { s with boot := { s.boot with rstBlk := s.boot.rstBlk ||| (v % 128) } }

/-- SLG_ACC written (R618). -/
def State.slgAccWrite (s : State) (m v : Nat) : State :=
  let old := s.reg R.SLG_ACC
  let x := old &&& (0xFFFFFFFF ^^^ (v % 32))
  let s := if old % 32 != 0 && x % 32 = 0 then (s.setReg R.SLG_ACC 0).setReg R.SLG_ACC_ADDR 0 else s.setReg R.SLG_ACC x
  s.rsvCheck m R.SLG_ACC v 0xE0

/-- SLG_ACC_WRITE. -/
def execSlgAccWrite (a : Access) (s : State) : Out :=
  .next ((s.gateWrite a R.SLG_ACC false).run (fun m => s.slgAccWrite m a.data.toNat))

/-- CFG_STAT written: its W1C bits (R626). -/
def State.cfgStatWrite (s : State) (m v : Nat) : State :=
  let c := s.cfg
  { s.rsvCheck m R.CFG_STAT v 0xC0C0 with cfg := { c with
    mismatch := c.mismatch && !bit v 2
    openTo := c.openTo && !bit v 3
    restored := c.restored && !bit v 4
    refErr := c.refErr && !bit v 5 } }

/-- A class S register of CMPn written: staged into slice 0's default set; Knaby and Hearth do not write it (R617). A word
of the matrix goes into the inactive bank. -/
def State.stagedWrite (s : State) (h : RegHit) (m off v : Nat) : State :=
  let r := h.row.judge false false false 0 v
  let s := s.accFlags r.2 m off
  if m != 16 then s else
  let n := pageOut off
  match regIdx off (R.CMP_OUT_MAT n 0) 4 12 with
  | some k => (s.colourWrite n 0 k [r.1]).modSlice 0 (fun x => x.stage 0 n (.colour n 0))
  | none => s.modSlice 0 (fun x => x.stage 0 n (.reg off (BitVec.ofNat 32 r.1)))

/-- NET_MDIO written; without GO the fields are taken (R580). -/
def State.mdioRegWrite (s : State) (v : Nat) : State :=
  if bit v 31 then s.mdioGo v (bits v 26 2) (bit v 28)
  else s.setReg R.NET_MDIO (s.reg R.NET_MDIO &&& 0x60000000 ||| (v &&& 0x1FFFFFFF))

/-- DRC_T_CTRL written; with GO the helper of OP starts (R487). -/
def State.helperCtrlWrite (s : State) (m v : Nat) : State :=
  if bit v 31 && bits v 0 3 != 0 then s.helperStart m v (bits v 0 3)
  else (s.rsvCheck m R.DRC_T_CTRL v 0x7F000080).setReg R.DRC_T_CTRL (v &&& 0x00FFFF7F)

/-- LCK_k_REQ written (R582). -/
def State.lockRegWrite (s : State) (k m v : Nat) : State :=
  let s := s.rsvCheck m (R.LCK_REQ k) v 0xFFFFFFFC
  if !s.lockMaster m then s
  else match v % 4 with
    | 0 => s.modLock k (fun l => l.cancel m)
    | 1 => s.modLock k (fun l => l.acq m)
    | 2 => s.modLock k (fun l => l.try m)
    | _ => s.lockRel k m

/-- A register of mailbox channel `k` at offset `lo` of its 0x40 bytes (R587-R590, R596). -/
def State.mbxRegWrite (s : State) (h : RegHit) (k lo m off v : Nat) : State :=
  if lo = 4 then
    (s.rsvCheck m off v 0xFFFF0080).modChan k (fun c =>
      { c with dropped := c.dropped && !bit v 4, aborted := c.aborted && !bit v 5 })
  else if lo = 0x1C then s.mbxSend k m (BitVec.ofNat 32 v)
  else if 0x10 ≤ lo && lo < 0x1C then s.mbxStage k ((lo - 0x10) / 4) m (BitVec.ofNat 32 v)
  else s.plainWrite h m off v

/-- A register of check unit `k` (R598, R601, R603). -/
def State.crcRegWrite (s : State) (h : RegHit) (k m off be v : Nat) : State :=
  if off = R.CRC_U_CTRL k then s.crcCtrlWrite k m v
  else if off = R.CRC_U_DATA k then s.crcDataWrite k m be v
  else if off = R.CRC_U_OWNER k then (if m = 16 then s.plainWrite h m off v else s.crcForeign k)
  else if !s.crcConfigures k m then s.crcForeign k
  else if s.crcBusy k && (off = R.CRC_U_RUN k || off = R.CRC_U_FOLD k) then s.crcBusyRej k
  else s.plainWrite h m off v

/-- The selected window of TCH or HAP shows an absent group or channel (R684). -/
def State.bankAbsent (s : State) (off : Nat) : Bool :=
  (0x180010 ≤ off && off < 0x180200 && s.nOut ≤ s.fld R.TCH_GSEL 0 3) ||
  (0x190010 ≤ off && off < 0x190028 && s.nOut ≤ s.fld R.HAP_SEL 0 3)

/-- Steps 3 of R615 for an assigned register of a present unit, with the effects of the write. -/
def State.regWrite (s : State) (h : RegHit) (m off be v : Nat) : State :=
  let n := off / 0x1000 % 8
  if s.bankAbsent off then s
  else if off = R.RST_CTRL then s.rstCtrlWrite m v
  else if off = R.RST_BLK then s.rstBlkWrite m v
  else if off = R.SLG_IDX then
    let s := s.rsvCheck m off v 0xFFFFFF00
    { s with slag := { s.slag with idx := v % 256 } }
  else if off = R.SLG_ACC then s.slgAccWrite m v
  else if off = R.CFG_CTRL then s.cfgCtrlWrite m v
  else if off = R.CFG_STAT then s.cfgStatWrite m v
  else if 0x110000 ≤ off && off < 0x118000 then
    if off = R.SCN_OUT_AUX_CMD n then s.auxCmdWrite n m v
    else if off = R.SCN_OUT_DSI_HDR n then s.dsiHdrWrite n m v
    else s.plainWrite h m off v
  else if 0x120000 ≤ off && off < 0x128000 then
    if h.row.fields.any (fun f => f.cls == .s) then s.stagedWrite h m off v else s.plainWrite h m off v
  else if off = R.DRC_CTRL then s.drcCtrlWrite m v
  else if off = R.DRC_T_CTRL then s.helperCtrlWrite m v
  else if off = R.DRC_T_DLY then s.dlyWrite m v
  else if off = R.NET_MDIO then s.mdioRegWrite v
  else if off = R.MBX_LOCK then s.mbxLockWrite m (BitVec.ofNat 32 v)
  else if 0x1B0100 ≤ off && off < 0x1B0900 then s.mbxRegWrite h ((off - 0x1B0100) / 0x40) ((off - 0x1B0100) % 0x40) m off v
  else if 0x1C0000 ≤ off && off < 0x1C0100 then s.lockRegWrite ((off - 0x1C0000) / 4) m v
  else if 0x1D0100 ≤ off && off < 0x1D0300 then s.crcRegWrite h ((off - 0x1D0100) / 0x40) m off be v
  else match regIdx off (R.AUD_OUT_MAP 0) 4 16 with
    | some j => (s.rsvCheck m off v 0xFFFC).audMapWrite j v
    | none => s.plainWrite h m off v

/-- A write to a BAR0 offset of the system pages (R610-R616). -/
def State.sysWrite (s : State) (a : Access) (off : Nat) : State :=
  match findReg off with
  | some h =>
    let data := 0x1D0100 ≤ off && off < 0x1D0300 && off % 0x40 == 0x20
    (s.gateWrite a off data).run (fun m => s.regWrite h m off a.be.toNat a.data.toNat)
  | none =>
    if !(s.served || a.req.isMaster) || a.be = 0 || s.absentReg off then s
    else s.accFlags [4] ((s.sysMaster a.req).getD 16) off

/-! ## The snapshot (R30-R33) -/

/-- A capture: the fields of R33 as FAB sees them, and the next capture number. -/
def State.capture (s : State) : State :=
  let num := (s.reg R.GLB_SNAP_SEQ + 1) % 2 ^ 32
  let put := fun (s : State) (i v : Nat) => s.setReg (R.GLB_SNAP i) v
  let t := if s.ptpLocked then s.net.time else 0
  let s := s.setReg R.GLB_SNAP_SEQ num
  let s := put s 0 num
  let s := put s 1 (t % 2 ^ 32)
  let s := put s 2 (t / 2 ^ 32)
  let role := match s.pair.role with | .solo => 0 | .active => 1 | .standby => 2
  let s := put s 3 (s.power.st + 2 ^ 4 * role + 2 ^ 8 * b2n s.welded + 2 ^ 9 * b2n s.ptpLocked)
  let s := foldN s.nOut (fun s n => put s (4 + n) (s.reg (R.CMP_OUT_FRAME n))) s
  let s := foldN s.nOut (fun s n => put s (12 + n)
    (s.fld (R.CMP_OUT_STAT n) 0 17 + 2 ^ 17 * b2n (s.ou n).enabled +
     2 ^ 18 * b2n ((enabledRegions (s.hd n).regs).any (fun r =>
       match (s.hv n r).recent with | (_, b) :: _ => b | [] => false)) + 2 ^ 19 * b2n (s.limpOn n))) s
  let s := foldN 16 (fun s k => put s (20 + k) (if k < s.nSlices then ((s.slice k).nextSeq - 1).toNat else 0)) s
  let s := put s 36 (maskOf ((List.range 8).filter (fun n => (s.hd n).st.any (·.latched))))
  let s := put s 37 s.slag.sticky
  let s := put s 38 (s.fld R.DRC_STAT 0 2 + 2 ^ 8 * sat 8 (s.reg R.DRC_ECC_CE))
  let s := put s 39 ((2 ^ s.nDies - 1) + 2 ^ 8 * s.fld R.ANV_STAT 0 3 + 2 ^ 16 * s.fld R.ANV_STAT 16 16)
  let s := put s 40 (s.reg R.AUD_DUCK_STAT)
  let s := put s 41 (maskOf ((List.range 8).filter (fun g => (s.tg g).anyPressed)))
  let s := put s 42 (maskOf ((List.range s.nEth).filter (fun p => s.flag (R.NET_P_STAT p) 0)))
  if s.fuses.pair then put s 43 (s.fld R.ULX_STAT 2 2 + 2 ^ 8 * s.fld R.ULX_STAT 24 8) else s

/-- A read of a system-page register by master `m` with its side effect (R614): the state after it and the value. -/
def State.sysRead (s : State) (m off : Nat) : State × Nat :=
  if off = R.GLB_SNAP_TRIG then
    let s := s.capture
    (s, s.reg R.GLB_SNAP_SEQ)
  else match regIdx off (R.MBX_CH_RX 0 3) 0x40 32 with
    | some k => (s.mbxTake k m, s.view m off)
    | none => (s, s.view m off)

/-- GLB_SNAP_TRIG read, at any width (R30, R612). Knaby and Hearth have a bank of their own, so their reads leave the
host's block alone (R32). -/
def execGlbSnapTrig (a : Access) (s : State) : Out :=
  .next (
    if a.be = 0 || !s.readable a.req R.GLB_SNAP_TRIG then s.emit (.readData 0)
    else if s.sysMaster a.req = some 16 then
      let r := s.sysRead 16 R.GLB_SNAP_TRIG
      r.1.emit (.readData (BitVec.ofNat 32 r.2))
    else s.emit (.readData (BitVec.ofNat 32 (s.reg R.GLB_SNAP_SEQ))))

end Sys2Proof.Machine
end

