-- ==== Sys2Proof/Machine/Window.lean ====
section
/-! DEFINITION. The slice window: its registers, doorbell, result slots and MSI-X entries (R44-R49, R63-R65, R153,
R170, R171). -/
namespace Sys2Proof.Machine

/-! ## Who reaches a window -/

/-- The master ID under which a requester reaches the window of slice `n`, if it does: the bound PCIe port, Knaby, Hearth
and the slice itself over the control fabric (R14, R162, R171). -/
def State.winMaster (s : State) (n : Nat) (r : Requester) : Option Nat :=
  if s.nSlices ≤ n then none else
  match (s.slice n).binding, r with
  | .pcie q _, .port p => if q = p.val then some (16 + n) else none
  | .pcie _ _, .master id => if id.val ≤ 2 || id.val = 16 + n then some id.val else none
  | _, _ => none

/-- An offset of the window that R170 assigns. -/
def winAssigned (off : Nat) : Bool :=
  off % 4 == 0 && (off ≤ 0x1C || (0x20 ≤ off && off ≤ 0x34) || (0x40 ≤ off && off ≤ 0x50) ||
  (0x800 ≤ off && off ≤ 0xC04) || (0x1000 ≤ off && off < 0x1040) || off == 0x1800)

/-- The reserved bits of a window register. -/
def winRsv (off : Nat) : Nat :=
  if off = 0x004 then 0xF0
  else if off = 0x00C then 0xFFC0
  else if off = 0x010 || off = 0x018 then 0xFFF
  else if off = 0x020 then 0xFFFFFFFE
  else if off = 0x034 then 0xFFFE00C0
  else if off = 0x044 then 0xFFFFFFF8
  else if off = 0x050 then 0xF000FE00
  else if 0x800 ≤ off && off < 0xC00 && off % 16 = 0 then 0xFC
  else if 0x1000 ≤ off && off < 0x1040 && off % 16 = 0 then 3
  else if 0x1000 ≤ off && off < 0x1040 && off % 16 = 12 then 0xFFFFFFFE
  else if off = 0x1800 then 0xFFFFFFF0
  else 0

/-- A register of class C, judged against the ring's enable (R49). -/
def winClassC (off : Nat) : Bool := 0x010 ≤ off && off ≤ 0x01C

/-- The BAR0 offset of a window register (R13). -/
def winOff (n off : Nat) : Nat := n * 0x10000 + off

/-- Steps 1 and 2 of R615 for a write to the window of slice `n`. -/
def State.winGate (s : State) (n : Nat) (a : Access) (off : Nat) : Judged :=
  if !(s.served || a.req.isMaster) || a.be = 0 then .stop s else
  match s.winMaster n a.req with
  | none => .stop (s.accFlags [4] (match a.req with | .master id => id.val | .port _ => 16 + n) (winOff n off))
  | some m =>
    if !winAssigned off then .stop (s.accFlags [4] m (winOff n off))
    else if a.be ≠ 15 then .stop (s.accFlags [0] m (winOff n off))
    else .go m

/-! ## Result slots -/

/-- Slot `k` of a slice. -/
def Slice.slot (x : Slice) (k : Nat) : Slot := x.slots.getD k Slot.empty

/-- The four slot registers (R63). -/
def Slot.reg (sl : Slot) (word : Nat) : Nat :=
  let d := sl.st == .done
  if word = 0 then (match sl.st with | .free => 0 | .pending => 1 | .done => 2) + 2 ^ 8 * sl.readCount +
    (if d then 2 ^ 16 * sl.status.toNat else 0)
  else if word = 1 then sl.seq.toNat
  else if word = 2 then (if d then sl.value.toNat % 2 ^ 32 else 0)
  else if d then sl.value.toNat / 2 ^ 32 else 0

/-- A read of slot register `word`; VALUE_LO of a DONE slot counts the read (R64). -/
def State.slotRead (s : State) (n k word : Nat) : State × Nat :=
  let sl := (s.slice n).slot k
  (if word = 2 && sl.st == .done then
     s.modSlice n (fun x => { x with slots := modAt x.slots k (fun sl => { sl with readCount := sat 8 (sl.readCount + 1) }) })
   else s, sl.reg word)

/-- A write of 1 to bit `k` of SLC_SLOT_REL: the slice after it (R65). -/
def Slice.release (x : Slice) (k : Nat) : Slice :=
  match (x.slot k).st with
  | .done => { x with slots := modAt x.slots k (fun _ => Slot.empty) }
  | .pending => { x with relPend := true }
  | .free => x

/-- The slots that a mask frees. -/
def Slice.freed (x : Slice) (mask : Nat) : Nat := ((maskList 64 mask).filter (fun k => (x.slot k).st == .done)).length

/-- Releases the slots of a mask; the number freed (R65, R91). -/
def State.slotRelease (s : State) (n mask : Nat) : State × Nat :=
  (s.modSlice n (fun x => (maskList 64 mask).foldl Slice.release x), (s.slice n).freed mask)

/-! ## Ring registers -/

/-- The counts a doorbell is judged by (R45): entries announced from SLC_SQ_HEAD. -/
def Slice.announced (x : Slice) (v : Word) : Nat := (v - x.sqHead).toNat

/-- A write of `v` to SLC_DB (R45). -/
def Slice.doorbell (x : Slice) (v : Word) : Slice :=
  if 256 < x.announced v || x.announced v < x.announced x.db then { x with dbErr := true } else { x with db := v }

/-- SLC_DB written: the count, and a wake (R45, R668). -/
def State.dbWrite (s : State) (n : Nat) (v : Word) : State := (s.modSlice n (fun x => x.doorbell v)).wake 16 0

/-- The reply ring is full (R47). -/
def Slice.rqFull (x : Slice) : Bool := x.rqTail - x.rqHead == 256

/-- The next billet waits for a window entry (R70). -/
def Slice.winWait (x : Slice) : Bool :=
  match x.inHand with
  | .window m _ => match x.entry (m.seq - 256) with | some e => e.isOpen | none => false
  | _ => false

/-- Writes half of a 64-bit base. -/
def putHalf (b : DWord) (hi : Bool) (v : Nat) : DWord := BitVec.ofNat 64 (putBits b.toNat (if hi then 32 else 0) 32 v)

/-- SLC_QSTAT (R153). -/
def QStat.word (q : QStat) : Nat :=
  (if q.busy then 1 else if q.done then 2 else 0) + 2 ^ 2 * q.outcome + 2 ^ 5 * b2n q.dropped + 2 ^ 16 * q.token.toNat

/-! ## The MSI-X entries -/

/-- The MSI-X entry `j` of slice `n`, in the bound port's table (R171). -/
def State.winMsix (s : State) (n j : Nat) : MsixEntry :=
  match (s.slice n).binding with
  | .pcie p _ => (s.port p).msix.getD (4 * n + j) MsixEntry.reset
  | _ => MsixEntry.reset

/-- A write to word `w` of MSI-X entry `j` (R171, R570). -/
def State.msixWrite (s : State) (n j w v : Nat) : State :=
  match (s.slice n).binding with
  | .pcie p _ =>
    let e := 4 * n + j
    let put := fun f => s.modPort p (fun q => { q with msix := modAt q.msix e f })
    let x := BitVec.ofNat 32 v
    if w = 0 then put (fun m => { m with addrLo := x &&& 0xFFFFFFFC })
    else if w = 1 then put (fun m => { m with addrHi := x })
    else if w = 2 then put (fun m => { m with data := x })
    else if bit v 0 then put (fun m => { m with masked := true })
    else s.msixUnmask p e
  | _ => s

/-! ## The window as a whole -/

/-- What a read of a window register shows; writes start the effects, reads have none but VALUE_LO's (R170). -/
def State.winView (s : State) (n off : Nat) : Nat :=
  let x := s.slice n
  let eth := match x.binding with | .eth _ => true | _ => false
  let en := x.ringEn && !eth
  if off = 0x000 then x.db.toNat
  else if off = 0x008 then x.qarg.toNat
  else if off = 0x00C then x.qstat.word
  else if off = 0x010 then x.sqBase.toNat % 2 ^ 32
  else if off = 0x014 then x.sqBase.toNat / 2 ^ 32
  else if off = 0x018 then x.rqBase.toNat % 2 ^ 32
  else if off = 0x01C then x.rqBase.toNat / 2 ^ 32
  else if off = 0x020 then b2n en
  else if off = 0x024 then x.sqHead.toNat
  else if off = 0x028 then x.rqTail.toNat
  else if off = 0x02C then x.rqHead.toNat
  else if off = 0x030 then x.nextSeq.toNat
  else if off = 0x034 then b2n (en && s.leads) + 2 * b2n (en && !s.leads) + 4 * b2n x.dbErr + 8 * b2n x.rqFull +
    16 * b2n x.winWait + 32 * b2n x.relPend + 2 ^ 8 * x.openCount
  else if off = 0x040 then n + 2 ^ 4 * s.boot.log2n + (match x.binding with
    | .unbound => 0
    | .pcie p id => 2 ^ 8 + 2 ^ 10 * p + 2 ^ 11 * b2n (s.port p).pasidEn + 2 ^ 12 * id.toNat
    | .eth _ => 2 ^ 9)
  else if off = 0x044 then (if n = 0 then 7 else x.perm)
  else if off = 0x048 then s.quotaMiB n % 2 ^ 16 + 2 ^ 16 * (s.useMiB n % 2 ^ 16)
  else if off = 0x04C then x.quanta.toNat
  else if off = 0x050 then 256 / s.nSlices + 2 ^ 16 * (128 / s.nSlices) + 2 ^ 24 * n
  else if 0x800 ≤ off && off < 0xC00 then (x.slot ((off - 0x800) / 16)).reg (off / 4 % 4)
  else if off = 0xC00 || off = 0xC04 then
    maskOf ((List.range 32).filter (fun k => (x.slot (k + 8 * (off - 0xC00))).st != .free))
  else if 0x1000 ≤ off && off < 0x1040 then
    let e := s.winMsix n ((off - 0x1000) / 16)
    match off / 4 % 4 with
    | 0 => e.addrLo.toNat
    | 1 => e.addrHi.toNat
    | 2 => e.data.toNat
    | _ => b2n e.masked
  else if off = 0x1800 then maskOf ((List.range 4).filter (fun j => (s.winMsix n j).pend))
  else 0

/-- The effect of a judged write to a window register other than SLC_QDB. -/
def State.winEffect (s : State) (n off v : Nat) : State :=
  let w := BitVec.ofNat 32 v
  if off = 0x000 then s.dbWrite n w
  else if off = 0x008 then s.modSlice n (fun x => { x with qarg := w })
  else if off = 0x00C then s.modSlice n (fun x =>
    { x with qstat := { x.qstat with dropped := x.qstat.dropped && !bit v 5 } })
  else if off = 0x010 then s.modSlice n (fun x => { x with sqBase := putHalf x.sqBase false (v / 4096 * 4096) })
  else if off = 0x014 then s.modSlice n (fun x => { x with sqBase := putHalf x.sqBase true v })
  else if off = 0x018 then s.modSlice n (fun x => { x with rqBase := putHalf x.rqBase false (v / 4096 * 4096) })
  else if off = 0x01C then s.modSlice n (fun x => { x with rqBase := putHalf x.rqBase true v })
  else if off = 0x020 then
    let s := s.modSlice n (fun x => { x with ringEn := bit v 0 })
    match (s.slice n).binding, bit v 0 with
    | .pcie _ _, true => s.serviceBegins
    | _, _ => s
  else if off = 0x02C then s.modSlice n (fun x => { x with rqHead := w })
  else if off = 0x034 then s.modSlice n (fun x =>
    { x with dbErr := x.dbErr && !bit v 2, relPend := x.relPend && !bit v 5 })
  else if off = 0xC00 then (s.slotRelease n v).1
  else if off = 0xC04 then (s.slotRelease n (2 ^ 32 * v)).1
  else if 0x1000 ≤ off && off < 0x1040 then s.msixWrite n ((off - 0x1000) / 16) (off / 4 % 4) v
  else s

/-- Step 3 of R615 for a window register, then its effect. -/
def State.winWrite (s : State) (n m off v : Nat) : State :=
  let en := winClassC off && (s.slice n).ringEn
  let rsv := v &&& winRsv off != 0
  let s := s.accFlags ((if en then [2] else []) ++ (if rsv then [3] else [])) m (winOff n off)
  if en then s else s.winEffect n off v

/-- A write access to the window of slice `n`, other than to SLC_QDB. -/
def State.windowWrite (s : State) (n : Nat) (a : Access) (off : Nat) : State :=
  (s.winGate n a off).run (fun m => s.winWrite n m off a.data.toNat)

/-- SLC_DB_WRITE. -/
def execSlcDbWrite (n : Fin 16) (a : Access) (s : State) : Out := .next (s.windowWrite n.val a 0x000)

/-- SLC_RQ_HEAD_WRITE. -/
def execSlcRqHeadWrite (n : Fin 16) (a : Access) (s : State) : Out := .next (s.windowWrite n.val a 0x02C)

/-- SLOT_VALUE_READ: a read of SLC_SLOTk_VALUE_LO, of any width (R64). -/
def execSlotValueRead (n : Fin 16) (k : Fin 64) (a : Access) (s : State) : Out :=
  .next (
    if a.be = 0 || !s.served || (s.winMaster n.val a.req).isNone then s.emit (.readData 0)
    else
      let r := s.slotRead n.val k.val 2
      r.1.emit (.readData (BitVec.ofNat 32 r.2)))

/-- SLOT_RELEASE_WRITE: SLC_SLOT_REL_LO or _HI (R65). -/
def execSlotReleaseWrite (n : Fin 16) (hi : Bool) (a : Access) (s : State) : Out :=
  .next (s.windowWrite n.val a (if hi then 0xC04 else 0xC00))

end Sys2Proof.Machine
end

