-- ==== Sys2Proof/Machine/Session.lean ====
section
/-! DEFINITION. Session and slice, opcode class 0x00 (R88-R96), but for SLICE_RESET, and the device-write log (R180-R186). -/
namespace Sys2Proof.Machine

/-! ## Reply datagrams -/

/-- Sends one datagram of at most 64 waiting reply records to the slice's identity (R51). -/
def State.sendReplies (s : State) (n : Nat) : State :=
  match (s.slice n).binding with
  | .eth id =>
    let l := (s.slice n).udpOut
    if l = [] then s
    else (s.emit (.udp false id ((l.take 64).flatMap Reply.bytes))).modSlice n (fun x => { x with udpOut := l.drop 64 })
  | _ => s

/-! ## NOP, SLICE_INFO, slots -/

/-- NOP (R88). -/
def opNop : OpDef where
  code := 0x0000
  len := fixedLen 0

/-- The permission bits of a slice; slice 0 holds all (R84). -/
def State.permOf (s : State) (n : Nat) : Nat := if n = 0 then 7 else (s.slice n).perm

/-- VALUE of SLICE_INFO (R89). -/
def State.sliceInfo (s : State) (n : Nat) : Nat :=
  n + 2 ^ 4 * s.boot.log2n + 2 ^ 8 * s.fuses.tier + 2 ^ 12 * b2n s.fuses.pair +
  2 ^ 13 * (match s.pair.role with | .solo => 0 | .active => 1 | .standby => 2) + 2 ^ 16 * 0xB0 + 2 ^ 24 * s.permOf n +
  2 ^ 32 * (s.quotaMiB n % 2 ^ 16) + 2 ^ 48 * (s.useMiB n % 2 ^ 16)

/-- SLICE_INFO (R89). -/
def opSliceInfo : OpDef where
  code := 0x0001
  len := fixedLen 0
  slot := true
  issue s n e := s.complete n e.seq S_DONE (s.sliceInfo n)

/-- SLOT_READ (R90). -/
def opSlotRead : OpDef where
  code := 0x0002
  len := fixedLen 4
  imm := true
  nature := .trans
  checks _ _ _ m := [⟨10, 63 < u8 m.payload 0, 0⟩, ⟨10, 3 < u8 m.payload 1, 1⟩, resv m.payload 2 2]
  now s n m := s.slotRead n (u8 m.payload 0) (u8 m.payload 1)

/-- SLOT_RELEASE (R91). -/
def opSlotRelease : OpDef where
  code := 0x0003
  len := fixedLen 8
  imm := true
  nature := .trans
  now s n m := s.slotRelease n (u64 m.payload 0)

/-! ## SLICE_CONFIG -/

/-- The binding that a SLICE_CONFIG payload gives (R92). -/
def bindingOf (b : List Byte) : Binding :=
  match u8 b 1 with
  | 0 => .unbound
  | 1 => .pcie (u8 b 2) (BitVec.ofNat 20 (u32 b 4))
  | _ => .eth ⟨BitVec.ofNat 48 (rd b 8 6), BitVec.ofNat 12 (u16 b 0xE), BitVec.ofNat 32 (u32 b 0x10), BitVec.ofNat 16 (u16 b 0x14)⟩

/-- A binding that another configured slice than `t` has (R92). -/
def State.bindingTaken (s : State) (t : Nat) (x : Binding) : Bool :=
  x != .unbound && (List.range s.nSlices).any (fun k => k != t && (s.slice k).binding == x)

/-- The slice after a change of its binding (R93). -/
def Slice.rebind (x : Slice) (b : Binding) : Slice :=
  { x with
    binding := b, surfaces := [], sets := [], slots := List.replicate 64 Slot.empty, journal := [], inHand := .none
    nextSeq := 0, db := 0, sqHead := 0, rqTail := 0, rqHead := 0, ringEn := false, udpOut := [], fetchRetry := false }

/-- The touch designations and audio assignments of a slice end: its groups designate no slice, its mixer inputs and
outputs return to slice 0, its guest streams are closed (R93). -/
def State.freeAssignments (s : State) (t : Nat) : State :=
  let own := fun (o : Nat) => if o = t then 0 else o
  { s with
    touch := s.touch.map (fun g => if g.slice = t then { g with slice := 16, reports := none, fifo := [] } else g)
    aud := { s.aud with
      inOwner := s.aud.inOwner.map own
      outs := s.aud.outs.map (fun o => { o with owner := own o.owner })
      streams := s.aud.streams.filter (fun g => g.slice != t) } }

/-- The apply of a SLICE_CONFIG (R93). -/
def State.configSlice (s : State) (b : List Byte) : State :=
  let t := u8 b 0
  let s :=
    if (s.slice t).binding = bindingOf b then s
    else
      let s := foldN (((s.slice t).udpOut.length + 63) / 64) (fun s _ => s.sendReplies t) s
      let s := s.dropItems (s.slice t).staged
      (s.freeAssignments t).modSlice t (fun x => x.rebind (bindingOf b))
  s.modSlice t (fun x => { x with perm := u32 b 0x18, quota := u32 b 0x1C })

/-- SLICE_CONFIG (R92, R93, R185, R565). -/
def opSliceConfig : OpDef where
  code := 0x0004
  len := fixedLen 32
  nature := .trans
  who := .zero
  checks s p _ m :=
    let b := m.payload
    let t := u8 b 0
    let ty := u8 b 1
    let x := p.slice t
    let new := x.binding != bindingOf b
    let quotas := p.quotaSum - x.quota + u32 b 0x1C
    [⟨10, t = 0 || p.nSlices ≤ t, 0x00⟩, ⟨10, 2 < ty, 0x01⟩,
     ⟨10, if ty = 1 then 1 < u8 b 2 || (u8 b 2 = 1 && p.boot.bond) else u8 b 2 != 0, 0x02⟩, resv b 3 1,
     ⟨10, u32 b 4 / 2 ^ 20 != 0, 0x04⟩, ⟨10, u16 b 0xE / 2 ^ 12 != 0, 0x0E⟩, resv b 0x16 2, ⟨10, 7 < u32 b 0x18, 0x18⟩,
     ⟨11, u32 b 0x1C < p.useMiB t, 0x1C⟩,
     ⟨12, x.ringEn, 0x00⟩, ⟨12, (s.slice t).openCount != 0, 0x00⟩, ⟨12, p.bindingTaken t (bindingOf b), 0x01⟩,
     ⟨12, new && x.dirty.isSome, 0x00⟩, ⟨12, new && x.surfaces.any (fun u => s.surfPinned p t u.handle), 0x00⟩,
     ⟨15, p.guestKiB < 1024 * quotas + 4 * p.pagesUsed 0, 0x1C⟩]
  issue s n e := (s.configSlice e.body.payload).complete n e.seq S_DONE 0

/-! ## DIRTY_LOG -/

/-- The words of the bitmap that a flush writes: index and bits (R182, R185). -/
def DirtyLog.words (d : DirtyLog) : List (Nat × Nat) :=
  if d.all then (List.range (ceilDiv d.pages 64)).map (fun i => (i, 2 ^ min 64 (d.pages - 64 * i) - 1))
  else
    let is := (d.dirty.map (· / 64)).foldl (fun l i => insNat i l) []
    is.map (fun i => (i, maskOf ((d.dirty.filter (fun k => k / 64 == i)).map (· % 64))))

/-- VALUE of a flush (R182). -/
def DirtyLog.value (d : DirtyLog) : Nat :=
  sumBy (fun w => popCount 64 w.2) d.words + 2 ^ 32 * d.outside + 2 ^ 63 * b2n d.all

/-- A write into slice 0's bitmap, which no log records (R181). -/
def State.flushWrite (s : State) (a : Nat) (d : List Byte) : State :=
  match (s.slice 0).binding with
  | .pcie p pasid => if s.leads then s.request p (.flush pasid a d) else s
  | _ => s

/-- Copies the shadow of slice `t` into the bitmap and clears it; VALUE (R182). -/
def State.flushLog (s : State) (t : Nat) : State × Nat :=
  match (s.slice t).dirty with
  | some d =>
    let s := d.words.foldl (fun s w => s.flushWrite (d.bitmap + 8 * w.1) (leBytes 8 w.2)) s
    (s.modSlice t (fun x => { x with dirty := some { d with dirty := [], outside := 0, all := false } }), d.value)
  | none => (s, 0)

/-- DIRTY_LOG (R95, R180-R185). -/
def opDirtyLog : OpDef where
  code := 0x0006
  len := fixedLen 32
  slot := true
  pcie := true
  nature := .trans
  who := .zero
  checks _ p _ m :=
    let b := m.payload
    let t := u8 b 0
    let op := u8 b 1
    let pages := u32 b 4
    let g := u64 b 8
    let map := u64 b 0x10
    let run := (p.slice t).dirty.isSome
    let pcie := match (p.slice t).binding with | .pcie _ _ => true | _ => false
    [⟨10, p.nSlices ≤ t, 0⟩, ⟨10, op = 0 || 3 < op, 1⟩, resv b 2 2, ⟨10, pages = 0 || 2 ^ 28 < pages, 4⟩,
     ⟨10, g % 4096 != 0, 8⟩,
     ⟨10, map % 8 != 0 || (t = 0 && map < g + 4096 * pages && g < map + roundUp (ceilDiv pages 8) 8), 0x10⟩, resv b 0x18 8,
     ⟨12, !pcie || (run != (op != 1)), 0⟩,
     ⟨15, op = 1 && p.quotaMiB 0 * 256 < p.pagesUsed 0 + ceilDiv (ceilDiv pages 8) 4096, 4⟩]
  issue s n e :=
    let b := e.body.payload
    let t := u8 b 0
    if u8 b 1 = 1 then
      (s.modSlice t (fun x => { x with dirty := some ⟨u32 b 4, u64 b 8, u64 b 0x10, [], 0, false⟩ })).completeOpen n e.seq S_DONE
    else
      let r := s.flushLog t
      let s := if u8 b 1 = 3 then r.1.modSlice t (fun x => { x with dirty := none }) else r.1
      s.complete n e.seq S_DONE r.2

/-! ## REG_READ and REG_WRITE -/

/-- OFFSET lies in the system pages and is a multiple of 4 (R96). -/
def chkRegOff (off : Nat) : List Chk := [⟨10, off % 4 != 0, 0⟩, ⟨11, off < 0x100000 || 0x1FFFFF < off, 0⟩]

/-- REG_READ (R96). -/
def opRegRead : OpDef where
  code := 0x0007
  len := fixedLen 4
  imm := true
  nature := .trans
  who := .zero
  checks _ _ _ m := chkRegOff (u32 m.payload 0)
  now s _ m := s.sysRead 16 (u32 m.payload 0)

/-- A register whose read has a side effect, in the system pages (R614). -/
def readActs (off : Nat) : Bool := off == R.GLB_SNAP_TRIG || (regIdx off (R.MBX_CH_RX 0 3) 0x40 32).isSome

/-- REG_WRITE (R96). -/
def opRegWrite : OpDef where
  code := 0x0008
  len := fixedLen 12
  imm := true
  nature := .trans
  who := .zero
  checks _ _ _ m := chkRegOff (u32 m.payload 0) ++ [⟨10, u32 m.payload 8 / 16 != 0, 8⟩]
  now s _ m :=
    let b := m.payload
    let off := u32 b 0
    let s := s.sysWrite ⟨.master 16, BitVec.ofNat 4 (u32 b 8), BitVec.ofNat 32 (u32 b 4)⟩ off
    (s, if readActs off then 0 else s.view 16 off)

/-- Class 0x00 but for SLICE_RESET. -/
def sessionOps : List OpDef :=
  [opNop, opSliceInfo, opSlotRead, opSlotRelease, opSliceConfig, opDirtyLog, opRegRead, opRegWrite]

end Sys2Proof.Machine
end

