-- ==== Sys2Proof/Machine/SysOps.lean ====
section
/-! DEFINITION. Power (opcode class 0x0A: R146, R147, R666-R670) and diagnostics (class 0x0B: R148-R152, R516, R538, R602,
R605). -/
namespace Sys2Proof.Machine

/-! ## PWR_STATE and PWR_WAKE -/

/-- An OPEN entry of any slice satisfies `f`. -/
def State.anyOpen (s : State) (f : Nat → JEntry → Bool) : Bool :=
  (List.range 16).any (fun n => (s.slice n).journal.any (fun e => e.isOpen && f n e))

/-- An enabled output may enter DAMP: eDP with PSR allowed and ML_OFF set, or DSI command mode (R666). -/
def State.dampable (s : State) (n : Nat) : Bool :=
  let c := s.linkCfg n
  (cfgLink c == 1 && bit c 28 && s.lnkOpt n 2 1 == 1) || cfgLink c == 3

/-- What forbids a target state (R666). -/
def State.powerBars (s p : State) (t : Nat) : Bool :=
  let work := s.anyOpen (fun _ e => isJob e.body || isDma e.body)
  let out := (List.range s.nOut).any (fun n => (p.ou n).enabled)
  let damp := (List.range s.nOut).any (fun n => (p.ou n).enabled && !p.dampable n) || s.disp.limp.shown
  t != 0 && (
    ((t == 1 || t == 2) && work) || (t == 2 && damp) ||
    (3 ≤ t && (out || p.welded || s.anyOpen (fun _ _ => true) || p.power.st == 1 || p.power.st == 2)) ||
    (t == 5 && s.slag.cause != 0) || p.power.named &&& wakeWorks p.fuses.pair t == 0)

/-- Steps 3 to 5 of an entry into DAMP (R667). -/
def State.dampIn (s : State) : State :=
  let s := (s.slice 0).journal.foldl (fun s e =>
    if e.st == .openIssued && e.body.opcode.toNat == 0x0A00 && u8 e.body.payload 0 == 2 then s.completeLo 0 e.seq S_DONE 2 else s) s
  let s := s.arriveIn 2
  (List.range 8).foldl (fun s n => s.updSusp n) s

/-- Steps 6 to 8 of an entry into BANK, EMBER or ASH (R667). -/
def State.deepIn (s : State) (t : Nat) : State := (if t = 5 then s.mainOff.hearthOff else s.mainOff).arriveIn t

/-- PWR_STATE (R146, R666, R667). -/
def opPwrState : OpDef where
  code := 0x0A00
  len := fixedLen 4
  slot := true
  nature := .trans
  who := .zero
  checks s p _ m := [⟨10, 5 < u8 m.payload 0, 0⟩, resv m.payload 1 3, ⟨12, s.powerBars p (u8 m.payload 0), 0⟩]
  ready s _ _ := s.power.step == 0 && !s.power.exiting
  issue s n e :=
    let t := u8 e.body.payload 0
    let s := s.modPow (fun p => { p with target := t })
    if t = 0 then
      if s.power.st = 0 then s.completeLo n e.seq S_DONE 0 else s.modPow (fun p => { p with exiting := true })
    else if t = 1 then (s.completeLo n e.seq S_DONE 1).arriveIn 1
    else if t = 2 then
      let s := s.modPow (fun p => { p with step := 2, entering := true })
      if (List.range s.nOut).any (fun n => (s.ou n).enabled) then s else s.dampIn
    else (s.completeLo n e.seq S_DONE t).deepIn t
  project s _ e := s.modPow (fun p => { p with st := u8 e.body.payload 0 })

/-- PWR_WAKE (R147, R669). -/
def opPwrWake : OpDef where
  code := 0x0A01
  len := fixedLen 16
  who := .zero
  checks s _ _ m := [⟨7, !s.fuses.pair && bit (u32 m.payload 0) 2, 0⟩, ⟨10, 63 < u32 m.payload 0, 0⟩, resv m.payload 4 4]
  issue s n e :=
    (s.modPow (fun p => { p with sources := u32 e.body.payload 0, alarm := u64 e.body.payload 8 })).complete n e.seq S_DONE 0

/-! ## SLAG_READ and SLAG_CLEAR -/

/-- Entry `k` of the log, 0 for the first-fault record (R630). -/
def Slag.entryWord (g : Slag) (k : Nat) : Nat :=
  if k = 0 then (match g.first with | some e => e.word | none => 0)
  else match g.log[k - 1]? with
    | some e => e.word
    | none => 0

/-- SLAG_READ (R148). -/
def opSlagRead : OpDef where
  code := 0x0B00
  len := fixedLen 4
  slot := true
  who := .diag
  checks s _ _ m := [resv m.payload 2 2, ⟨11, s.slag.log.length < u16 m.payload 0, 0⟩]
  issue s n e := s.complete n e.seq S_DONE (s.slag.entryWord (u16 e.body.payload 0))

/-- The cause of a class persists (R632). -/
def State.persists (s : State) (c : Nat) : Bool :=
  match c with
  | 5 => (List.range 8).any (fun n => (s.hd n).st.any (·.latched))
  | 6 => s.disp.limp.latched
  | 7 => s.reg R.CMP_ENG_FAIL != 0
  | 8 => s.cru.failed != 0
  | 9 => s.reg R.ANV_CHAN_FAIL != 0
  | 11 => s.cfg.mism != 0
  | 12 => s.fld R.HRT_MT_STAT 1 3 != 0
  | 13 => s.boot.clockBad != 0
  | 14 => s.boot.supplyBad != 0
  | 15 => s.boot.thermalBad != 0
  | 17 => s.flag R.ULX_STAT 9
  | 22 => s.reg R.CRC_STAT % 256 != 0 || s.boot.checkerBad != 0 || s.boot.contentBad != 0
  | 25 => s.boot.failed
  | _ => false

/-- SLAG_CLEAR (R149, R632, R634): the state after it and the classes that stay set. -/
def State.slagClear (s : State) (mask : Nat) : State × Nat :=
  let stay := maskOf ((maskList 26 (mask &&& s.slag.sticky)).filter s.persists)
  let gone := 0x3FFFFFF ^^^ (mask % 2 ^ 26 &&& (0x3FFFFFF ^^^ stay))
  let sticky := s.slag.sticky &&& gone
  ({ s with slag := { s.slag with
      sticky := sticky, cause := s.slag.cause &&& gone, first := if sticky = 0 then none else s.slag.first } }, stay)

/-- SLAG_CLEAR (R149). -/
def opSlagClear : OpDef where
  code := 0x0B01
  len := fixedLen 8
  imm := true
  nature := .trans
  who := .zero
  checks _ _ _ m := [⟨10, u32 m.payload 0 / 2 ^ 26 != 0, 0⟩, resv m.payload 4 4]
  now s _ m := s.slagClear (u32 m.payload 0)

/-! ## CRC_RUN -/

/-- CRC_RUN (R150, R602, R603). Hardware reports S_DONE, or E_DATA for an uncorrectable word. -/
def opCrcRun : OpDef where
  code := 0x0B02
  len := fixedLen 16
  slot := true
  who := .diag
  checks _ p n m :=
    let b := m.payload
    let k := u8 b 0
    [⟨8, k < 8 && p.crcOwner k != 16 + n, 0⟩, ⟨10, 7 < k, 0⟩, resv b 1 1] ++ chkHandle p n (u16 b 2) 2 ++
    [⟨10, 1 < u32 b 0xC, 0xC⟩] ++
    (match p.surf n (u16 b 2) with
     | some u => [⟨11, u.bytes < u32 b 4 + u32 b 8, 4⟩]
     | none => []) ++ [⟨12, !p.crcEn k || p.crcFailed k, 0⟩]
  ready s _ e := !s.crcBusy (u8 e.body.payload 0)
  issue s _ e := s.setFlag (R.CRC_U_CTRL (u8 e.body.payload 0)) 3 true
  finish s n e r :=
    let b := e.body.payload
    let k := u8 b 0
    let s := s.setFlag (R.CRC_U_CTRL k) 3 false
    match s.surf n (u16 b 2) with
    | some u =>
      if r.status.toNat = S_DONE then
        let q := s.crcRunSurface k (u32 b 4) (bit (u32 b 0xC) 0) (u.read (u32 b 4) (u32 b 8))
        q.1.completeLo n e.seq S_DONE q.2
      else (s.slagErr 2 n 0x01).completeOpen n e.seq E_DATA
    | none => s

/-! ## SELFTEST -/

/-- |a − b| ≤ t. -/
def near (a b t : Nat) : Bool := a ≤ b + t && b ≤ a + t

/-- The first failed check of R516 over measured counts: 5 pF, 10 pF, twelve electrodes, and the change of eleven pairs under
antiphase, each a u16. -/
def touchTest (roles : List Nat) (openMin : Nat) (d : List Byte) : Nat :=
  let c5 := u16 d 0
  let c10 := u16 d 2
  let raw := fun e => u16 d (4 + 2 * e)
  let has := fun e => roles.getD e 0 % 4 != 0
  if !near c5 1280 64 then 0xFF01
  else if !near c10 2560 128 then 0xFF02
  else if !near c10 (c5 + 1280) 38 then 0xFF03
  else match firstIdx 12 (fun e => has e && raw e < openMin) with
    | some e => 4 + 2 ^ 8 * e
    | none => match firstIdx 12 (fun e => has e && raw e == 0xFFFF) with
      | some e => 5 + 2 ^ 8 * e
      | none => match firstIdx 11 (fun e => u16 d (28 + 2 * e) < 64) with
        | some e => 6 + 2 ^ 8 * e
        | none => 0

/-- The first failed check of R538 over measured values, each a u16: sixteen rest samples, the least and greatest bootstrap
sample, R of two windows, T as a u32, whether T was clamped, and the least R within 10 ms of braking. -/
def hapticTest (openMin brakeTh tMin tMax : Nat) (d : List Byte) : Nat :=
  let clampd := u16 d 44 != 0
  if (List.range 16).any (fun k => !near (u16 d (2 * k)) 2048 32) then 1
  else if u16 d 32 = 0 || u16 d 34 = 4095 then 2
  else if u16 d 36 < openMin || u16 d 38 < openMin then 3
  else if u32 d 40 < tMin || tMax < u32 d 40 || clampd then 4
  else if brakeTh ≤ u16 d 46 then 5
  else 0

/-- SELFTEST (R151, R516, R538, R605). For a check unit, the first byte reported is the code of the first row that fails. -/
def opSelftest : OpDef where
  code := 0x0B03
  len := fixedLen 4
  slot := true
  nature := .trans
  who := .zero
  checks _ p _ m :=
    let t := u8 m.payload 0
    let i := u8 m.payload 1
    [⟨7, t < 2 && p.nOut ≤ i && i < 8, 1⟩, ⟨10, 2 < t, 0⟩, ⟨10, 7 < i, 1⟩, resv m.payload 2 2,
     ⟨12, t == 0 && (p.tg i).enabled, 1⟩, ⟨12, t == 1 && (p.hap i).st != .idle, 1⟩]
  ready s _ e := !(u8 e.body.payload 0 == 2 && s.crcBusy (u8 e.body.payload 1))
  issue s _ _ := s
  finish s n e r :=
    let i := u8 e.body.payload 1
    match u8 e.body.payload 0 with
    | 0 => s.completeLo n e.seq S_DONE
        (touchTest ((s.tg i).els.map (·.role)) (s.fld (banked R.TCH_GRP_OPT i) 16 16) r.data)
    | 1 => s.completeLo n e.seq S_DONE
        (hapticTest (s.fld (banked R.HAP_LIM i) 16 12) (s.fld (banked R.HAP_TIM i) 0 12) (s.tMin i) (s.tMax i) r.data)
    | _ =>
      let c := min 4 (u8 r.data 0)
      let s := if c = 0 then s else (s.setFlag R.CRC_STAT i true).slagX 22 i 0x12 { isolate := true } false false
      s.completeLo n e.seq S_DONE c

/-! ## FAULT_INJECT -/

/-- FAULT_INJECT (R152, R629). -/
def opFaultInject : OpDef where
  code := 0x0B04
  len := fixedLen 8
  slot := true
  nature := .trans
  who := .zero
  checks _ p _ m :=
    [⟨10, 25 < u32 m.payload 0, 0⟩, ⟨10, u32 m.payload 4 / 2 ^ 16 != 0, 4⟩,
     ⟨12, p.welded || (List.range p.nOut).any (fun n => (p.ou n).enabled), fNONE⟩]
  issue s n e :=
    let c := u32 e.body.payload 0
    let a := u32 e.body.payload 4
    (s.slagEntry ⟨c, slagSeverity c false, true, a % 256, a / 256 % 256, 0, 0⟩ false).completeOpen n e.seq S_DONE

/-- Classes 0x0A and 0x0B. -/
def sysOps : List OpDef := [opPwrState, opPwrWake, opSlagRead, opSlagClear, opCrcRun, opSelftest, opFaultInject]

end Sys2Proof.Machine
end

