-- ==== Sys2Proof/Machine/Reissue.lean ====
section
/-! DEFINITION. Re-issue after a reset (R68, R71, R79), slice reset (R49, R94) and block reset (R649). -/
namespace Sys2Proof.Machine

/-! ## Cutting and re-issuing -/

/-- The physical output that a transient billet plays is cut (R68): its chime stops, its haptic effect ends with the gates
off. -/
def State.cutTransient (s : State) (n : Nat) (seq : Word) : State :=
  let mine := fun (x : Option (Nat × Word)) => x == some (n, seq)
  let s := s.modAud (fun a => { a with players := a.players.map (fun p =>
    let next := match p.next with | some c => if mine c.src then none else some c | none => none
    match p.cur with
    | some c => if mine c.src then ⟨next, none⟩ else ⟨some c, next⟩
    | none => ⟨none, next⟩) })
  let s := (List.range 8).foldl (fun s k =>
    let s := match (s.hap k).next with
      | some t => if mine t.src then s.modHap k (fun h => { h with next := none }) else s
      | none => s
    match (s.hap k).cur with
    | some t => if mine t.src then s.hapCut k true else s
    | none => s) s
  s.completeOpen n seq E_RESET_CUT

/-- The opcodes but for SLICE_RESET. -/
def coreOps : List OpDef :=
  sessionOps ++ surfOps ++ layerOps ++ outputOps ++ hardyOps ++ jobOps ++ audioOps ++ touchOps ++ hapticOps ++ avtpOps ++ pairOps ++
  sysOps

/-- An opcode's description. -/
def opIn (l : List OpDef) (code : Half) : Option OpDef := l.find? (fun d => d.code == code.toNat)

/-- One OPEN.ISSUED entry after a reset (R68, R71, R79). -/
def State.reissueEntry (s : State) (n : Nat) (e : JEntry) : State :=
  if e.st != .openIssued then s
  else if !e.bodyOk then (s.slagErr 2 n 0x01).completeOpen n e.seq E_DATA
  else match opIn coreOps e.body.opcode with
  | none => s
  | some d =>
    match d.nature, e.applied with
    | .transient, _ => s.cutTransient n e.seq
    | .trans, some (st, v) => s.complete n e.seq st.toNat v.toNat
    | _, _ => d.restart s n e

/-- The OPEN.ISSUED entries of slice `n` that satisfy `f` are re-issued or cut. -/
def State.reissue (s : State) (n : Nat) (f : BilletMsg → Bool) : State :=
  ((s.slice n).journal.filter (fun e => f e.body)).foldl (fun s e => s.reissueEntry n e) s

/-- A STAGED entry is discarded with its slot (R68). -/
def Slice.dropStaged (x : Slice) : Slice :=
  match x.inHand with
  | .staged q => { x with
      inHand := .none
      slots := x.slots.map (fun sl => if sl.st == .pending && sl.seq == q then Slot.empty else sl)
      journal := x.journal.filter (fun e => e.st != .staged) }
  | _ => x

/-- Knaby stops with a billet in hand: STAGED is discarded, and one that waits has not been processed (R68). -/
def Slice.dropHand (x : Slice) : Slice := { x.dropStaged with inHand := .none }

/-- A slice reset (R49, R94). -/
def State.resetSlice (s : State) (n : Nat) : State :=
  let s := s.modSlice n (fun x => ({ x with ringEn := false, dbErr := false, relPend := false } : Slice).dropStaged)
  s.reissue n (fun _ => true)

/-! ## Block reset -/

/-- Composition engines are tested again (R220). -/
def State.retestEngines (s : State) (bad : Nat) : State :=
  (s.setReg R.CMP_ENG_FAIL 0).failEngines bad 0

/-- Pressed controls of an enabled group are released, and its baselines acquired again (R649 bit 3). -/
def State.rebaseGroup (s : State) (g : Nat) : State :=
  let t := s.tg g
  if !t.enabled then s else
  let s := t.controls.foldl (fun s c => if ((s.tg g).ctl c).pressed then s.releaseCtl g c 0 false else s) s
  s.modTg g (fun t => { t with
    scans := 0, follow := 0
    els := t.els.map (fun x => if x.kind = 0 then x else x.acquire t.enabling.isSome)
    ctls := List.replicate 12 TouchCtl.reset })

/-- Every job starts again on a cleared cluster (R71, R379, R649 bit 0). -/
def State.restartCluster (s : State) : State :=
  let s := s.cru.jobs.foldl (fun s j => s.restartJob j.slice j.seq) s
  s.modCru (fun c => { c with saves := [] })

/-- The reset of block `b` (R649). -/
def State.blockReset (s : State) (b : Nat) : State :=
  let bad := match s.boot.env with | some e => e.enginesFail | none => 0
  let s :=
    if b = 0 then s.restartCluster
    else if b = 1 then ((List.range 8).foldl (fun s n => s.abandonPass n 20) s).retestEngines bad
    else if b = 2 then s.chimesCut E_RESET_CUT false
    else if b = 3 then (List.range 8).foldl (fun s g => s.rebaseGroup g) s
    else if b = 4 then (List.range 8).foldl (fun s n => s.hapCut n false) s
    else if b = 6 then
      let s := s.net.billetQ.foldl (fun s _ => s.netDrop 5) s
      let s := s.net.quenchQ.foldl (fun s _ => s.netDrop 6) s
      { s with net := { s.net with billetQ := [], quenchQ := [] } }
    else s
  s.resetEntry 7 b

/-- The block resets that RST_BLK asks for; during a warm reset they are absorbed (R659). -/
def State.runBlockResets (s : State) : State :=
  let l := maskList 7 s.boot.rstBlk
  let s := { s with boot := { s.boot with rstBlk := 0 } }
  if s.boot.warmStep ≠ 0 then s else l.foldl State.blockReset s

/-- BLOCK_RESET: RST_BLK written (R649, R660). -/
def execBlockReset (a : Access) (s : State) : Out :=
  .next ((s.gateWrite a R.RST_BLK false).run (fun m => (s.rstBlkWrite m a.data.toNat).runBlockResets))

/-- RST_CTRL_KNABY: RST_CTRL written with KNABY set (R647, R660). -/
def execRstCtrlKnaby (a : Access) (s : State) : Out :=
  .next ((s.gateWrite a R.RST_CTRL false).run (fun m => s.rstCtrlWrite m (a.data.toNat ||| 1)))

/-- RST_CTRL_WARM: RST_CTRL written with WARM set (R647, R660). -/
def execRstCtrlWarm (a : Access) (s : State) : Out :=
  .next ((s.gateWrite a R.RST_CTRL false).run (fun m => s.rstCtrlWrite m (a.data.toNat ||| 2)))

end Sys2Proof.Machine
end

