-- ==== Sys2Proof/Machine/Accept.lean ====
section
/-! DEFINITION. From a billet to its effect: the checks of R53, the projected state (R54), acceptance and reply (R46-R73, R81),
issue (R82), completion (R68) and SLICE_RESET (R94). -/
namespace Sys2Proof.Machine

/-! ## The opcode table -/

/-- SLICE_RESET (R94). -/
def opSliceReset : OpDef where
  code := 0x0005
  len := fixedLen 4
  slot := true
  nature := .trans
  who := .zero
  checks _ p _ m := [⟨10, u8 m.payload 0 = 0 || p.nSlices ≤ u8 m.payload 0, 0⟩, resv m.payload 1 3]
  issue s n e := (s.resetSlice (u8 e.body.payload 0)).complete n e.seq S_DONE 0

/-- Every opcode of R86 but QUENCH. -/
def opTable : List OpDef := opSliceReset :: coreOps

/-- The description of an opcode. -/
def opOf (code : Half) : Option OpDef := opIn opTable code

/-! ## The projected state -/

/-- Every OPEN entry with its slice, in the order of acceptance. -/
def State.openEntries (s : State) : List (Nat × JEntry) :=
  sortBy (fun q => q.2.order) ((List.range 16).flatMap (fun n =>
    ((s.slice n).journal.filter JEntry.isOpen).map (fun e => (n, e))))

/-- What one OPEN entry still changes. -/
def State.projectEntry (p : State) (n : Nat) (e : JEntry) : State :=
  match opOf e.body.opcode with
  | some d => d.project (if e.st == .openWait then d.issue p n e else p) n e
  | none => p

/-- The state once every accepted billet has taken effect (R54). -/
def State.projected (s : State) : State := s.openEntries.foldl (fun p q => p.projectEntry q.1 q.2) s

/-! ## The checks of R53 -/

/-- What becomes of a billet. -/
inductive Judgement where
  | wait (h : InHand)
  | reject (status result : Nat)
  | dup (r : Reply)
  | accept (d : OpDef)

/-- Step 3: the offset of the first offending header field (R40, R53). -/
def formatFault (m : BilletMsg) : Option Nat :=
  let g := match opOf m.opcode with | some d => d.takesG | none => false
  let dl := match opOf m.opcode with | some d => d.takesD | none => false
  if m.flags.toNat / 8 != 0 then some 0x0C
  else if m.group != 0 && !g then some 0x0E
  else if m.deadline != 0 && !dl then some 0x10
  else if m.res14 != 0 then some 0x14
  else if m.res18 != 0 then some 0x18
  else none

/-- The slice may send the opcode (R84, R86). -/
def State.mayS (s : State) (n : Nat) (w : Who) : Bool :=
  match w with
  | .zero => n == 0
  | .any => true
  | .hardy => bit (s.permOf n) 0
  | .diag => bit (s.permOf n) 2

/-- A unit that only RUN powers (R665). -/
def needsRun (m : BilletMsg) : Bool :=
  let p := m.payload
  match m.opcode.toNat with
  | 0x0500 | 0x0501 | 0x0102 | 0x0104 | 0x0105 | 0x0106 | 0x0402 | 0x0B02 | 0x0202 => true
  | 0x0301 => u8 p 2 == 1 || u8 p 2 == 2
  | 0x0302 => u8 p 1 == 1
  | _ => false

/-- The checks of steps 7 to 15, each step's general one first (R53, R84, R87, R665). -/
def State.checkList (s p : State) (n : Nat) (m : BilletMsg) (d : OpDef) : List Chk :=
  [⟨7, m.opcode.toNat / 256 == 9 && !s.fuses.pair, fOPCODE⟩, ⟨8, !s.mayS n d.who, fOPCODE⟩,
   ⟨9, m.length.toNat != d.len m, d.len m⟩, ⟨13, p.power.st != 0 && needsRun m, p.power.st⟩,
   ⟨14, d.slot && (s.slice n).freeSlot.isNone, 0⟩] ++ d.checks s p n m

/-- The wait of step 16, if there is one (R70, R81, R271, R434). -/
def State.windowWait (s : State) (n : Nat) (m : BilletMsg) (len : Nat) (d : OpDef) (verdictIn : Bool) : Option InHand :=
  let x := s.slice n
  let full := match x.entry (m.seq - 256) with | some e => e.isOpen | none => false
  if full || s.phase == 4 || (d.imm && x.journal.any (fun e => e.st == .openWait)) then some (.window m len)
  else if m.opcode == 0x0404 && !verdictIn && s.givesVerdicts (u8 m.payload 0) then
    some (.verdict m len (s.hd (u8 m.payload 0)).last)
  else none

/-- R53, R57. `len` is the length of the datagram, `verdictIn` says that the verdict a HARDY_ACK was held for is in. -/
def State.judgeBillet (s : State) (n : Nat) (m : BilletMsg) (len : Nat) (verdictIn : Bool) : Judgement :=
  let x := s.slice n
  let diff := sdiff m.seq x.nextSeq
  if len ≠ 32 + m.length.toNat then .reject E_LENGTH len
  else if 4064 < m.length.toNat then .reject E_LENGTH m.length.toNat
  else if m.check ≠ billetCrc m n then .reject E_CHECK 0
  else match formatFault m with
  | some o => .reject E_FORMAT o
  | none =>
    if 0 < diff then .reject E_SEQ_GAP x.nextSeq.toNat
    else if diff < 0 then
      match (if diff < -256 then none else x.entry m.seq) with
      | some e => if e.check = m.check then .dup { e.reply with dup := true } else .reject E_SEQ_REUSE 0
      | none => .reject E_SEQ_OLD x.nextSeq.toNat
    else if m.flags.getLsbD 2 && x.openCount != 0 then .wait (.fence m len)
    else match opOf m.opcode with
    | none => .reject E_OPCODE 0
    | some d =>
      let eth := match x.binding with | .eth _ => true | _ => false
      if d.pcie && eth then .reject E_OPCODE 0
      else match firstFail (s.checkList s.projected n m d) with
      | some (st, r) => .reject st r
      | none => match s.windowWait n m len d verdictIn with
        | some h => .wait h
        | none => .accept d

/-! ## Acceptance -/

/-- The registers that a billet's state change writes whether or not their values change (R621). -/
def State.wroteBy (s : State) (m : BilletMsg) : List Nat :=
  let p := m.payload
  let n := u8 p 0
  match m.opcode.toNat with
  | 0x0008 => [u32 p 0]
  | 0x0300 => [R.SCN_OUT_LNK_CFG n, R.SCN_OUT_PSEQ0 n, R.SCN_OUT_PSEQ1 n]
  | 0x0301 => if 2 ≤ u8 p 2 || missesDeadline m.deadline (s.timingFrame p) then [] else timingKeys n (u8 p 1)
  | 0x0703 => [banked R.HAP_DRV n, banked R.HAP_TIM n]
  | _ => []

/-- Sets the state of a journal entry. -/
def State.markEntry (s : State) (n : Nat) (seq : Word) (st : JState) : State :=
  s.modSlice n (fun x => x.modEntry seq (fun e => { e with st := st }))

/-- An immediate billet is performed and DONE (R81); a STANDBY device keeps the forwarded reply (R438). -/
def State.performNow (s : State) (n : Nat) (e : JEntry) (d : OpDef) : State :=
  let r := d.now s n e.body
  let s := (r.1.commitAfter s (s.wroteBy e.body)).runBlockResets
  s.modSlice n (fun x => x.modEntry e.seq (fun e =>
    { e with st := .done, here := none, reply := if e.here.isSome then e.reply else { e.reply with result := BitVec.ofNat 32 r.2 } }))

/-- STAGED ends (R68, R81): an immediate billet is performed, SLC_NEXT_SEQ passes the billet, and the reply is written. On a
STANDBY device an immediate one waits for the effects before it. -/
def State.openStaged (s : State) (n : Nat) (e : JEntry) (d : OpDef) : State :=
  let now := d.imm && !(s.slice n).journal.any (fun e => e.st == .openWait)
  let s := if now then s.performNow n e d else s.markEntry n e.seq .openWait
  let s := s.modSlice n (fun x => { x with nextSeq := e.seq + 1, inHand := .none })
  match (s.slice n).entry e.seq with
  | some e => s.putReply n e.reply (e.body.flags.getLsbD 0)
  | none => s

/-- The journal entry that an accepted billet gets (R63, R68, R81, R271). -/
def State.newEntry (s : State) (n : Nat) (m : BilletMsg) (d : OpDef) : JEntry :=
  let k := if d.slot then (s.slice n).freeSlot else none
  let r := match k with | some i => i | none => d.result s n m
  ⟨m.seq, m.check, .staged, k,
   ⟨m.seq, m.tag, BitVec.ofNat 12 m.opcode.toNat, k.isSome, false, BitVec.ofNat 16 S_ACCEPTED, BitVec.ofNat 32 r⟩,
   m, true, s.order, d.mark s m, none⟩

/-- Copies an entry into the journal, in place of the one of SEQ − 256, and takes its slot (R63, R68). -/
def State.journalIn (s : State) (n : Nat) (e : JEntry) : State :=
  ({ s with order := s.order + 1 } : State).modSlice n (fun x => { x with
    journal := x.journal.filter (fun (o : JEntry) => o.seq != e.seq - 256) ++ [e]
    slots := match e.slot with
      | some k => putAt x.slots k { Slot.empty with st := .pending, seq := e.seq }
      | none => x.slots })

/-- An accepted billet is STAGED; in a pair it is forwarded and waits for its JACK (R68, R438). -/
def State.acceptBillet (s : State) (n : Nat) (m : BilletMsg) (d : OpDef) : State :=
  let e := s.newEntry n m d
  let s := s.journalIn n e
  let s := if m.opcode.toNat = 0x0202 || m.opcode.toNat = 0x0301 || m.opcode.toNat = 0x0302 then
      s.showLoads (s.markEntry n m.seq .openWait).projected
    else s
  if s.pair.role == .active then
    ((s.modSlice n (fun x => { x with inHand := .staged m.seq })).incWrap R.ULX_FWD 0 32).ulxSend (.journal n m e.slot e.reply)
  else s.openStaged n e d

/-- One billet goes through R53; what it waits for is kept in hand. -/
def State.handle (s : State) (n : Nat) (m : BilletMsg) (len : Nat) (verdictIn : Bool) : State :=
  let irq := m.flags.getLsbD 0
  let free := s.modSlice n (fun x => { x with inHand := .none })
  match s.judgeBillet n m len verdictIn with
  | .wait h => s.modSlice n (fun x => { x with inHand := h })
  | .reject st r => free.putReply n
      ⟨m.seq, m.tag, BitVec.ofNat 12 m.opcode.toNat, false, false, BitVec.ofNat 16 st, BitVec.ofNat 32 r⟩ irq
  | .dup r => free.putReply n r irq
  | .accept d => free.acceptBillet n m d

/-- The billet in raw bytes: 32 header bytes, then LENGTH payload bytes (R39). -/
def rawBillet (b : List Byte) : BilletMsg :=
  let h := fun o => BitVec.ofNat 16 (u16 b o)
  let w := fun o => BitVec.ofNat 32 (u32 b o)
  let n := u16 b 2
  ⟨h 0, h 2, w 4, w 8, h 0xC, h 0xE, w 0x10, w 0x14, w 0x18, w 0x1C,
   (b.drop 32).take n ++ List.replicate (n - (b.length - 32)) 0⟩

/-! ## Delivery -/

/-- Knaby processes billets (R657, R662, R664, R672). -/
def State.knabyRuns (s : State) : Bool :=
  s.boot.sealedOnce && !s.boot.failed && !s.boot.knabyDown && !s.boot.knabyStopped && s.boot.warmStep == 0 &&
  decide (s.power.st ≤ 1) && !(s.power.restoring && decide (3 ≤ s.power.resState))

/-- The port carries slice `n`'s requests (R165, R566). -/
def State.portRuns (s : State) (n : Nat) : Bool :=
  match (s.slice n).binding with
  | .pcie p _ => !(s.port p).holds
  | _ => false

/-- The next entry of the submission ring may be fetched (R44, R47, R78, R568). -/
def State.mayFetch (s : State) (n : Nat) : Bool :=
  let x := s.slice n
  s.knabyRuns && s.leads && s.portRuns n && x.ringEn && x.db != x.sqHead && !x.rqFull && x.inHand == .none && !x.fetchRetry

/-- BILLET_FETCH: the entry at SLC_SQ_HEAD holds these bytes (R42). -/
def execBilletFetch (n : Fin 16) (raw : List Byte) (s : State) : Out :=
  .next (if s.mayFetch n.val then
    let m := rawBillet raw
    s.handle n.val m (32 + m.length.toNat) false
  else s)

/-- The slice bound to an Ethernet identity (R164, R167). -/
def State.sliceOf (s : State) (id : NetId) : Option Nat :=
  (List.range s.nSlices).find? (fun n => (s.slice n).binding == .eth id)

/-- Knaby takes a classified datagram of a slice with nothing in hand. -/
def State.takeDatagram (s : State) (n : Nat) (b : List Byte) : State :=
  s.serviceBegins.handle n (rawBillet b) b.length false

/-- One datagram that waits is taken, if there is one that can be (R574). -/
def State.pumpOne (s : State) : State :=
  if !s.knabyRuns then s else
  let able := fun (d : Datagram) => match s.sliceOf d.src with
    | some n => (s.slice n).inHand == .none
    | none => true
  match s.net.billetQ.find? able with
  | none => s
  | some d =>
    let s := { s with net := { s.net with billetQ := s.net.billetQ.erase d } }
    match s.sliceOf d.src with
    | some n => s.takeDatagram n d.payload
    | none => s.netDrop 3

/-- Every datagram that can be taken is taken. -/
def State.pumpNet (s : State) : State := foldN s.net.billetQ.length (fun s _ => s.pumpOne) s

/-- The network attachment serves its ports: NET_CFG.EN, powered, not in reset. -/
def State.netUp (s : State) : Bool := s.boot.sealedOnce && s.flag R.NET_CFG 0 && decide (s.power.st ≤ 2)

/-- What drops a datagram: the index of NET_DROP (R50, R574, R575). -/
def State.dropCause (s : State) (d : UdpIn) (queued limit full : Nat) : Option Nat :=
  if !s.leads then some 4
  else if d.fragment then some 0
  else if d.sum = .bad then some 1
  else if d.payload.length < 32 then some 2
  else if (s.sliceOf d.src).isNone then some 3
  else if limit ≤ queued then some full
  else none

/-- A datagram at the billet port (R50, R167, R439, R574, R668). -/
def State.udpBillet (s : State) (d : UdpIn) : State :=
  if !s.netUp then s else
  match s.dropCause d s.net.billetQ.length 256 5 with
  | some k => s.netDrop k
  | none =>
    let s := if s.welded then s.ulxSend (.event (.billetDatagram d)) else s
    let s := s.wake 32 0
    State.pumpNet { s with net := { s.net with billetQ := s.net.billetQ ++ [⟨d.src, d.payload⟩] } }

/-- BILLET_DATAGRAM. -/
def execBilletDatagram (d : UdpIn) (s : State) : Out := .next (s.udpBillet d)

/-- REPLY_DATAGRAM (R51): at most 64 records. -/
def execReplyDatagram (n : Fin 16) (s : State) : Out := .next (if s.leads then s.sendReplies n.val else s)

/-- Knaby takes up the billet in hand of slice `n` again. -/
def State.resume (s : State) (n : Nat) (m : BilletMsg) (len : Nat) (verdictIn : Bool) : State :=
  if s.knabyRuns && s.leads then (s.handle n m len verdictIn).pumpNet else s

/-- FENCE_WAIT_END (R40, R53 step 5). -/
def execFenceWaitEnd (n : Fin 16) (s : State) : Out :=
  .next (match (s.slice n.val).inHand with
  | .fence m len => if (s.slice n.val).openCount = 0 then s.resume n.val m len false else s
  | _ => s)

/-- WINDOW_WAIT_END (R53 step 16, R70, R81): also a HARDY_ACK whose output no longer produces verdicts (R271). -/
def execWindowWaitEnd (n : Fin 16) (s : State) : Out :=
  .next (match (s.slice n.val).inHand with
  | .window m len => s.resume n.val m len false
  | .verdict m len _ => if s.givesVerdicts (u8 m.payload 0) then s else s.resume n.val m len true
  | _ => s)

/-- HARDY_VERDICT (R268), and the HARDY_ACKs that were held for it (R271). -/
def execHardyVerdict (n : Fin 8) (f : Word) (expErr : BitVec 16) (s : State) : Out :=
  .next (
    let s := s.hardyVerdict n.val f expErr.toNat
    (List.range 16).foldl (fun s k => match (s.slice k).inHand with
      | .verdict m len last =>
        if u8 m.payload 0 == n.val && (s.hd n.val).last != last then s.resume k m len true else s
      | _ => s) s)

/-! ## Issue and completion -/

/-- The first entry of slice `n` that waits for issue. -/
def Slice.nextIssue (x : Slice) : Option JEntry := x.journal.find? (fun e => e.st == .openWait)

/-- The effect may be issued now (R82, R293, R434, R665). -/
def State.issueReady (s : State) (n : Nat) (e : JEntry) (d : OpDef) : Bool :=
  s.knabyRuns && d.ready s n e &&
  !(n == 0 && s.disp.outs.any (fun o => o.zeroSeq.isSome)) &&
  !(3 ≤ s.phase && s.phase ≤ 4 && (isJob e.body || isDma e.body)) &&
  !(needsRun e.body && (s.power.st != 0 || s.power.step != 0))

/-- The effect of an entry is issued (R68, R82); its writes to covered registers are committed (R621). -/
def State.issueEntry (s : State) (n : Nat) (e : JEntry) (d : OpDef) : State :=
  if d.imm then s.performNow n e d
  else (d.issue (s.markEntry n e.seq .openIssued) n { e with st := .openIssued }).commitAfter s (s.wroteBy e.body)

/-- Issues the next effect of slice `n`, if it is ready. -/
def State.issueNext (s : State) (n : Nat) : State :=
  match (s.slice n).nextIssue with
  | none => s
  | some e => match opOf e.body.opcode with
    | none => s
    | some d => if s.issueReady n e d then s.issueEntry n e d else s

/-- EFFECT_ISSUE (R82). -/
def execEffectIssue (n : Fin 16) (s : State) : Out := .next (s.issueNext n.val)

/-- EFFECT_COMPLETE (R68): a report to a Knaby that does not run waits in the hardware. -/
def execEffectComplete (n : Fin 16) (seq : Word) (r : EffResult) (s : State) : Out :=
  .next (
    match (s.slice n.val).entry seq with
    | some e =>
      if !s.knabyRuns || e.st != .openIssued then s
      else match opOf e.body.opcode with
        | some d => (d.finish s n.val e r).commitAfter s []
        | none => s
    | none => s)

/-! ## A billet as a command of its own -/

/-- The billet as Knaby reads it; `force` sets the payload bytes that tell a row from its neighbours. -/
def billetMsg (b : Billet) (code : Nat) (force : List (Nat × Nat)) : BilletMsg :=
  let pl := force.foldl (fun p f => modAt p f.1 (fun _ => BitVec.ofNat 8 f.2)) b.payload
  ⟨BitVec.ofNat 16 code, BitVec.ofNat 16 (min 65535 pl.length), b.hdr.seq, b.hdr.tag, b.hdr.flags, b.hdr.group, b.hdr.deadline, 0, 0,
   b.hdr.check, pl⟩

/-- The bytes of a billet (R39). -/
def msgBytes (m : BilletMsg) : List Byte :=
  leBytes 2 m.opcode.toNat ++ leBytes 2 m.length.toNat ++ leBytes 4 m.seq.toNat ++ leBytes 4 m.tag.toNat ++ leBytes 2 m.flags.toNat ++
  leBytes 2 m.group.toNat ++ leBytes 4 m.deadline.toNat ++ leBytes 4 m.res14.toNat ++ leBytes 4 m.res18.toNat ++
  leBytes 4 m.check.toNat ++ m.payload

/-- The billet is delivered to its slice: as the entry at SLC_SQ_HEAD, announced if none is, or as a datagram of the bound
identity. -/
def State.deliver (s : State) (n : Nat) (m : BilletMsg) : State :=
  match (s.slice n).binding with
  | .pcie _ _ =>
    let x := s.slice n
    let s1 := if x.db = x.sqHead then s.dbWrite n (x.db + 1) else s
    if s1.mayFetch n then s1.handle n m (32 + m.length.toNat) false else s
  | .eth id => s.udpBillet ⟨id, false, .zero, msgBytes m⟩
  | .unbound => s

/-- A billet row: delivery, then the issue of the slice's next effect. -/
def State.billet (s : State) (b : Billet) (code : Nat) (force : List (Nat × Nat)) : State :=
  (s.deliver b.slice.val (billetMsg b code force)).issueNext b.slice.val

end Sys2Proof.Machine
end

