-- ==== Sys2Proof/Machine/BilletRows.lean ====
section
/-! DEFINITION. The billets as commands (R86): each row is its opcode, and the payload byte that tells it from its
neighbours, over the one delivery of a billet. -/
namespace Sys2Proof.Machine

/-- NOP (R88). -/
def execNop (b : Billet) (s : State) : Out := .next (s.billet b 0x0000 [])

/-- SLICE_INFO (R89). -/
def execSliceInfo (b : Billet) (s : State) : Out := .next (s.billet b 0x0001 [])

/-- SLOT_READ (R90). -/
def execSlotRead (b : Billet) (s : State) : Out := .next (s.billet b 0x0002 [])

/-- SLOT_RELEASE (R91). -/
def execSlotRelease (b : Billet) (s : State) : Out := .next (s.billet b 0x0003 [])

/-- SLICE_CONFIG (R92). -/
def execSliceConfig (b : Billet) (s : State) : Out := .next (s.billet b 0x0004 [])

/-- SLICE_RESET (R94). -/
def execSliceReset (b : Billet) (s : State) : Out := .next (s.billet b 0x0005 [])

/-- DIRTY_LOG_START (R95). -/
def execDirtyLogStart (b : Billet) (s : State) : Out := .next (s.billet b 0x0006 [(1, 1)])

/-- DIRTY_LOG_FLUSH (R182). -/
def execDirtyLogFlush (b : Billet) (s : State) : Out := .next (s.billet b 0x0006 [(1, 2)])

/-- DIRTY_LOG_STOP (R184). -/
def execDirtyLogStop (b : Billet) (s : State) : Out := .next (s.billet b 0x0006 [(1, 3)])

/-- REG_READ (R96). -/
def execRegRead (b : Billet) (s : State) : Out := .next (s.billet b 0x0007 [])

/-- REG_WRITE (R96). -/
def execRegWrite (b : Billet) (s : State) : Out := .next (s.billet b 0x0008 [])

/-- SURF_CREATE (R99). -/
def execSurfCreate (b : Billet) (s : State) : Out := .next (s.billet b 0x0100 [])

/-- SURF_FREE (R100). -/
def execSurfFree (b : Billet) (s : State) : Out := .next (s.billet b 0x0101 [])

/-- SURF_UPLOAD (R101). -/
def execSurfUpload (b : Billet) (s : State) : Out := .next (s.billet b 0x0102 [])

/-- SURF_WRITE (R102). -/
def execSurfWrite (b : Billet) (s : State) : Out := .next (s.billet b 0x0103 [])

/-- SURF_READBACK (R101). -/
def execSurfReadback (b : Billet) (s : State) : Out := .next (s.billet b 0x0104 [])

/-- SURF_FILL (R103). -/
def execSurfFill (b : Billet) (s : State) : Out := .next (s.billet b 0x0105 [])

/-- SURF_COPY (R104). -/
def execSurfCopy (b : Billet) (s : State) : Out := .next (s.billet b 0x0106 [])

/-- LAYER_ASSIGN (R105). -/
def execLayerAssign (b : Billet) (s : State) : Out := .next (s.billet b 0x0200 [])

/-- LAYER_SET (R107). -/
def execLayerSet (b : Billet) (s : State) : Out := .next (s.billet b 0x0201 [])

/-- COMMIT (R108). -/
def execCommit (b : Billet) (s : State) : Out := .next (s.billet b 0x0202 [])

/-- STAGE_DISCARD (R110). -/
def execStageDiscard (b : Billet) (s : State) : Out := .next (s.billet b 0x0203 [])

/-- WRITEBACK (R111). -/
def execWriteback (b : Billet) (s : State) : Out := .next (s.billet b 0x0204 [])

/-- OUT_CONFIG (R112). -/
def execOutConfig (b : Billet) (s : State) : Out := .next (s.billet b 0x0300 [])

/-- SET_TIMING_LOAD (R113). -/
def execSetTimingLoad (b : Billet) (s : State) : Out := .next (s.billet b 0x0301 [(2, 0)])

/-- SET_TIMING_SWITCH (R302). -/
def execSetTimingSwitch (b : Billet) (s : State) : Out := .next (s.billet b 0x0301 [(2, 1)])

/-- SET_TIMING_REPROGRAM (R303). -/
def execSetTimingReprogram (b : Billet) (s : State) : Out := .next (s.billet b 0x0301 [(2, 2)])

/-- OUT_ENABLE (R304). -/
def execOutEnable (b : Billet) (s : State) : Out := .next (s.billet b 0x0302 [(1, 1)])

/-- OUT_DISABLE (R305). -/
def execOutDisable (b : Billet) (s : State) : Out := .next (s.billet b 0x0302 [(1, 0)])

/-- ANV_ALLOC (R293). -/
def execAnvAlloc (b : Billet) (s : State) : Out := .next (s.billet b 0x0303 [])

/-- COLOUR_LOAD (R116). -/
def execColourLoad (b : Billet) (s : State) : Out := .next (s.billet b 0x0304 [])

/-- SCALER_LOAD (R117). -/
def execScalerLoad (b : Billet) (s : State) : Out := .next (s.billet b 0x0305 [])

/-- BACKLIGHT (R118). -/
def execBacklight (b : Billet) (s : State) : Out := .next (s.billet b 0x0306 [])

/-- HARDY_REGION (R119). -/
def execHardyRegion (b : Billet) (s : State) : Out := .next (s.billet b 0x0400 [])

/-- HARDY_WRITE (R120). -/
def execHardyWrite (b : Billet) (s : State) : Out := .next (s.billet b 0x0401 [])

/-- HARDY_COPY (R120). -/
def execHardyCopy (b : Billet) (s : State) : Out := .next (s.billet b 0x0402 [])

/-- HARDY_COMMIT (R263). -/
def execHardyCommit (b : Billet) (s : State) : Out := .next (s.billet b 0x0403 [])

/-- HARDY_ACK (R271). -/
def execHardyAck (b : Billet) (s : State) : Out := .next (s.billet b 0x0404 [])

/-- LIMP_LOAD (R123). -/
def execLimpLoad (b : Billet) (s : State) : Out := .next (s.billet b 0x0405 [])

/-- LIMP_CTRL_FORCE (R124). -/
def execLimpCtrlForce (b : Billet) (s : State) : Out := .next (s.billet b 0x0406 [(0, 1)])

/-- LIMP_CTRL_RELEASE (R124). -/
def execLimpCtrlRelease (b : Billet) (s : State) : Out := .next (s.billet b 0x0406 [(0, 2)])

/-- LIMP_CTRL_REACTIVE (R124). -/
def execLimpCtrlReactive (b : Billet) (s : State) : Out := .next (s.billet b 0x0406 [(0, 0)])

/-- JOB_RASTER (R125). -/
def execJobRaster (b : Billet) (s : State) : Out := .next (s.billet b 0x0500 [])

/-- JOB_COMPUTE (R126). -/
def execJobCompute (b : Billet) (s : State) : Out := .next (s.billet b 0x0501 [])

/-- AUD_ROUTE (R546). -/
def execAudRoute (b : Billet) (s : State) : Out := .next (s.billet b 0x0600 [])

/-- AUD_GAIN (R130). -/
def execAudGain (b : Billet) (s : State) : Out := .next (s.billet b 0x0601 [])

/-- AUD_STREAM_OPEN (R131). -/
def execAudStreamOpen (b : Billet) (s : State) : Out := .next (s.billet b 0x0602 [(0, 1)])

/-- AUD_STREAM_CLOSE (R131). -/
def execAudStreamClose (b : Billet) (s : State) : Out := .next (s.billet b 0x0602 [(0, 2)])

/-- AUD_EQ (R547). -/
def execAudEq (b : Billet) (s : State) : Out := .next (s.billet b 0x0603 [])

/-- AUD_DYN (R548). -/
def execAudDyn (b : Billet) (s : State) : Out := .next (s.billet b 0x0604 [])

/-- CHIME_PLAY (R557). -/
def execChimePlay (b : Billet) (s : State) : Out := .next (s.billet b 0x0605 [])

/-- CHIME_STOP (R134). -/
def execChimeStop (b : Billet) (s : State) : Out := .next (s.billet b 0x0606 [])

/-- AUD_ASSIGN (R128). -/
def execAudAssign (b : Billet) (s : State) : Out := .next (s.billet b 0x0607 [])

/-- TCH_GROUP (R135). -/
def execTchGroup (b : Billet) (s : State) : Out := .next (s.billet b 0x0700 [])

/-- TCH_ENABLE (R136). -/
def execTchEnable (b : Billet) (s : State) : Out := .next (s.billet b 0x0701 [(1, 1)])

/-- TCH_DISABLE (R522). -/
def execTchDisable (b : Billet) (s : State) : Out := .next (s.billet b 0x0701 [(1, 0)])

/-- TCH_REPORTS (R137). -/
def execTchReports (b : Billet) (s : State) : Out := .next (s.billet b 0x0702 [])

/-- HAP_CONFIG (R138). -/
def execHapConfig (b : Billet) (s : State) : Out := .next (s.billet b 0x0703 [])

/-- HAP_PLAY (R139). -/
def execHapPlay (b : Billet) (s : State) : Out := .next (s.billet b 0x0704 [])

/-- HAP_BIND (R140). -/
def execHapBind (b : Billet) (s : State) : Out := .next (s.billet b 0x0705 [])

/-- AVTP_LISTEN (R141). -/
def execAvtpListen (b : Billet) (s : State) : Out := .next (s.billet b 0x0800 [])

/-- AVTP_TALK (R578). -/
def execAvtpTalk (b : Billet) (s : State) : Out := .next (s.billet b 0x0801 [])

/-- AVTP_CLOSE (R143). -/
def execAvtpClose (b : Billet) (s : State) : Out := .next (s.billet b 0x0802 [])

/-- NET_GATE (R144). -/
def execNetGate (b : Billet) (s : State) : Out := .next (s.billet b 0x0803 [])

/-- PAIR_WELD (R432). -/
def execPairWeld (b : Billet) (s : State) : Out := .next (s.billet b 0x0900 [])

/-- PAIR_UNWELD (R455). -/
def execPairUnweld (b : Billet) (s : State) : Out := .next (s.billet b 0x0901 [])

/-- PAIR_SWITCH (R454). -/
def execPairSwitch (b : Billet) (s : State) : Out := .next (s.billet b 0x0902 [])

/-- PAIR_XCHECK (R145). -/
def execPairXcheck (b : Billet) (s : State) : Out := .next (s.billet b 0x0903 [])

/-- PWR_STATE_RUN (R666). -/
def execPwrStateRun (b : Billet) (s : State) : Out := .next (s.billet b 0x0A00 [(0, 0)])

/-- PWR_STATE_HOLD (R667). -/
def execPwrStateHold (b : Billet) (s : State) : Out := .next (s.billet b 0x0A00 [(0, 1)])

/-- PWR_STATE_DAMP (R667). -/
def execPwrStateDamp (b : Billet) (s : State) : Out := .next (s.billet b 0x0A00 [(0, 2)])

/-- PWR_STATE_BANK (R667). -/
def execPwrStateBank (b : Billet) (s : State) : Out := .next (s.billet b 0x0A00 [(0, 3)])

/-- PWR_STATE_EMBER (R667). -/
def execPwrStateEmber (b : Billet) (s : State) : Out := .next (s.billet b 0x0A00 [(0, 4)])

/-- PWR_STATE_ASH (R667). -/
def execPwrStateAsh (b : Billet) (s : State) : Out := .next (s.billet b 0x0A00 [(0, 5)])

/-- PWR_WAKE (R147). -/
def execPwrWake (b : Billet) (s : State) : Out := .next (s.billet b 0x0A01 [])

/-- SLAG_READ (R148). -/
def execSlagRead (b : Billet) (s : State) : Out := .next (s.billet b 0x0B00 [])

/-- SLAG_CLEAR (R149). -/
def execSlagClear (b : Billet) (s : State) : Out := .next (s.billet b 0x0B01 [])

/-- CRC_RUN (R602). -/
def execCrcRun (b : Billet) (s : State) : Out := .next (s.billet b 0x0B02 [])

/-- SELFTEST_TOUCH (R516). -/
def execSelftestTouch (b : Billet) (s : State) : Out := .next (s.billet b 0x0B03 [(0, 0)])

/-- SELFTEST_HAPTIC (R538). -/
def execSelftestHaptic (b : Billet) (s : State) : Out := .next (s.billet b 0x0B03 [(0, 1)])

/-- SELFTEST_CHECK_UNIT (R605). -/
def execSelftestCheckUnit (b : Billet) (s : State) : Out := .next (s.billet b 0x0B03 [(0, 2)])

/-- FAULT_INJECT (R152). -/
def execFaultInject (b : Billet) (s : State) : Out := .next (s.billet b 0x0B04 [])

end Sys2Proof.Machine
end

