-- ==== Sys2Proof/Machine/CruMem.lean ====
section
/-! DEFINITION. The Crucible instructions that reach beyond registers: system (R416), scratch and global memory (R417-R421),
sampling (R387-R389, R422), locks (R423, R424), barriers (R425), and the return of outstanding results (R391). -/
namespace Sys2Proof.Machine

/-! ## Access to memory (R417-R421) -/

/-- The workgroup of a bundle. -/
def State.group (s : State) (b : Bundle) : Option WGroup :=
  if b.kind ≠ 0 then none else s.cru.wgs.find? (fun g => g.slice == b.slice && g.seq == b.seq && g.w == b.wg)
/-- Changes the workgroup of a bundle. -/
def State.modGroup (s : State) (b : Bundle) (f : WGroup → WGroup) : State :=
  s.modCru (fun c => { c with wgs := c.wgs.map (fun g =>
    if g.slice == b.slice && g.seq == b.seq && g.w == b.wg && b.kind == 0 then f g else g) })

/-- The effective offset of a lane (R417): V[A] plus the signed MOD, without wrap. -/
def Ins.offset (i : Ins) (b : Bundle) (l : Nat) : Int := (i.opA b l : Int) + sgn 16 i.md

/-- Bytes of the workgroup's allocation; a shading bundle has none. -/
def State.scrBytes (s : State) (b : Bundle) : Nat := match s.group b with | some g => g.scrKib * 1024 | none => 0

/-- The surface that a global access of a bundle names. -/
def State.accSurf (s : State) (b : Bundle) (i : Ins) : Option Surface :=
  (s.job b.slice b.seq).bind (fun j => s.jobSurf j i.surf)

/-- The first failing check of R419, with its lane: a store in a raster shader, a surface the job may not reach so, alignment,
range. -/
def State.memFault (s : State) (scratch : Bool) (i : Ins) (b : Bundle) : Option (Nat × Nat) :=
  let ls := lanesOf (i.lanes b)
  match ls with
  | [] => none
  | l0 :: _ =>
    let n := sizeBytes i.size
    let end_ := fun l => i.offset b l + n
    let store := i.opc != 0
    let mayStore := match s.job b.slice b.seq with | some j => j.writable i.surf | none => false
    let limit : Nat := if scratch then s.scrBytes b else match s.accSurf b i with | some u => u.bytes | none => 0
    if store && b.kind != 0 then some (0x15, l0)
    else if !scratch && ((s.accSurf b i).isNone || (store && !mayStore)) then some (0x12, l0)
    else match ls.find? (fun l => i.offset b l % n != 0) with
      | some l => some (0x13, l)
      | none => (ls.find? (fun l => i.offset b l < 0 || (limit : Int) < end_ l)).map (fun l => (if scratch then 0x14 else 0x12, l))

/-- Reads `n` bytes of scratch or of the surface named; 128 bits as two halves (R420). -/
def State.memRead (s : State) (scratch : Bool) (i : Ins) (b : Bundle) (off n : Nat) : List Byte × State :=
  if scratch then
    ((match s.group b with | some g => g.scratch.read (some g.seed) off n | none => []), s)
  else match s.accSurf b i with
    | some u =>
      let (lo, s) := s.cluRead b.slice u off (min n 8)
      if n ≤ 8 then (lo, s)
      else
        let (hi, s) := s.cluRead b.slice u (off + 8) 8
        (lo ++ hi, s)
    | none => ([], s)

/-- Writes bytes of scratch or of the surface named. -/
def State.memWrite (s : State) (scratch : Bool) (i : Ins) (b : Bundle) (off : Nat) (bs : List Byte) : State :=
  if scratch then s.modGroup b (fun g => { g with scratch := g.scratch.write (some g.seed) off bs })
  else match s.accSurf b i with
    | some u => s.cluWrite b.slice u.handle off bs
    | none => s

/-- A memory instruction: its faults, then `f`, which gives the bundle that goes on. -/
def State.cruMem (s : State) (core : Fin 48) (scratch : Bool) (opc : Nat) (f : Ins → Bundle → State → Bundle × State) : State :=
  s.cruIssue core (if scratch then 7 else 8) opc (fun i b s =>
    match s.memFault scratch i b with
    | some (code, l) => s.cruFault b code 0 l
    | none =>
      let (b, s) := f i b s
      s.goOn b)

/-- An outstanding return of `count` registers from D. -/
def Bundle.await (b : Bundle) (sample : Bool) (reg count : Nat) (vals : List (Nat × Nat × Word)) : Bundle :=
  if vals.isEmpty then b else { b with pend := b.pend ++ [⟨sample, reg, count, vals⟩] }

/-- The registers that a load of a SIZE code fills, from its bytes (R418). -/
def loadWords (sz : Nat) (bs : List Byte) : List Word :=
  let v := leNat bs
  if sz = 1 then [BitVec.ofNat 32 (unsgn 32 (sgn 8 v))]
  else if sz = 3 then [BitVec.ofNat 32 (unsgn 32 (sgn 16 v))]
  else (List.range (sizeRegs sz)).map (fun k => BitVec.ofNat 32 (bits v (32 * k) 32))

/-- LD (R418): the values are read in ascending lane order and written when they return. -/
def State.cruLoad (s : State) (core : Fin 48) (scratch : Bool) : State :=
  s.cruMem core scratch 0 (fun i b s =>
    let (vals, s) := (lanesOf (i.lanes b)).foldl (fun acc l =>
      let (bs, s) := acc.2.memRead scratch i b (i.offset b l).toNat (sizeBytes i.size)
      (acc.1 ++ (loadWords i.size bs).zipIdx.map (fun e => (i.d + e.2, l, e.1)), s)) (([] : List (Nat × Nat × Word)), s)
    (b.await false i.d (sizeRegs i.size) vals, s))

/-- The bytes that a lane stores (R418). -/
def Ins.storeBytes (i : Ins) (b : Bundle) (l : Nat) : List Byte :=
  ((List.range (sizeRegs i.size)).flatMap (fun k => leBytes 4 (b.r (i.b + k) l))).take (sizeBytes i.size)

/-- ST (R418): lanes store in ascending order (R421). -/
def State.cruStore (s : State) (core : Fin 48) (scratch : Bool) : State :=
  s.cruMem core scratch 1 (fun i b s =>
    (b, (lanesOf (i.lanes b)).foldl (fun s l => s.memWrite scratch i b (i.offset b l).toNat (i.storeBytes b l)) s))

/-- An atomic (R418): lanes act in ascending order, each receiving the value its own saw (R421). `f` gives the new value from
the old one and B and B + 1. -/
def State.cruAtom (s : State) (core : Fin 48) (scratch : Bool) (opc : Nat) (f : Nat → Nat → Nat → Nat) : State :=
  s.cruMem core scratch opc (fun i b s =>
    let (vals, s) := (lanesOf (i.lanes b)).foldl (fun acc l =>
      let off := (i.offset b l).toNat
      let (bs, s) := acc.2.memRead scratch i b off 4
      let s := s.memWrite scratch i b off (leBytes 4 (f (leNat bs) (b.r i.b l) (b.r (i.b + 1) l)))
      (acc.1 ++ [(i.d, l, BitVec.ofNat 32 (leNat bs))], s)) (([] : List (Nat × Nat × Word)), s)
    (b.await false i.d 1 vals, s))

/-- Load from scratch (R418). -/
def execCruLdScratch (core : Fin 48) (s : State) : Out := .next (s.cruLoad core true)
/-- Store to scratch (R418). -/
def execCruStScratch (core : Fin 48) (s : State) : Out := .next (s.cruStore core true)
/-- Load from a surface (R418). -/
def execCruLdGlobal (core : Fin 48) (s : State) : Out := .next (s.cruLoad core false)
/-- Store to a surface (R418). -/
def execCruStGlobal (core : Fin 48) (s : State) : Out := .next (s.cruStore core false)

/-! ## Atomics: the new value from old, B and B + 1 (R418) -/

/-- Addition. -/
def atomAdd : Nat → Nat → Nat → Nat := fun o b _ => (o + b) % 2 ^ 32
/-- Signed minimum. -/
def atomSmin : Nat → Nat → Nat → Nat := fun o b _ => if sgn 32 o ≤ sgn 32 b then o else b
/-- Signed maximum. -/
def atomSmax : Nat → Nat → Nat → Nat := fun o b _ => if sgn 32 o ≤ sgn 32 b then b else o
/-- Unsigned minimum. -/
def atomUmin : Nat → Nat → Nat → Nat := fun o b _ => min o b
/-- Unsigned maximum. -/
def atomUmax : Nat → Nat → Nat → Nat := fun o b _ => max o b
/-- AND. -/
def atomAnd : Nat → Nat → Nat → Nat := fun o b _ => o &&& b
/-- OR. -/
def atomOr : Nat → Nat → Nat → Nat := fun o b _ => o ||| b
/-- XOR. -/
def atomXor : Nat → Nat → Nat → Nat := fun o b _ => o ^^^ b
/-- Exchange. -/
def atomExch : Nat → Nat → Nat → Nat := fun _ b _ => b
/-- Compare and swap. -/
def atomCas : Nat → Nat → Nat → Nat := fun o b c => if o = b then c else o
/-- FP32 addition. -/
def atomFadd : Nat → Nat → Nat → Nat := fun o b _ => fadd o b
/-- Scratch atomic addition (R418). -/
def execCruScratchAtomAdd (core : Fin 48) (s : State) : Out := .next (s.cruAtom core true 0x2 atomAdd)
/-- Scratch atomic signed minimum (R418). -/
def execCruScratchAtomSmin (core : Fin 48) (s : State) : Out := .next (s.cruAtom core true 0x3 atomSmin)
/-- Scratch atomic signed maximum (R418). -/
def execCruScratchAtomSmax (core : Fin 48) (s : State) : Out := .next (s.cruAtom core true 0x4 atomSmax)
/-- Scratch atomic unsigned minimum (R418). -/
def execCruScratchAtomUmin (core : Fin 48) (s : State) : Out := .next (s.cruAtom core true 0x5 atomUmin)
/-- Scratch atomic unsigned maximum (R418). -/
def execCruScratchAtomUmax (core : Fin 48) (s : State) : Out := .next (s.cruAtom core true 0x6 atomUmax)
/-- Scratch atomic AND (R418). -/
def execCruScratchAtomAnd (core : Fin 48) (s : State) : Out := .next (s.cruAtom core true 0x7 atomAnd)
/-- Scratch atomic OR (R418). -/
def execCruScratchAtomOr (core : Fin 48) (s : State) : Out := .next (s.cruAtom core true 0x8 atomOr)
/-- Scratch atomic XOR (R418). -/
def execCruScratchAtomXor (core : Fin 48) (s : State) : Out := .next (s.cruAtom core true 0x9 atomXor)
/-- Scratch atomic exchange (R418). -/
def execCruScratchAtomExch (core : Fin 48) (s : State) : Out := .next (s.cruAtom core true 0xa atomExch)
/-- Scratch atomic compare and swap (R418). -/
def execCruScratchAtomCas (core : Fin 48) (s : State) : Out := .next (s.cruAtom core true 0xb atomCas)
/-- Scratch atomic FP32 addition (R418). -/
def execCruScratchAtomFadd (core : Fin 48) (s : State) : Out := .next (s.cruAtom core true 0xc atomFadd)
/-- Global atomic addition (R418). -/
def execCruGlobalAtomAdd (core : Fin 48) (s : State) : Out := .next (s.cruAtom core false 0x2 atomAdd)
/-- Global atomic signed minimum (R418). -/
def execCruGlobalAtomSmin (core : Fin 48) (s : State) : Out := .next (s.cruAtom core false 0x3 atomSmin)
/-- Global atomic signed maximum (R418). -/
def execCruGlobalAtomSmax (core : Fin 48) (s : State) : Out := .next (s.cruAtom core false 0x4 atomSmax)
/-- Global atomic unsigned minimum (R418). -/
def execCruGlobalAtomUmin (core : Fin 48) (s : State) : Out := .next (s.cruAtom core false 0x5 atomUmin)
/-- Global atomic unsigned maximum (R418). -/
def execCruGlobalAtomUmax (core : Fin 48) (s : State) : Out := .next (s.cruAtom core false 0x6 atomUmax)
/-- Global atomic AND (R418). -/
def execCruGlobalAtomAnd (core : Fin 48) (s : State) : Out := .next (s.cruAtom core false 0x7 atomAnd)
/-- Global atomic OR (R418). -/
def execCruGlobalAtomOr (core : Fin 48) (s : State) : Out := .next (s.cruAtom core false 0x8 atomOr)
/-- Global atomic XOR (R418). -/
def execCruGlobalAtomXor (core : Fin 48) (s : State) : Out := .next (s.cruAtom core false 0x9 atomXor)
/-- Global atomic exchange (R418). -/
def execCruGlobalAtomExch (core : Fin 48) (s : State) : Out := .next (s.cruAtom core false 0xa atomExch)
/-- Global atomic compare and swap (R418). -/
def execCruGlobalAtomCas (core : Fin 48) (s : State) : Out := .next (s.cruAtom core false 0xb atomCas)
/-- Global atomic FP32 addition (R418). -/
def execCruGlobalAtomFadd (core : Fin 48) (s : State) : Out := .next (s.cruAtom core false 0xc atomFadd)

/-! ## Sampling (R387-R389, R422) -/

/-- An address mode applied to a texel index (R389). -/
def addrMode (mode : Nat) (w : Nat) (i : Int) : Nat :=
  if mode = 0 then (clampI 0 ((w : Int) - 1) i).toNat
  else if mode = 1 then (i % (w : Int)).toNat
  else
    let m := (i % (2 * w : Int)).toNat
    if m < w then m else 2 * w - 1 - m

/-- Position on one axis (R389): the two texel indices before the address mode, and the fraction. -/
def samplePos (bilinear : Bool) (size u : Nat) : Int × Int × Nat :=
  let u := if f32.dec u = .nan then 0 else u
  let xs := fclamp 0xCA800000 0x4A800000 (fsub (fmul u (fOfInt size)) 0x3F000000)
  let x := sgn 32 (f2i .near false (fmul xs 0x43800000))
  if bilinear then (x.fdiv 256, x.fdiv 256 + 1, (x % 256).toNat) else ((x + 128).fdiv 256, (x + 128).fdiv 256 + 1, 0)

/-- The exact filter of R389. -/
def filter4 (fx fy t00 t10 t01 t11 : Nat) : Nat :=
  ((256 - fx) * (256 - fy) * t00 + fx * (256 - fy) * t10 + (256 - fx) * fy * t01 + fx * fy * t11 + 32768) >>> 16

/-- A sampler word breaks R387 for this surface; FETCH takes FILTER 0 only. -/
def samplerBad (fetch : Bool) (u : Option Surface) (w : Nat) : Bool :=
  w / 128 != 0 || bits w 3 2 == 3 || bits w 5 2 == 3 || (fetch && w.testBit 2) ||
  match u with
  | none => true
  | some u => !sampled u.format || (w.testBit 2 && !layerFormat u.format)

/-- The surface that SURF of a sampler word names: TEX0-TEX2 or BIND0-BIND3. -/
def State.texSurf (s : State) (b : Bundle) (w : Nat) : Option Surface :=
  (s.job b.slice b.seq).bind (fun j => if j.ras.isSome && bits w 0 2 = 3 then none else s.jobSurf j (4 + bits w 0 2))

/-- The four FP32 values of R388 for texels read through the cache window. -/
def State.sampleAt (s : State) (n : Nat) (u : Surface) (w fx fy : Nat) (i0 i1 j0 j1 : Int) : List Word × State :=
  let b := bpp u.format
  let texel := fun (s : State) (i j : Int) =>
    let (bs, s) := s.cluRead n u (u.pixelOff (addrMode (bits w 3 2) u.width i) (addrMode (bits w 5 2) u.height j)) b
    (leNat bs, s)
  let (a00, s) := texel s i0 j0
  if layerFormat u.format then
    let (a10, s) := if fx = 0 then (a00, s) else texel s i1 j0
    let (a01, s) := if fy = 0 then (a00, s) else texel s i0 j1
    let (a11, s) := if fx = 0 || fy = 0 then (a00, s) else texel s i1 j1
    let p := fun v => unpack u.format v
    let c := fun (g : Px → Nat) => filter4 fx fy (g (p a00)) (g (p a10)) (g (p a01)) (g (p a11))
    let n10 := fun v => BitVec.ofNat 32 (fdiv (fOfInt (v : Nat)) (fOfInt 1023))
    ([n10 (c Px.r), n10 (c Px.g), n10 (c Px.b), BitVec.ofNat 32 (fdiv (fOfInt (c Px.a : Nat)) (fOfInt 255))], s)
  else if u.format = 0x21 then
    ([BitVec.ofNat 32 (convFmt f16 f32 (bits a00 0 16)), BitVec.ofNat 32 (convFmt f16 f32 (bits a00 16 16)), 0,
      BitVec.ofNat 32 fOne], s)
  else ([BitVec.ofNat 32 a00, 0, 0, BitVec.ofNat 32 fOne], s)

/-- SAMPLE and FETCH (R422): one request per active lane. -/
def State.cruSample (s : State) (core : Fin 48) (fetch : Bool) : State :=
  s.cruIssue core 9 (b2n fetch) (fun i b s =>
    let ls := lanesOf (i.lanes b)
    let word := fun l => if i.form then i.imm else b.r i.c l
    match ls.find? (fun l => samplerBad fetch (s.texSurf b (word l)) (word l)) with
    | some l => s.cruFault b 0x20 2 l
    | none =>
      let (vals, s) := ls.foldl (fun acc l =>
        match acc.2.texSurf b (word l) with
        | none => acc
        | some u =>
          let x := b.r i.a l; let y := b.r (i.a + 1) l
          let px := if fetch then (sgn 32 x, sgn 32 x, 0) else samplePos ((word l).testBit 2) u.width x
          let py := if fetch then (sgn 32 y, sgn 32 y, 0) else samplePos ((word l).testBit 2) u.height y
          let (v, s) := acc.2.sampleAt b.slice u (word l) px.2.2 py.2.2 px.1 px.2.1 py.1 py.2.1
          (acc.1 ++ v.zipIdx.map (fun e => (i.d + e.2, l, e.1)), s)) (([] : List (Nat × Nat × Word)), s)
      s.goOn (b.await true i.d 4 vals))

/-- Filtered sample (R389, R422). -/
def execCruSample (core : Fin 48) (s : State) : Out := .next (s.cruSample core false)
/-- Unfiltered fetch (R422). -/
def execCruFetch (core : Fin 48) (s : State) : Out := .next (s.cruSample core true)

/-! ## Locks (R423, R424) -/

/-- A lock instruction, carried out by the lowest active lane: lock number and lane. A number above 63 faults. -/
def State.cruLock (s : State) (core : Fin 48) (opc : Nat) (f : Ins → Bundle → Nat → Nat → State → State) : State :=
  s.cruIssue core 10 opc (fun i b s =>
    match lanesOf (i.lanes b) with
    | [] => s.goOn b
    | l :: _ =>
      let k := if i.form then i.imm else b.r i.a l
      if 63 < k then s.cruFault b 0x10 0 l else f i b k l s)

/-- ACQ: the strand takes a free lock, or the bundle waits for it (R423). -/
def execCruAcq (core : Fin 48) (s : State) : Out :=
  .next (s.cruLock core 0 (fun _ b k l s =>
    match (s.lock k).holder with
    | .none => (s.modLock k (fun x => { x with holder := .strand (b.strand l) })).goOn b
    | _ =>
      (s.modLock k (fun x => { x with
        strands := x.strands ++ [b.strand l], waiting := if x.waiting.contains 3 then x.waiting else x.waiting ++ [3] })).goOn
        { b with st := .lock k l }))

/-- TRY: a free lock is taken, and a predicate says so in the active lanes (R423). -/
def execCruTry (core : Fin 48) (s : State) : Out :=
  .next (s.cruLock core 1 (fun i b k l s =>
    let free := (s.lock k).holder == .none
    let s := if free then s.modLock k (fun x => { x with holder := .strand (b.strand l) }) else s
    s.goOn (b.setPred i.d (mergeMask (b.pred i.d) (i.lanes b) (fun _ => free)))))

/-- REL: the strand's lock is freed and passed on; a lock that it does not hold faults (R423, R583). -/
def execCruRel (core : Fin 48) (s : State) : Out :=
  .next (s.cruLock core 2 (fun _ b k l s =>
    if (s.lock k).holder = .strand (b.strand l) then (s.modLock k Lock.release).goOn b else s.cruFault b 0x17 0 l))

/-! ## Barrier (R425) -/

/-- BAR: the bundle waits until every bundle of its workgroup has arrived; then all go on in the next generation. -/
def execCruBar (core : Fin 48) (s : State) : Out :=
  .next (s.cruIssue core 11 0 (fun _ b s =>
    match s.job b.slice b.seq, s.group b with
    | some j, some g =>
      if b.exec != b.live || g.exited then s.cruFault b 0x16 0 (lowLane b.live)
      else
        let s := s.goOn { b with st := .barrier }
        if g.barCount + 1 = j.groupBundles then
          (s.modGroup b (fun g => { g with barCount := 0, barGen := (g.barGen + 1) % 256 })).modCru (fun c => { c with
            bundles := c.bundles.map (fun x =>
              if x.slice == b.slice && x.seq == b.seq && x.kind == 0 && x.wg == b.wg && x.st == .barrier then { x with st := .ready }
              else x) })
        else s.modGroup b (fun g => { g with barCount := g.barCount + 1 })
    | _, _ => s.cruFault b 0x10 0 (lowLane b.live)))

/-! ## System (R416) -/

/-- NOP. -/
def execCruSysNop (core : Fin 48) (s : State) : Out := .next (s.cruIssue core 0 0 (fun _ b s => s.goOn b))
/-- HDR executes as a no-operation (R381). -/
def execCruHdr (core : Fin 48) (s : State) : Out := .next (s.cruIssue core 0 1 (fun _ b s => s.goOn b))
/-- FENCE: the bundle has waited until its earlier accesses are complete (R420). -/
def execCruFence (core : Fin 48) (s : State) : Out := .next (s.cruIssue core 0 6 (fun _ b s => s.goOn b))
/-- TRAP faults when a lane is active (R395). -/
def execCruTrap (core : Fin 48) (s : State) : Out :=
  .next (s.cruIssue core 0 4 (fun i b s => if i.lanes b = 0 then s.goOn b else s.cruFault b 0x18 0 (lowLane (i.lanes b))))

/-- The value of a selector in a lane (R416). -/
def State.special (s : State) (b : Bundle) (sel l : Nat) : Nat :=
  match s.job b.slice b.seq with
  | none => 0
  | some j =>
    let comp := fun v => if b.kind = 0 then v else 0
    let g := s.group b
    let ofG := fun (f : WGroup → Nat) => match g with | some g => f g | none => 0
    if 0x10 ≤ sel then (match s.jobSurf j (sel - 0x10) with | some u => u.bytes | none => 0)
    else match sel with
      | 0 => l
      | 1 => comp (16 * b.idx + l)
      | 2 => comp b.idx
      | 3 => comp j.groupSize
      | 4 => ofG WGroup.x
      | 5 => ofG WGroup.y
      | 6 => ofG WGroup.z
      | 7 => comp j.grid.1
      | 8 => comp j.grid.2.1
      | 9 => comp j.grid.2.2
      | 0xA => ofG (fun g => g.scrKib * 1024)
      | 0xB => b.slice
      | 0xC => b.kind
      | 0xD => if b.kind = 2 then (match b.px[l]? with | some f => b2n (!f.live) | none => 0) else 0
      | 0xE => b.core
      | _ => j.quanta + 1

/-- SREAD (R416). -/
def execCruSread (core : Fin 48) (s : State) : Out :=
  .next (s.cruIssue core 0 5 (fun i b s => s.goOn (b.w i.d (lanesOf (i.lanes b)) (fun l => s.special b i.imm l))))

/-- The outputs that a shading lane's exit delivers (R404). -/
def Bundle.output (b : Bundle) (count l : Nat) : List Word := (List.range count).map (fun r => b.v.get r l)

/-- A shading bundle whose lanes have all gone: its outputs join the draw, and the draw goes on (R368, R404). -/
def State.shadingDone (s : State) (b : Bundle) : State :=
  let s := s.modCru (fun c => { c with bundles := c.bundles.filter (fun x => !x.at_ b.slice b.core b.slot) })
  match s.job b.slice b.seq with
  | none => s
  | some j =>
    let s := s.putDraw j (fun d =>
      if b.kind = 1 then { d with verts := d.verts ++ b.outs.map (fun o => (b.idx + o.1, o.2)) }
      else { d with done := d.done ++ b.outs.filterMap (fun o =>
        match b.px[o.1]? with
        | some f => if f.live then some (f, o.2) else none
        | none => none) })
    s.rasAdvance b.slice b.seq

/-- A compute bundle whose lanes have all exited: its workgroup ends with its last bundle, the job with its last workgroup. -/
def State.computeDone (s : State) (b : Bundle) : State :=
  let s := s.putBundle { b with st := .exited, pend := [] }
  let mine := fun (x : Bundle) => x.slice == b.slice && x.seq == b.seq && x.kind == 0 && x.wg == b.wg
  if s.cru.bundles.all (fun x => !mine x || x.st == .exited) then
    let s := s.modCru (fun c => { c with
      bundles := c.bundles.filter (fun x => !mine x)
      wgs := c.wgs.filter (fun g => !(g.slice == b.slice && g.seq == b.seq && g.w == b.wg)) })
    match s.job b.slice b.seq with
    | some j =>
      if j.next = j.groups && s.cru.wgs.all (fun g => !(g.slice == b.slice && g.seq == b.seq)) then
        s.endJob b.slice b.seq S_DONE ((j.quanta + 1) % 2 ^ 32)
      else s
    | none => s
  else s

/-- Lanes leave LIVE and EXEC; the locks of their strands are freed (R424); the bundle exits when LIVE becomes 0. -/
def State.leave (s : State) (b : Bundle) (m : BitVec 16) (deliver : Bool) : State :=
  if m = 0 then s.goOn b
  else
    let s := s.forceStrands (fun t => b.owns t && m.getLsbD t.lane)
    let outs := if deliver && b.kind != 0 then (lanesOf m).map (fun l => (l, b.output (s.exitReads b) l)) else []
    let b := { b with exec := b.exec &&& ~~~m, live := b.live &&& ~~~m, outs := b.outs ++ outs }
    let s := s.modGroup b (fun g => { g with exited := true })
    if b.live != 0 then s.goOn b
    else if b.kind = 0 then s.computeDone { b with pc := b.pc + 8 }
    else s.shadingDone b

/-- EXIT (R404). -/
def execCruExit (core : Fin 48) (s : State) : Out :=
  .next (s.cruIssue core 0 2 (fun i b s => s.leave b (i.lanes b) true))

/-- A fragment shader whose SHADERS FLAGS allow discard. -/
def State.mayDiscard (s : State) (b : Bundle) : Bool :=
  b.kind == 2 && match (s.job b.slice b.seq).bind (·.ras) with
    | some r => match r.sh with
      | some h => h.flags.testBit 1
      | none => false
    | none => false

/-- DISCARD: the fragments of the lanes are killed (R404). -/
def execCruDiscard (core : Fin 48) (s : State) : Out :=
  .next (s.cruIssue core 0 3 (fun i b s =>
    if s.mayDiscard b then s.leave b (i.lanes b) false else s.cruFault b 0x10 0 (lowLane b.live)))

/-! ## Returns (R391) -/

/-- MEMORY_RETURN: the oldest outstanding result of a bundle is written into its slice's partition, whichever slice runs
(R391). `bad`: DRAM delivers an uncorrectable word, which ends the job with E_DATA (R373, R396). -/
def execMemoryReturn (slice : Fin 16) (core : Fin 48) (slot : Fin 64) (bad : Bool) (s : State) : Out :=
  .next (
    match s.bundle slice.val core.val slot.val with
    | none => s
    | some b =>
      match b.pend with
      | [] => s
      | p :: ps =>
        if bad then (s.slagErr 2 slice.val 0x01).endJobOpen b.slice b.seq E_DATA
        else s.putBundle { b with pend := ps, v := p.vals.foldl (fun v e => VRegs.put v e.1 e.2.1 e.2.2) b.v })

end Sys2Proof.Machine
end

