-- ==== Sys2Proof/Machine/CruVec.lean ====
section
/-! DEFINITION. The Crucible instructions that act on registers, predicates and masks alone: vector integer, FP32, packed
FP16, conversion, mask and lane, branch (R408-R415). One instruction of the core named, by the bundle that R378 chooses. -/
namespace Sys2Proof.Machine

/-- A 32-bit result. -/
def w32 (x : Nat) : Nat := x % 2 ^ 32
/-- A 32-bit code as a signed number. -/
def s32 (x : Nat) : Int := sgn 32 x

/-! ## Vector integer -/

/-- D = B (R408). -/
def execCruMov (core : Fin 48) (s : State) : Out := .next (s.cruBin core 2 0x0 (fun _ b => b))
/-- A + B (R408). -/
def execCruIadd (core : Fin 48) (s : State) : Out := .next (s.cruBin core 2 0x1 (fun a b => w32 (a + b)))
/-- A − B (R408). -/
def execCruIsub (core : Fin 48) (s : State) : Out := .next (s.cruBin core 2 0x2 (fun a b => w32 (a + (2 ^ 32 - b))))
/-- Low word of A × B (R408). -/
def execCruImul (core : Fin 48) (s : State) : Out := .next (s.cruBin core 2 0x3 (fun a b => w32 (a * b)))
/-- High word of A × B, unsigned (R408). -/
def execCruImulhiU (core : Fin 48) (s : State) : Out := .next (s.cruBin core 2 0x4 (fun a b => a * b / 2 ^ 32))
/-- High word of A × B, signed (R408). -/
def execCruImulhiS (core : Fin 48) (s : State) : Out := .next (s.cruBin core 2 0x5 (fun a b => unsgn 32 ((s32 a * s32 b).fdiv (2 ^ 32))))
/-- Low word of A × B + C (R408). -/
def execCruImad (core : Fin 48) (s : State) : Out :=
  .next (s.cruVec core 2 0x06 (fun i b l => w32 (i.opA b l * i.opB b l + i.opC b l)))
/-- A & B (R408). -/
def execCruAnd (core : Fin 48) (s : State) : Out := .next (s.cruBin core 2 0x7 (fun a b => a &&& b))
/-- A | B (R408). -/
def execCruOr (core : Fin 48) (s : State) : Out := .next (s.cruBin core 2 0x8 (fun a b => a ||| b))
/-- A ^ B (R408). -/
def execCruXor (core : Fin 48) (s : State) : Out := .next (s.cruBin core 2 0x9 (fun a b => a ^^^ b))
/-- A & ~B (R408). -/
def execCruAndn (core : Fin 48) (s : State) : Out := .next (s.cruBin core 2 0xa (fun a b => a &&& (2 ^ 32 - 1 - b)))
/-- A << B[4:0] (R408). -/
def execCruShl (core : Fin 48) (s : State) : Out := .next (s.cruBin core 2 0xb (fun a b => w32 (a <<< (b % 32))))
/-- A >> B[4:0], logical (R408). -/
def execCruShr (core : Fin 48) (s : State) : Out := .next (s.cruBin core 2 0xc (fun a b => a >>> (b % 32)))
/-- A >> B[4:0], arithmetic (R408). -/
def execCruSar (core : Fin 48) (s : State) : Out := .next (s.cruBin core 2 0xd (fun a b => unsgn 32 ((s32 a).fdiv (2 ^ (b % 32)))))
/-- Signed minimum (R408). -/
def execCruIminS (core : Fin 48) (s : State) : Out := .next (s.cruBin core 2 0xe (fun a b => if s32 a ≤ s32 b then a else b))
/-- Signed maximum (R408). -/
def execCruImaxS (core : Fin 48) (s : State) : Out := .next (s.cruBin core 2 0xf (fun a b => if s32 a ≤ s32 b then b else a))
/-- Unsigned minimum (R408). -/
def execCruIminU (core : Fin 48) (s : State) : Out := .next (s.cruBin core 2 0x10 (fun a b => min a b))
/-- Unsigned maximum (R408). -/
def execCruImaxU (core : Fin 48) (s : State) : Out := .next (s.cruBin core 2 0x11 (fun a b => max a b))

/-- Writes P[PD] in the active lanes from a test of each lane (R411). -/
def State.cruCmp (s : State) (core : Fin 48) (cls opc : Nat) (f : Ins → Bundle → Nat → Bool) : State :=
  s.cruIssue core cls opc (fun i b s => s.goOn (b.setPred i.pd (mergeMask (b.pred i.pd) (i.lanes b) (f i b))))

/-- The order of two integers. -/
def cmpInt (a b : Int) : Option Int := some (if a < b then -1 else if a = b then 0 else 1)

/-- Integer compare, unsigned with U (R411). -/
def execCruIsetp (core : Fin 48) (s : State) : Out :=
  .next (s.cruCmp core 2 0x12 (fun i b l =>
    condHolds i.cond (if i.d.testBit 5 then cmpInt (i.opA b l) (i.opB b l) else cmpInt (s32 (i.opA b l)) (s32 (i.opB b l)))))

/-- P[C] ? A : B (R408). -/
def execCruSel (core : Fin 48) (s : State) : Out :=
  .next (s.cruVec core 2 0x13 (fun i b l => if (b.pred i.c).getLsbD l then i.opA b l else i.opB b l))

/-- The descriptor of BFE and BFI has a reserved bit at 1, or a width above 32. -/
def fieldBad (x : Nat) : Bool := bits x 5 3 != 0 || bits x 14 18 != 0 || 32 < bits x 8 6

/-- Bit-field extract; with MOD[0] the field's top bit is extended (R408). -/
def execCruBfe (core : Fin 48) (s : State) : Out :=
  .next (s.cruVec core 2 0x14 (fun i b l =>
    let x := i.opB b l
    let v := bits (i.opA b l >>> (x % 32)) 0 (bits x 8 6)
    if i.md.testBit 0 && bits x 8 6 != 0 then unsgn 32 (sgn (bits x 8 6) v) else v)
    (fun i b l => fieldBad (i.opB b l)))

/-- Bit-field insert (R408). -/
def execCruBfi (core : Fin 48) (s : State) : Out :=
  .next (s.cruVec core 2 0x15 (fun i b l =>
    let x := i.opB b l
    w32 (putBits (i.opC b l) (x % 32) (min (bits x 8 6) (32 - x % 32)) (i.opA b l)))
    (fun i b l => fieldBad (i.opB b l)))

/-- Number of 1 bits (R408). -/
def execCruPopc (core : Fin 48) (s : State) : Out := .next (s.cruVec core 2 0x16 (fun i b l => popCount 32 (i.opA b l)))
/-- Leading zeros (R408). -/
def execCruClz (core : Fin 48) (s : State) : Out :=
  .next (s.cruVec core 2 0x17 (fun i b l => let a := i.opA b l; if a = 0 then 32 else 31 - Nat.log2 a))
/-- Bit reversal (R408). -/
def execCruBrev (core : Fin 48) (s : State) : Out :=
  .next (s.cruVec core 2 0x18 (fun i b l => maskOf ((maskList 32 (i.opA b l)).map (31 - ·))))

/-! ## FP32 -/

/-- A + B (R412). -/
def execCruFadd (core : Fin 48) (s : State) : Out := .next (s.cruFp core 0x0 (fun a b _ => f32.enc (a.add b)))
/-- A − B (R412). -/
def execCruFsub (core : Fin 48) (s : State) : Out := .next (s.cruFp core 0x1 (fun a b _ => f32.enc (a.add b.neg)))
/-- A × B (R412). -/
def execCruFmul (core : Fin 48) (s : State) : Out := .next (s.cruFp core 0x2 (fun a b _ => f32.enc (a.mul b)))
/-- A × B + C with one rounding (R412). -/
def execCruFfma (core : Fin 48) (s : State) : Out := .next (s.cruFp core 0x3 (fun a b c => f32.enc ((a.mul b).add c)))
/-- The smaller (R413). -/
def execCruFmin (core : Fin 48) (s : State) : Out := .next (s.cruFp core 0x4 (fun a b _ => f32.enc (FV.minMax false a b)))
/-- The larger (R413). -/
def execCruFmax (core : Fin 48) (s : State) : Out := .next (s.cruFp core 0x5 (fun a b _ => f32.enc (FV.minMax true a b)))
/-- FP32 compare (R411). -/
def execCruFsetp (core : Fin 48) (s : State) : Out :=
  .next (s.cruCmp core 3 0x6 (fun i b l => condHolds i.cond ((i.fA b l).cmp (i.fB b l))))
/-- A / B (R412). -/
def execCruFdiv (core : Fin 48) (s : State) : Out := .next (s.cruFp core 0x7 (fun a b _ => f32.div a b))
/-- 1 / A (R412). -/
def execCruFrcp (core : Fin 48) (s : State) : Out := .next (s.cruFp core 0x8 (fun a _ _ => f32.div (.fin false 1 0) a))
/-- √A (R412, R413). -/
def execCruFsqrt (core : Fin 48) (s : State) : Out := .next (s.cruFp core 0x9 (fun a _ _ => f32.sqrt a))
/-- 1 / √A, rounded once (R412, R413). -/
def execCruFrsq (core : Fin 48) (s : State) : Out := .next (s.cruFp core 0xa (fun a _ _ => f32.rsqrt a))
/-- Largest integer value not above A (R413). -/
def execCruFfloor (core : Fin 48) (s : State) : Out := .next (s.cruFp core 0xb (fun a _ _ => f32.integral .down a))
/-- Smallest integer value not below A (R413). -/
def execCruFceil (core : Fin 48) (s : State) : Out := .next (s.cruFp core 0xc (fun a _ _ => f32.integral .up a))
/-- A rounded toward zero (R413). -/
def execCruFtrunc (core : Fin 48) (s : State) : Out := .next (s.cruFp core 0xd (fun a _ _ => f32.integral .zero a))
/-- A rounded to nearest, ties to even (R413). -/
def execCruFrint (core : Fin 48) (s : State) : Out := .next (s.cruFp core 0xe (fun a _ _ => f32.integral .near a))
/-- A − FFLOOR(A), rounded once; ∞ gives NaN; a zero result keeps the sign of A (R413). -/
def fract (a : FV) : Nat :=
  match a with
  | .inf _ => f32.nanCode
  | v =>
    match v.add (f32.dec (f32.integral .down v)).neg with
    | .fin t m e => if m = 0 then f32.enc (.fin v.sign 0 0) else f32.enc (.fin t m e)
    | x => f32.enc x
/-- Fractional part (R413). -/
def execCruFfract (core : Fin 48) (s : State) : Out := .next (s.cruFp core 0xf (fun a _ _ => fract a))

/-! ## Packed FP16 -/

/-- Per half A + B (R414). -/
def execCruHadd2 (core : Fin 48) (s : State) : Out := .next (s.cruHalf core 0x0 (fun a b _ => f16.enc (a.add b)))
/-- Per half A − B (R414). -/
def execCruHsub2 (core : Fin 48) (s : State) : Out := .next (s.cruHalf core 0x1 (fun a b _ => f16.enc (a.add b.neg)))
/-- Per half A × B (R414). -/
def execCruHmul2 (core : Fin 48) (s : State) : Out := .next (s.cruHalf core 0x2 (fun a b _ => f16.enc (a.mul b)))
/-- Per half A × B + C with one rounding (R414). -/
def execCruHfma2 (core : Fin 48) (s : State) : Out := .next (s.cruHalf core 0x3 (fun a b c => f16.enc ((a.mul b).add c)))
/-- Per half the smaller (R414). -/
def execCruHmin2 (core : Fin 48) (s : State) : Out := .next (s.cruHalf core 0x4 (fun a b _ => f16.enc (FV.minMax false a b)))
/-- Per half the larger (R414). -/
def execCruHmax2 (core : Fin 48) (s : State) : Out := .next (s.cruHalf core 0x5 (fun a b _ => f16.enc (FV.minMax true a b)))
/-- Packed compare: P[PD] from the low halves, P[PD ^ 1] from the high halves (R414). -/
def execCruHsetp2 (core : Fin 48) (s : State) : Out :=
  .next (s.cruIssue core 4 0x6 (fun i b s =>
    let f := fun hi l => condHolds i.cond ((i.hA b l hi).cmp (i.hB b l hi))
    let b1 := b.setPred i.pd (mergeMask (b.pred i.pd) (i.lanes b) (f false))
    s.goOn (b1.setPred (i.pd ^^^ 1) (mergeMask (b.pred (i.pd ^^^ 1)) (i.lanes b) (f true)))))

/-- A.lo × B.lo + A.hi × B.hi + C as one exact sum, rounded once to binary32 (R414). -/
def execCruHdot2 (core : Fin 48) (s : State) : Out :=
  .next (s.cruVec core 4 0x7 (fun i b l =>
    satMod f32 i.md (f32.enc ((((i.hA b l false).mul (i.hB b l false)).add ((i.hA b l true).mul (i.hB b l true))).add (i.fC b l)))))

/-! ## Conversion -/

/-- FP32 to integer, saturating (R413 table, R412). -/
def execCruF2i (core : Fin 48) (s : State) : Out :=
  .next (s.cruVec core 5 0 (fun i b l =>
    f2i (match bits i.md 0 2 with | 0 => .near | 1 => .zero | 2 => .down | _ => .up) (i.md.testBit 2) (i.opA b l)))
/-- Integer to FP32 (R412). -/
def execCruI2f (core : Fin 48) (s : State) : Out :=
  .next (s.cruVec core 5 1 (fun i b l => fOfInt (if i.md.testBit 2 then (i.opA b l : Int) else s32 (i.opA b l))))
/-- FP32 into one half of D (R412). -/
def execCruF2h (core : Fin 48) (s : State) : Out :=
  .next (s.cruVec core 5 2 (fun i b l =>
    putBits (b.r i.d l) (if i.md.testBit 3 then 16 else 0) 16 (convFmt f32 f16 (i.opA b l))))
/-- One half widened to FP32 (R412). -/
def execCruH2f (core : Fin 48) (s : State) : Out :=
  .next (s.cruVec core 5 3 (fun i b l => convFmt f16 f32 (half (i.md.testBit 3) (i.opA b l))))
/-- W of F2UN and UN2F: 1-16 in four bits, 0 standing for 16 (DEDUCED). -/
def Ins.unW (i : Ins) : Nat := if bits i.md 4 4 = 0 then 16 else bits i.md 4 4
/-- FP32 to an unsigned normalised integer (R364). -/
def execCruF2un (core : Fin 48) (s : State) : Out := .next (s.cruVec core 5 4 (fun i b l => f2un i.unW (i.opA b l)))
/-- Unsigned normalised integer to FP32 (R388). -/
def execCruUn2f (core : Fin 48) (s : State) : Out := .next (s.cruVec core 5 5 (fun i b l => un2f i.unW (i.opA b l)))

/-! ## Mask and lane -/

/-- An instruction on the whole bundle. -/
def State.cruMask (s : State) (core : Fin 48) (cls opc : Nat) (f : Ins → Bundle → Bundle) : State :=
  s.cruIssue core cls opc (fun i b s => s.goOn (f i b))

/-- Predicate logic by truth table, in all 16 lanes (R408). -/
def execCruPlop (core : Fin 48) (s : State) : Out :=
  .next (s.cruMask core 1 0 (fun i b => b.setPred i.d (laneMask ((List.range 16).filter (fun l =>
    i.md.testBit (b2n ((b.pred i.a).getLsbD l) + 2 * b2n ((b.pred i.b).getLsbD l) + 4 * b2n ((b.pred i.c).getLsbD l)))))))
/-- V[D] takes EXEC in every live lane (R408). -/
def execCruXsave (core : Fin 48) (s : State) : Out :=
  .next (s.cruMask core 1 1 (fun i b => b.w i.d (lanesOf b.live) (fun _ => b.exec.toNat)))
/-- EXEC from V[A] of the lowest live lane, masked by LIVE (R402). -/
def execCruXload (core : Fin 48) (s : State) : Out :=
  .next (s.cruMask core 1 2 (fun i b => { b with exec := BitVec.ofNat 16 (b.r i.a (lowLane b.live)) &&& b.live }))
/-- EXEC and a predicate or its complement (R408). -/
def execCruXand (core : Fin 48) (s : State) : Out :=
  .next (s.cruMask core 1 3 (fun i b =>
    let p := b.pred (i.a % 4)
    { b with exec := b.exec &&& (if i.a.testBit 2 then ~~~p else p) &&& b.live }))
/-- EXEC takes LIVE (R402). -/
def execCruXset (core : Fin 48) (s : State) : Out := .next (s.cruMask core 1 4 (fun _ b => { b with exec := b.live }))
/-- V[D] takes a predicate mask in every live lane (R408). -/
def execCruP2r (core : Fin 48) (s : State) : Out :=
  .next (s.cruMask core 1 5 (fun i b => b.w i.d (lanesOf b.live) (fun _ => (b.pred i.a).toNat)))
/-- R2P: a predicate takes V[A] of the lowest live lane (R408). -/
def execCruPredFromReg (core : Fin 48) (s : State) : Out :=
  .next (s.cruMask core 1 6 (fun i b => b.setPred i.d (BitVec.ofNat 16 (b.r i.a (lowLane b.live)))))
/-- Each lane of EXEC takes V[A] of another lane (R408). -/
def execCruShfl (core : Fin 48) (s : State) : Out :=
  .next (s.cruMask core 1 7 (fun i b => b.w i.d (lanesOf b.exec) (fun l =>
    b.r i.a (if i.form then l ^^^ i.imm else b.r i.b l % 16))))
/-- Each lane of EXEC takes V[A] of one lane (R408). -/
def execCruRdlane (core : Fin 48) (s : State) : Out :=
  .next (s.cruMask core 1 8 (fun i b => b.w i.d (lanesOf b.exec) (fun _ => b.r i.a i.imm)))

/-! ## Branch (R415) -/

/-- The address IMM bytes beyond the next instruction. -/
def Bundle.target (b : Bundle) (imm : Nat) : Word := b.pc + 8 + BitVec.ofNat 32 imm

/-- Whether a branch condition holds (R415). -/
def Ins.taken (i : Ins) (b : Bundle) : Bool :=
  let p := b.pred (i.d % 4)
  let q := if i.d.testBit 4 then ~~~p else p
  match bits i.d 2 2 with
  | 0 => true
  | 1 => b.exec &&& q != 0
  | 2 => b.exec &&& ~~~q == 0
  | _ => b.exec &&& q == 0

/-- Conditional branch of the whole bundle (R415). -/
def execCruBra (core : Fin 48) (s : State) : Out :=
  .next (s.cruIssue core 6 0 (fun i b s => s.putBundle { b with pc := if i.taken b then b.target i.imm else b.pc + 8 }))
/-- Return address into every live lane, then branch (R415). -/
def execCruCall (core : Fin 48) (s : State) : Out :=
  .next (s.cruIssue core 6 1 (fun i b s =>
    s.putBundle { b.w i.d (lanesOf b.live) (fun _ => (b.pc + 8).toNat) with pc := b.target i.imm }))
/-- Jump to V[A] of the lowest live lane (R415). -/
def execCruJmp (core : Fin 48) (s : State) : Out :=
  .next (s.cruIssue core 6 2 (fun i b s => s.putBundle { b with pc := BitVec.ofNat 32 (b.r i.a (lowLane b.live)) }))

end Sys2Proof.Machine
end

