-- ==== Sys2Proof/Machine/HostReads.lean ====
section
/-! DEFINITION. Completions with an error, and completions that never come, for the device's reads of host memory (R568). -/
namespace Sys2Proof.Machine

/-- A billet fetch fails: the entry is not processed, SLC_SQ_HEAD stays, the fetch is made again after 1 ms, FETCH counts it
(R568). -/
def State.fetchFailed (s : State) (n : Nat) : State :=
  if s.mayFetch n then
    let p := s.hostPort n
    let s := s.modPort p (fun q => { q with fetchErr := sat 16 (q.fetchErr + 1) })
    (s.modSlice n (fun x => { x with fetchRetry := true })).slagX 19 p 0x14 { restore := true } false false
  else s

/-- A read of a SURF_UPLOAD fails: the effect ends with E_DATA (R101, R568). -/
def State.uploadFailed (s : State) (n : Nat) (seq : Word) : State :=
  match (s.slice n).entry seq with
  | some e =>
    if s.knabyRuns && e.st == .openIssued && e.body.opcode == 0x0102 then
      (opSurfUpload.finish s n e ⟨BitVec.ofNat 16 E_DATA, 0, []⟩)
    else s
  | none => s

/-- A read of an audio stream fails: the frame is not in host memory when it is needed (R554), and CPL counts it. -/
def State.streamFailed (s : State) (n first : Nat) : State :=
  if s.leads && s.aud.streams.any (fun g => g.slice == n && g.first == first) then
    s.modPort (s.hostPort n) (fun q => { q with cplErr := sat 16 (q.cplErr + 1) })
  else s

/-- A failed read of slice `n`, by what it was for (R568). -/
def State.readFailed (s : State) (n : Nat) (r : HostRead) : State :=
  match r with
  | .fetch => s.fetchFailed n
  | .upload seq => s.uploadFailed n seq
  | .stream first => s.streamFailed n first

/-- PCIE_CPL_ERROR (R568). -/
def execPcieCplError (n : Fin 16) (r : HostRead) (s : State) : Out := .next (s.readFailed n.val r)

/-- PCIE_CPL_TIMEOUT (R568). -/
def execPcieCplTimeout (n : Fin 16) (r : HostRead) (s : State) : Out := .next (s.readFailed n.val r)

end Sys2Proof.Machine
end

