-- ==== Sys2Proof/Machine/Quench.lean ====
section
/-! DEFINITION. QUENCH (R153-R160): its doorbell and datagram, its judgement, what each scope stops, and its outcome. -/
namespace Sys2Proof.Machine

/-! ## Stopping one billet's work -/

/-- The chime of a billet stops at the block boundary; one that waits for a player is dropped (R154, R560). -/
def State.stopChime (s : State) (n : Nat) (seq : Word) : State :=
  let mine := fun (c : Chime) => c.src == some (n, seq)
  s.modAud (fun a => { a with players := a.players.map (fun p =>
    { cur := p.cur.map (fun c => if mine c then { c with src := none, stop := true } else c)
      next := p.next.filter (fun c => !mine c) }) })

/-- The haptic effect of a billet brakes; one that is latched is discarded (R539). -/
def State.stopHap (s : State) (n : Nat) (seq : Word) : State :=
  let mine := fun (t : HapTrig) => t.src == some (n, seq)
  (List.range 8).foldl (fun s k => s.modHap k (fun h =>
    let h := { h with next := h.next.filter (fun t => !mine t) }
    match h.cur with
    | some t => if mine t then { h with
        cur := some { t with src := none }
        st := if h.st == .play then .brake else if h.st == .boot then .idle else h.st
        segs := [], gapBrake := false, brakeRun := 0 } else h
    | none => h)) s

/-- The sequence of SET_TIMING or OUT_ENABLE that runs on output `o` for the billet `seq` ends: one that has not reached the
generator is undone, one in its blank or power-down runs on without the billet. -/
def State.stopSequence (s : State) (o : Nat) (seq : Word) (enable : Bool) : State :=
  if (s.ou o).seq != some seq then s
  else if enable then
    if o = 0 && s.limpBoot then s.modOu o (fun x => { x with enabled := false, seq := none })
    else ((s.modOu o (fun x => { x with enabled := false, seq := none, gen := .stopPanel, bl := false, blankAt := s.time })).setLnk o 0).updSusp o
  else
    s.modOu o (fun x => match x.gen with
      | .run => { x with next := none, select := false, seq := none }
      | .reprogCut => { x with next := none, gen := .run, seq := none }
      | _ => { x with seq := none })

/-- A LIMP_CTRL that waits for its cut-off is undone. -/
def State.stopLimpCtrl (s : State) (n : Nat) (seq : Word) (force : Bool) : State :=
  if !s.disp.limp.seqs.contains (n, seq) then s else
  let s := s.modLimp (fun l => { l with seqs := l.seqs.filter (fun q => q != (n, seq)), forced := !force })
  if force && !s.limpLatched then s.modLimp (fun l => { l with trigger := none }) else s

/-- The entry of a power state that has not reached step 4 is abandoned: the device returns to RUN (R677). -/
def State.stopPower (s : State) : State :=
  if s.power.step = 0 then s
  else s.modPow (fun p => { p with step := 0, entering := false, st := 0, heldWake := none })

/-- The hardware work of an issued entry stops (R68, R155). -/
def State.stopWork (s : State) (n : Nat) (e : JEntry) : State :=
  let b := e.body.payload
  match e.body.opcode.toNat with
  | 0x0500 | 0x0501 => if (s.job n e.seq).isSome then s.endJobOpen n e.seq E_QUENCHED else s
  | 0x0202 => match s.disp.commits.find? (fun c => c.slice == n && c.seq == e.seq) with
    | some c => (s.dropCommit n e.seq).dropItems c.items
    | none => s
  | 0x0301 => s.stopSequence (u8 b 0) e.seq false
  | 0x0302 => s.stopSequence (u8 b 0) e.seq (u8 b 1 == 1)
  | 0x0403 => match (s.hd (u8 b 0)).commit with
    | some (m, q, _) =>
      if m = n && q = e.seq then (s.modHd (u8 b 0) (fun d => { d with commit := none })).setFlag (R.HRD_OUT_STAT (u8 b 0)) 18 false
      else s
    | none => s
  | 0x0406 => s.stopLimpCtrl n e.seq (u8 b 0 == 1)
  | 0x0602 => s.modAud (fun a => { a with streams := a.streams.filter (fun g => g.src != some (n, e.seq)) })
  | 0x0605 => s.stopChime n e.seq
  | 0x0701 =>
    if (s.tg (u8 b 0)).enabling = some (n, e.seq) then (s.modTg (u8 b 0) (fun t => { t with enabling := none })).disableGroup (u8 b 0)
    else s
  | 0x0704 => s.stopHap n e.seq
  | 0x0900 => if s.pair.weld.isSome then (s.modPair (fun p => { p with weld := none })).failWeld 5 else s
  | 0x0902 => s.modPair (fun p => { p with switch := none, give := [], take := [] })
  | 0x0A00 => s.stopPower
  | 0x0B02 => s.setFlag (R.CRC_U_CTRL (u8 b 0)) 3 false
  | _ => s

/-- A CHIME_PLAY of a safety chime, which no quench stops (R154). -/
def isSafety (m : BilletMsg) : Bool := m.opcode == 0x0605 && u8 m.payload 1 == 1

/-- An OPEN billet without a slot is carried to DONE with its effect applied (R155). -/
def State.carry (s : State) (n : Nat) (e : JEntry) : State :=
  let s := match e.st, opOf e.body.opcode with
    | .openWait, some d => s.issueEntry n e d
    | _, _ => s
  let s := s.modDisp (fun d => { d with outs := d.outs.map (fun o =>
    if n == 0 && o.zeroSeq == some e.seq then { o with zeroSeq := none } else o) })
  s.complete n e.seq S_DONE 0

/-- A quench reaches one covered entry (R155): the state after it, and whether it was stopped. -/
def State.quenchEntry (s : State) (n : Nat) (seq : Word) : State × Bool :=
  match (s.slice n).entry seq with
  | none => (s, false)
  | some e =>
    if !e.isOpen then (s, false)
    else if e.slot.isNone then (s.carry n e, false)
    else if isSafety e.body || e.applied.isSome then (s, false)
    else
      let s := if e.st == .openIssued then s.stopWork n e else s
      (s.completeOpen n seq E_QUENCHED, true)

/-- A quench reaches the OPEN entries of slice `n` that satisfy `f`, in SEQ order; the number stopped. -/
def State.quenchEntries (s : State) (n : Nat) (f : JEntry → Bool) : State × Nat :=
  ((s.slice n).journal.filter (fun e => e.isOpen && f e)).foldl (fun a e =>
    let r := a.1.quenchEntry n e.seq
    (r.1, a.2 + b2n r.2)) (s, 0)

/-! ## The scopes -/

/-- The ring of a slice stops: what is not yet in OPEN.WAIT is discarded, and SLC_DB falls back to SLC_SQ_HEAD (R156). -/
def Slice.ringStop (x : Slice) : Slice :=
  let x := { x with ringEn := false, db := x.sqHead }
  match x.inHand with
  | .staged q => { x with
      inHand := .none
      slots := x.slots.map (fun sl => if sl.st == .pending && sl.seq == q then Slot.empty else sl)
      journal := x.journal.filter (fun e => e.st != .staged) }
  | _ => { x with inHand := .none }

/-- Scope SLICE (R154, R156). -/
def State.quenchSlice (s : State) (t : Nat) : State × Nat := (s.modSlice t Slice.ringStop).quenchEntries t (fun _ => true)

/-- Closes the guest streams that satisfy `f`, muted at once (R154, R560). -/
def State.closeStreams (s : State) (f : GuestStream → Bool) : State × Nat :=
  let gone := s.aud.streams.filter f
  let s := s.modAud (fun a => { a with streams := a.streams.filter (fun g => !f g) })
  ((gone.flatMap (fun g => g.src.toList)).foldl (fun s q => s.completeOpen q.1 q.2 E_QUENCHED) s, gone.length)

/-- The composition pass of an output is stopped (R154, R219). -/
def State.quenchPass (s : State) (o : Nat) : State × Nat := (s.abandonPass o 20, b2n ((s.ou o).pass == .running))

/-- Scope DEVICE (R154). -/
def State.quenchDevice (s : State) : State × Nat :=
  let weld := 1 ≤ s.phase && s.phase ≤ 4
  let s := if weld then (if s.pair.weld.isSome then s.failWeld 5 else (s.setPhase 0).slagErr 17 0 0x0D) else s
  let add := fun (a : State × Nat) (f : State → State × Nat) => ((f a.1).1, a.2 + (f a.1).2)
  let a := (List.range s.nSlices).foldl (fun a n => add a (fun s => s.quenchSlice n)) (s, b2n weld)
  let a := (List.range 8).foldl (fun a o => add a (fun s => s.quenchPass o)) a
  let a := add a (fun s => s.closeStreams (fun _ => true))
  let chimes := (a.1.aud.chimes.filter (fun c => !c.safety)).length
  let haps := ((List.range 8).filter (fun k => (a.1.hap k).cur.isSome || (a.1.hap k).next.isSome)).length
  ((List.range 8).foldl (fun s k => s.hapQuench k) (a.1.chimesCut E_QUENCHED true), a.2 + chimes + haps)

/-- What a judged quench does; the number of items stopped. -/
def State.quenchAct (s : State) (q : QuenchReq) : State × Nat :=
  let named := fun (e : JEntry) => q.arg == 0xFFFFFFFF || e.seq == q.arg
  match q.scope with
  | 1 => s.quenchEntries q.slice (fun e => isJob e.body && named e)
  | 2 => s.quenchEntries q.slice (fun e => isDma e.body && named e)
  | 3 => s.closeStreams (fun g =>
      if q.arg = 0xFFFFFFFF then g.slice == q.slice
      else decide (g.first ≤ q.target ∧ q.target < g.first + g.channels))
  | 4 => s.quenchPass q.target
  | 5 => s.quenchSlice q.target
  | _ => s.quenchDevice

/-- The outcome of a quench that is turned away (R154, R685). -/
def State.quenchBar (s : State) (q : QuenchReq) : Option Nat :=
  let own := q.slice == 0 || (if q.scope = 3 then q.arg == 0xFFFFFFFF || 32 ≤ q.target || s.aud.inOwner.getD q.target 0 == q.slice
    else if q.scope = 5 then q.target == q.slice else q.scope ≤ 2)
  let bad := match q.scope with
    | 1 | 2 => q.target != 0
    | 3 => decide (31 < q.target) || (q.arg != 0 && q.arg != 0xFFFFFFFF)
    | 4 => decide (7 < q.target) || q.arg != 0
    | 5 => decide (s.nSlices ≤ q.target) || q.arg != 0
    | _ => q.target != 0 || q.arg != 0
  if q.scope = 0 || 6 < q.scope then some 3
  else if q.scope = 4 && s.nOut ≤ q.target && q.target < 8 then some 4
  else if !own then some 2
  else if bad then some 3
  else none

/-- A quench runs (R154, R155, R160); its OUTCOME. -/
def State.runQuench (s : State) (q : QuenchReq) : State × Nat :=
  match s.quenchBar q with
  | some o => (s, o)
  | none =>
    let fwd := fun (s : State) (o : Option Nat) => if s.pair.role = .active then s.ulxSend (.complete (.quench q o)) else s
    let r := (fwd s none).quenchAct q
    let o := if r.2 = 0 then 1 else 0
    (fwd r.1 (some o), o)

/-! ## The doorbell -/

/-- The quench of a SLC_QDB value (R153). -/
def quenchOf (n : Nat) (v arg : Word) : QuenchReq := ⟨n, bits v.toNat 0 4, bits v.toNat 8 8, arg⟩

/-- A BUSY quench is performed and DONE, with its interrupt (R153, R158); the loads admitted stand without what it stopped. -/
def State.finishQuench (s : State) (n : Nat) (v arg : Word) : State :=
  let r := s.runQuench (quenchOf n v arg)
  ((r.1.showLoads r.1.projected).modSlice n (fun x => { x with
    qword := none, qstat := { x.qstat with busy := false, done := true, outcome := r.2 } })).irq n 2

/-- A write to SLC_QDB takes effect (R153, R158, R638, R668). -/
def State.quenchDoorbell (s : State) (n : Nat) (v : Word) : State :=
  let s := s.wake 16 0
  let x := s.slice n
  if x.qstat.busy || !s.leads then s.modSlice n (fun x => { x with qstat := { x.qstat with dropped := true } })
  else
    let s := s.modSlice n (fun x => { x with
      qstat := { x.qstat with busy := true, done := false, outcome := 0, token := BitVec.ofNat 16 (v.toNat / 2 ^ 16) }
      qword := some (v, x.qarg) })
    if s.knabyRuns then s.finishQuench n v x.qarg else s

/-- A write access to SLC_QDB. -/
def State.qdbWrite (s : State) (n : Nat) (a : Access) (v : Word) : State :=
  (s.winGate n a 0x004).run (fun m => (s.rsvCheck m (winOff n 4) v.toNat 0xF0).quenchDoorbell n v)

/-- SLC_QARG, then SLC_QDB with the scope `k`. -/
def State.quenchRow (s : State) (n : Nat) (arg : Word) (a : Access) (k : Nat) : State :=
  (s.windowWrite n { a with data := arg } 0x008).qdbWrite n a (BitVec.ofNat 32 (putBits a.data.toNat 0 4 k))

/-- QUENCH_JOB (R153, R154). -/
def execQuenchJob (n : Fin 16) (arg : Word) (a : Access) (s : State) : Out := .next (s.quenchRow n.val arg a 1)
/-- QUENCH_DMA. -/
def execQuenchDma (n : Fin 16) (arg : Word) (a : Access) (s : State) : Out := .next (s.quenchRow n.val arg a 2)
/-- QUENCH_AUDIO. -/
def execQuenchAudio (n : Fin 16) (arg : Word) (a : Access) (s : State) : Out := .next (s.quenchRow n.val arg a 3)
/-- QUENCH_COMPOSITION. -/
def execQuenchComposition (n : Fin 16) (arg : Word) (a : Access) (s : State) : Out := .next (s.quenchRow n.val arg a 4)
/-- QUENCH_SLICE (R156). -/
def execQuenchSlice (n : Fin 16) (arg : Word) (a : Access) (s : State) : Out := .next (s.quenchRow n.val arg a 5)
/-- QUENCH_DEVICE. -/
def execQuenchDevice (n : Fin 16) (arg : Word) (a : Access) (s : State) : Out := .next (s.quenchRow n.val arg a 6)

/-! ## The datagram -/

/-- What is wrong with a QUENCH datagram: STATUS and RESULT (R159, in the manner of R53). -/
def quenchFault (m : BilletMsg) (len n : Nat) : Option (Nat × Nat) :=
  if len ≠ 32 || m.length ≠ 0 then some (E_LENGTH, len)
  else if m.check ≠ billetCrc m n then some (E_CHECK, 0)
  else if m.opcode ≠ 0x0F00 then some (E_FORMAT, 0)
  else if bits m.flags.toNat 4 4 ≠ 0 then some (E_FORMAT, 0x0C)
  else if m.group ≠ 0 then some (E_FORMAT, 0x0E)
  else if m.deadline ≠ 0 then some (E_FORMAT, 0x10)
  else if m.res14 ≠ 0 then some (E_FORMAT, 0x14)
  else if m.res18 ≠ 0 then some (E_FORMAT, 0x18)
  else none

/-- A QUENCH datagram of slice `n` is checked, performed and answered (R159). No RESULT is stated for the outcomes 2 to 4. -/
def State.answerQuench (s : State) (n : Nat) (id : NetId) (b : List Byte) : State :=
  let m := rawBillet b
  let send := fun (s : State) (st r : Nat) => s.emit (.udp true id
    (Reply.bytes ⟨m.seq, m.tag, 0xF00, false, false, BitVec.ofNat 16 st, BitVec.ofNat 32 r⟩))
  match quenchFault m b.length n with
  | some (st, r) => send s st r
  | none =>
    let r := s.runQuench ⟨n, bits m.flags.toNat 0 4, bits m.flags.toNat 8 8, m.seq⟩
    let free := (Config.slotValue r.1.draw.1).toNat % 2 ^ 32
    match r.2 with
    | 2 => send r.1.draw.2 E_DENIED free
    | 3 => send r.1.draw.2 E_PARAM free
    | 4 => send r.1.draw.2 E_VARIANT free
    | o => send r.1 S_ACCEPTED o

/-- The QUENCH datagrams that wait are taken (R574). -/
def State.pumpQuench (s : State) : State :=
  if !s.knabyRuns then s else
  let l := s.net.quenchQ
  l.foldl (fun s d => match s.sliceOf d.src with
    | some n => s.answerQuench n d.src d.payload
    | none => s.netDrop 3) { s with net := { s.net with quenchQ := [] } }

/-- QUENCH (R159, R439, R574, R668). -/
def execQuench (d : UdpIn) (s : State) : Out :=
  .next (
    if !s.netUp then s else
    match s.dropCause d s.net.quenchQ.length 16 6 with
    | some k => s.netDrop k
    | none =>
      let s := if s.welded then s.ulxSend (.event (.quenchDatagram d)) else s
      let s := s.wake 32 0
      State.pumpNet (State.pumpQuench { s with net := { s.net with quenchQ := s.net.quenchQ ++ [⟨d.src, d.payload⟩] } }))

/-- Knaby is back: every quench that waits is performed (R638), then what waits in the queues is taken. -/
def State.catchUp (s : State) : State :=
  let s := foldN 16 (fun s n => match (s.slice n).qword with
    | some (v, arg) => if s.knabyRuns then s.finishQuench n v arg else s
    | none => s) s
  s.pumpQuench.pumpNet

/-! ## BAR0 -/

/-- A write access to a BAR0 offset (R13, R610). -/
def State.barWrite (s : State) (off : Nat) (a : Access) : State :=
  let off := off / 4 * 4
  if off < 0x100000 then
    if off % 0x10000 = 4 then s.qdbWrite (off / 0x10000) a a.data else s.windowWrite (off / 0x10000) a (off % 0x10000)
  else (s.sysWrite a off).runBlockResets

/-- REGISTER_WRITE (R610-R617). -/
def execRegisterWrite (off : BitVec 26) (a : Access) (s : State) : Out := .next (s.barWrite off.toNat a)

end Sys2Proof.Machine
end

