-- ==== Sys2Proof/Machine/PairRun.lean ====
section
/-! DEFINITION. A welded pair at work: what the ACTIVE device forwards (R438-R441, R593), the heartbeat (R449), takeover
(R450-R456), severance (R431, R455). -/
namespace Sys2Proof.Machine

/-! ## Forwarded items -/

/-- The STANDBY device journals a forwarded billet with its slot and reply, and acknowledges it (R438). -/
def State.journalFollow (s : State) (n : Nat) (m : BilletMsg) (slot : Option Nat) (reply : Reply) (d : OpDef) : State :=
  let e : JEntry := ⟨m.seq, m.check, .staged, slot, reply, m, true, s.order, d.mark s m, none⟩
  let s := (s.incWrap R.ULX_FWD 0 32).journalIn n e
  (s.openStaged n e d).ulxSend (.jack n m.seq m.check)

/-- JOURNAL (R438). -/
def execJournal (h : UlxHdr) (n : Fin 16) (m : BilletMsg) (slot : Option (Fin 64)) (reply : Reply) (s : State) : Out :=
  .next (s.ulxRx h (fun s =>
    match s.pair.role, opOf m.opcode with
    | .standby, some d => s.journalFollow n.val m (slot.map Fin.val) reply d
    | _, _ => s))

/-- The billet of slice `n` that waits in STAGED goes on (R68). -/
def State.releaseStaged (s : State) (n : Nat) : State :=
  match (s.slice n).inHand with
  | .staged q => match (s.slice n).entry q with
    | some e => match opOf e.body.opcode with
      | some d => s.openStaged n e d
      | none => s
    | none => s
  | _ => s

/-- JACK (R68, R438): `ns` is the time since the JOURNAL was sent. -/
def execJack (h : UlxHdr) (n : Fin 16) (seq check : Word) (ns : Half) (s : State) : Out :=
  .next (s.ulxRx h (fun s =>
    match (s.slice n.val).entry seq with
    | some e =>
      if s.pair.role = .active && (s.slice n.val).inHand == .staged seq && e.check == check then
        let s := s.setFld R.ULX_LAT 16 16 (max (s.fld R.ULX_LAT 16 16) ns.toNat)
        (s.releaseStaged n.val).pumpNet
      else s
    | none => s))

/-- A forwarded reply is stored: in the journal, in place of the own one of an immediate billet, and at its count (R438). -/
def State.storeReply (s : State) (n : Nat) (r : Reply) (tail : Word) : State :=
  let s := s.modPair (fun p => { p with
    recent := (n, tail - 1, r, s.time) :: p.recent.filter (fun q => s.time ≤ q.2.2.2 + 50) })
  if r.dup || r.status.toNat ≠ S_ACCEPTED then s
  else s.modSlice n (fun x => x.modEntry r.seq (fun e =>
    if e.slot.isSome then e
    else { e with reply := r, here := if e.st == .openWait then some (r.status, 0) else e.here }))

/-- REPLY: a reply record, and the ring counts of a PCIe slice (R438). -/
def execReplyFrame (h : UlxHdr) (n : Fin 16) (r : Option Reply) (tail head db : Word) (s : State) : Out :=
  .next (s.ulxRx h (fun s =>
    if s.pair.role ≠ .standby then s else
    let s := match r with
      | some r => s.storeReply n.val r tail
      | none => s
    match (s.slice n.val).binding with
    | .pcie _ _ => s.modSlice n.val (fun x => { x with rqTail := tail, sqHead := head, db := db })
    | _ => s))

/-- A forwarded completion (R441). A quenched entry, and a COMMIT that the ACTIVE device has not bound, stop here too (R160,
R214). -/
def State.completeFollow (s : State) (n : Nat) (seq : Word) (status : Half) (value : DWord) : State :=
  match (s.slice n).entry seq with
  | some e =>
    if !e.isOpen then s
    else if status.toNat = E_QUENCHED || (e.body.opcode.toNat = 0x0202 && status.toNat ≠ S_DONE) then
      (if e.st == .openIssued then s.stopWork n e else s).endEntry n e status.toNat value.toNat
    else if e.here.isSome then s.endEntry n e status.toNat value.toNat
    else s.modPair (fun p => { p with completions := p.completions ++ [(n, seq, status, value)] })
  | none => s

/-- What a STANDBY device does at the start of a quench besides the entries, which their forwarded outcomes end (R160). -/
def State.quenchFollow (s : State) (q : QuenchReq) : State :=
  let carry := fun (s : State) (n : Nat) =>
    ((s.slice n).journal.filter (fun e => e.isOpen && e.slot.isNone)).foldl (fun s e => s.carry n e) s
  let ring := fun (s : State) (n : Nat) => carry (s.modSlice n Slice.ringStop) n
  match q.scope with
  | 3 => (s.closeStreams (fun g =>
      if q.arg = 0xFFFFFFFF then g.slice == q.slice else decide (g.first ≤ q.target ∧ q.target < g.first + g.channels))).1
  | 4 => s.abandonPass q.target 20
  | 5 => ring s q.target
  | 6 =>
    let s := (List.range s.nSlices).foldl ring s
    let s := (List.range 8).foldl (fun s o => s.abandonPass o 20) s
    let s := (s.closeStreams (fun _ => true)).1.chimesCut E_QUENCHED true
    (List.range 8).foldl (fun s k => s.hapQuench k) s
  | _ => s

/-- COMPLETE (R160, R438, R441). -/
def execComplete (h : UlxHdr) (c : CompleteMsg) (s : State) : Out :=
  .next (s.ulxRx h (fun s =>
    if s.pair.role ≠ .standby then s else
    match c with
    | .slot n seq status value => s.completeFollow n seq status value
    | .quench q none => s.quenchFollow q
    | .quench q (some o) => s.modSlice q.slice (fun x => { x with qstat := { x.qstat with done := true, outcome := o } })))

/-! ## Cut-offs -/

/-- CUTOFF (R438, R440, R446): frame counter, timeliness and readiness of the sender; on a STANDBY device the named bindings,
SWITCH and Hardy swap apply. A frame for a cut-off that has already gone without it is late. -/
def execCutoffFrame (h : UlxHdr) (c : CutMsg) (s : State) : Out :=
  .next (s.ulxRx h (fun s =>
    if !s.welded || s.nOut ≤ c.out then s else
    let gone := sdiff c.frame (s.frameNo c.out) < 0 || (c.frame == s.frameNo c.out && !(s.ou c.out).fabDue)
    let late := s.pair.role == .standby && decide gone
    let s := s.setFld R.ULX_HOLD 24 8 c.ready
    let s := s.modPair (fun p => { p with
      cutFrame := putAt p.cutFrame c.out c.frame
      cutOk := if late then p.cutOk else modAt p.cutOk c.out (fun k => min 8 (k + 1)) })
    if s.pair.role ≠ .standby || late then s
    else if c.frame == s.frameNo c.out then s.fabFollow c
    else s.modPair (fun p => { p with cuts := p.cuts ++ [c] })))

/-- CUTOFF_TIMEOUT: 5 us without the CUTOFF frame (R440). -/
def execCutoffTimeout (n : Fin 8) (s : State) : Out :=
  .next (
    let n := n.val
    if s.pair.role ≠ .standby || !(s.ou n).fabDue then s else
    let s := s.fabFollow ⟨n, s.frameNo n, [], false, false, 0⟩
    (s.modPair (fun p => { p with cutOk := putAt p.cutOk n 0 })).slagErr 17 n 0x0D)

/-! ## Forwarded input events (R439, R593, R676) -/

/-- A touch report that the ACTIVE device has formed: its number, and the press or release it tells (R519). -/
def State.touchFollow (s : State) (g : Nat) (r : List Byte) : State :=
  let i := u8 r 5
  let c := if bit (u8 r 7) 5 then (firstIdx 12 (fun k => 2 ≤ ((s.tg g).el k).kind && ((s.tg g).el k).num == i)).getD 12 else i
  let press := fun (t : TouchGroup) (b : Bool) => t.modCtl c (fun x => { x with pressed := b })
  s.modTg g (fun t =>
    let t := { t with seq := BitVec.ofNat 32 (u32 r 0 + 1) }
    if u8 r 6 = 1 then press t true else if u8 r 6 = 2 then press t false else t)

/-- The firing of HAP_BIND `k` (R439, R521). -/
def State.bindFollow (s : State) (k : Nat) : State :=
  let t := s.tg (k / 12)
  match t.haptic, t.binds.find? (fun b => b.el == k % 12) with
  | some ch, some b => s.trigger ch ⟨b.effect, 255, none⟩
  | _, _ => s

/-- A wake of the partner: this device leaves the state with it (R676). -/
def State.wakeFollow (s : State) (src group : Nat) : State :=
  if s.power.exiting then s
  else if s.power.step ≠ 0 then
    (if s.power.heldWake.isNone then s.modPow (fun p => { p with heldWake := some (src, group) }) else s)
  else if s.power.st = 1 || s.power.st = 2 then s.beginExit src group
  else s

/-- A message from the partner reaches the half whose SENDER is 4; without room it is dropped and the partner told (R593,
R668). -/
def State.mailFollow (s : State) (k : Nat) (ws : List Word) : State :=
  if !s.chOn k || s.chSender k ≠ 4 then s
  else if !s.chBell k && 8 ≤ (s.chan k).msgs.length then s.ulxSend (.event (.dropped k))
  else (s.chanDeliver k ws).wake 4 0

/-- What a device does with a forwarded event. Billet and QUENCH datagrams reach a STANDBY device again as JOURNAL and COMPLETE
frames; the copies change nothing. -/
def State.eventFollow (s : State) (e : PairEvent) : State :=
  match e with
  | .mailbox k ws => s.mailFollow k ws
  | .dropped k => if s.chReceiver k = 4 then s.modChan k (fun c => { c with dropped := true }) else s
  | .wake src group => s.wakeFollow src group
  | .gptp ns locked => if s.leads then s else
      ({ s with net := { s.net with time := ns } } : State).modPair (fun p => { p with ptp := locked })
  | .touch g r => if s.leads then s else s.touchFollow g r
  | .baseline g l => if s.leads then s else
      s.modTg g (fun t => { t with els := (t.els.zip l).map (fun p => { p.1 with base := p.2 }) })
  | .bind k => if s.leads then s else s.bindFollow k
  | .samples pins => if s.leads then s else s.modAud (fun a => { a with fwd := a.fwd ++ [pins] })
  | .avtp stream pres frames => if s.leads then s else s.avtpFrames stream.toNat pres.toNat s.net.time frames
  | .billetDatagram _ | .quenchDatagram _ => s

/-- EVENT. -/
def execEvent (h : UlxHdr) (e : PairEvent) (s : State) : Out :=
  .next (s.ulxRx h (fun s => if s.welded then s.eventFollow e else s))

/-! ## Takeover -/

/-- Whole-device takeover (R452, R459, R677). -/
def State.wholeTakeover (s : State) : State :=
  let l := (List.range s.nOut).filter (fun n => !s.flag R.ULX_HOLD n)
  let s := s.becomeActive.switchDone
  let s := ((s.takeAll).noteTakeover l 1).slagErr 17 0 0x0C
  if (s.power.st = 1 || s.power.st = 2) && !s.power.exiting then s.beginExit 7 0 else s

/-- The ACTIVE device without its partner becomes SOLO and takes back every output (R453). The manual states no VALUE for a
PAIR_SWITCH that this overtakes. -/
def State.partnerLost (s : State) (code : Nat) : State :=
  let l := s.partnerHeld
  let s := ((s.setRole .solo).setPhase 0).setFld R.ULX_HOLD 24 8 0
  let q := s.pair.switch
  let s := s.modPair (fun p => { p with
    give := [], switch := none, unacked := [], waiting := [], cuts := [], results := [] })
  let s := s.retake l
  let s := match q with
    | some q => s.completeOpen 0 q S_DONE
    | none => s
  let s := (List.range 16).foldl (fun s n => s.releaseStaged n) s
  let s := if l = [] then s else s.noteTakeover l 1
  (s.slagErr 17 0 code).pumpNet

/-- The partner's heartbeat is lost and ULX_TKO_IN is low (R449). -/
def State.heartbeatLost (s : State) : State :=
  let s := s.modPair (fun p => { p with lostAt := none })
  match s.pair.role with
  | .standby => s.wholeTakeover
  | .active => s.partnerLost 0x0C
  | .solo => s

/-- HB_LOST: no edge for 8 us; `tko` is the level of ULX_TKO_IN (R449). -/
def execHbLost (tko : Bool) (s : State) : Out :=
  .next (
    if !s.fuses.pair || !s.flag R.ULX_STAT 3 then s else
    let s := (s.setFlag R.ULX_STAT 3 false).setFlag R.ULX_STAT 4 tko
    if !s.welded then s
    else if tko then s.modPair (fun p => { p with lostAt := some s.time })
    else s.heartbeatLost)

/-- TKO_CONFIRM: 20 us after the detection, or earlier when ULX_TKO_IN falls (R449). -/
def execTkoConfirm (tko : Bool) (s : State) : Out :=
  .next (
    if s.pair.lostAt.isNone then s else
    let s := s.setFlag R.ULX_STAT 4 tko
    if tko then
      ((s.modPair (fun p => { p with lostAt := none })).setFlag R.ULX_STAT 9 true).slagX 17 0 0x0C {} false true
    else s.heartbeatLost)

/-- ULX_SEVER: the link has been down for longer than SEVER_US (R431, R433, R455, R459). -/
def execUlxSever (s : State) : Out :=
  .next (
    if !s.fuses.pair || s.flag R.ULX_STAT 2 then s else
    match s.pair.role with
    | .active => (s.setFlag R.ULX_STAT 10 true).partnerLost 0x0D
    | .standby => s.severedStandby
    | .solo =>
      if s.pair.weld.isSome then s.failWeld 4
      else if s.phase = 2 then s.severedStandby
      else s)

/-- The output is dark: it has no Anvil allocation or no configured link (R452). -/
def State.leaveDark (s : State) (n : Nat) : State :=
  (((s.modOu n (fun o => { o with enabled := false, gen := .off, seq := none, bl := false })).setLnk n 0).updSusp n).slagX 17 n 0x0C {}
    false true

/-- Steps 3 and 4 of R342: the link starts as R343 says for the sink. -/
def State.startTaken (s : State) (n : Nat) : State :=
  if (s.lnk n = 4 && s.lnkOpt n 2 1 = 1) || cfgLink (s.linkCfg n) = 3 then s else s.setLnk n 1

/-- TAKE_OUTPUT: at its cut-off this device takes output `n` (R342, R450, R452-R454). Where the holder lives, its release must
be in. -/
def execTakeOutput (n : Fin 8) (s : State) : Out :=
  .next (
    let n := n.val
    match s.pair.take.find? (fun t => t.1 == n) with
    | none => s
    | some (_, c) =>
      let due := match c with | some c => decide (0 ≤ sdiff (s.frameNo n) c) | none => true
      let cause := s.pair.cause
      if !due || !s.scanning n || (s.welded && cause ≠ 1 && s.flag R.ULX_HOLD (8 + n)) then s else
      let ready := s.takeReady n
      let dark := (s.allocSize n).1 = 0 || !(s.ou n).linkCfg
      let s := s.modPair (fun p => { p with take := p.take.filter (fun t => t.1 != n), took := insNat n p.took })
      let s := (s.setFlag R.ULX_HOLD n true).setFlag R.ULX_HOLD (8 + n) false
      let s := if dark then s.leaveDark n
        else
          let s := s.startTaken n
          if s.welded && cause = 1 && !ready then s.slagErr 17 n 0x0C else s
      let s := if cause = 2 && s.welded then
          (s.noteTakeover [n] 2 |>.modPair (fun p => { p with took := [] })).slagErr 17 n 0x06
        else s
      if s.pair.take = [] && s.pair.switch.isSome && s.pair.role = .standby then
        s.promote
      else s)

end Sys2Proof.Machine
end

