-- ==== Sys2Proof/Machine/Boot.lean ====
section
/-! DEFINITION. Start-up: the signed image (R653, R654), the boot configuration (R655), the sequence of R656 to the seal, and the
boot output records (R658). -/
namespace Sys2Proof.Machine

/-! ## The image -/

/-- VERSION of a header. -/
def FlashSlot.version (f : FlashSlot) : Nat := u32 f.header 8

/-- The 64-byte segment descriptors. -/
def FlashSlot.segs (f : FlashSlot) : List (List Byte) :=
  (List.range (min 16 (u16 f.header 0xC))).map (fun i => (f.header.drop (0x80 + 64 * i)).take 64)

/-- Largest SIZE of a segment type; a LIMP segment has exactly this size (R653). -/
def segLimit (ty : Nat) : Nat :=
  if ty = 1 then 0x10000 else if ty = 2 then 0x40000 else if ty = 3 then 0x700000 else 192064

/-- A descriptor meets R653. -/
def segOk (d : List Byte) : Bool :=
  let ty := u8 d 0
  decide (1 ≤ ty ∧ ty ≤ 4) && u32 d 4 % 4096 == 0 &&
  (if ty = 4 then u32 d 8 == segLimit 4 else decide (u32 d 8 ≤ segLimit ty))

/-- Bytes `o` to `o + n` are 0. -/
def zeroBytes (b : List Byte) (o n : Nat) : Bool := ((b.drop o).take n).all (· == 0)

/-- A header meets R653 but for its version, key hash and signature. -/
def FlashSlot.headerOk (f : FlashSlot) : Bool :=
  let h := f.header
  let n := u16 h 0xC
  let many := fun t => (f.segs.filter (fun d => u8 d 0 == t)).length
  h.length == 1536 && u32 h 0 == 0x42385853 && u16 h 4 == 1 && u8 h 6 ≤ 1 && u8 h 7 == 0xB0 &&
  decide (3 ≤ n ∧ n ≤ 16) && decide (u32 h 0x10 ≤ 8 * 2 ^ 20) && zeroBytes h 0x14 0x6C &&
  f.segs.all segOk && many 1 == 1 && many 2 == 1 && many 3 == 1 && many 4 ≤ 1 &&
  u8 h 0x480 == 4 && zeroBytes h 0x4E1 0x1F

/-- Why an image with a good header is not used: the reason of HRT_BOOT (R653, R654, R661). -/
def FlashSlot.fault (f : FlashSlot) (floor : Nat) : Option Nat :=
  if f.version < floor then some 5
  else if !f.keyHashOk then some 3
  else if !f.sigOk then some 4
  else if f.segs.any (fun d => !f.goodSegs.contains (u8 d 0)) then some 6
  else none

/-- The slots whose headers are good, highest version first, slot A before slot B at a tie (R654). -/
def BootEnv.ranked (e : BootEnv) : List (Bool × FlashSlot) :=
  let a := if e.slotA.headerOk then [(false, e.slotA)] else []
  let b := if e.slotB.headerOk then [(true, e.slotB)] else []
  if e.slotA.headerOk && e.slotB.headerOk && e.slotA.version < e.slotB.version then b ++ a else a ++ b

/-- What the search for an image ends with. -/
inductive Picked where
  /-- A reason of HRT_BOOT. -/
  | none (reason : Nat)
  | image (slotB fallback : Bool) (f : FlashSlot)

/-- The first slot that authenticates, or the reason of the last that did not (R654). -/
def BootEnv.pick (e : BootEnv) (floor : Nat) : Picked :=
  match e.ranked with
  | [] => .none 2
  | [(b, f)] => match f.fault floor with
    | some r => .none r
    | none => .image b false f
  | (b, f) :: (c, g) :: _ => match f.fault floor, g.fault floor with
    | none, _ => .image b false f
    | some _, some r => .none r
    | some _, none => .image c true g

/-! ## The boot configuration -/

/-- The run of records, which TYPE 0 ends; none where it does not end within the segment. -/
def bootRecs : Nat → List Byte → Option (List BootRec)
  | 0, _ => none
  | k + 1, b =>
    if b.length < 2 then none
    else if u16 b 0 = 0 then some []
    else if b.length < 4 + u16 b 2 then none
    else (bootRecs k (b.drop (4 + u16 b 2))).map (fun l => ⟨u16 b 0, (b.drop 4).take (u16 b 2)⟩ :: l)

/-- The data of the first record of a type. -/
def recData (l : List BootRec) (ty : Nat) : List Byte :=
  match l.find? (fun r => r.ty == ty) with
  | some r => r.data
  | none => []

/-- The (offset, value) pairs of a REGS record. -/
def regPairs (d : List Byte) : List (Nat × Nat) :=
  (List.range (d.length / 8)).map (fun i => (u32 d (8 * i), u32 d (8 * i + 4)))

/-- A DRAM record names a configuration of R462. -/
def dramRecOk (d : List Byte) : Bool :=
  (if u8 d 2 = 0 then [3200, 4267, 5500, 6400] else [3200, 3733, 4266]).contains (u16 d 0) &&
  u8 d 2 ≤ 1 && u8 d 3 ≤ 1 && (u8 d 4 == 1 || u8 d 4 == 2) && decide (1 ≤ u8 d 5 ∧ u8 d 5 ≤ 8)

/-- A SLICE0 record is a payload of R92 for TARGET 0; bonded, it binds to port 0 (R565). -/
def slice0Ok (bond : Bool) (d : List Byte) : Bool :=
  let pcie := u8 d 1 == 1
  u8 d 0 == 0 && u8 d 1 ≤ 2 && (if pcie then u8 d 2 ≤ 1 && !(bond && u8 d 2 != 0) else u8 d 2 == 0) && zeroBytes d 3 1 &&
  u32 d 4 / 2 ^ 20 == 0 && u16 d 0xE / 2 ^ 12 == 0 && zeroBytes d 0x16 2

/-- A LIMP_OUT record passes the checks of OUT_CONFIG and SET_TIMING on their own fields (R279, R655). -/
def State.limpOutOk (s : State) (d : List Byte) : Bool :=
  let t := d.drop 16
  u8 d 0 == 0 &&
  (firstFail (chkOut s 0 0 ++ chkOutConfig d ++ chkOut s (u8 t 0) 0 ++ chkTiming t ++
    (linkBreaches (outConfigWord d) (timingOf t)).map (fun c => ⟨10, c.1, c.2⟩))).isNone

/-- One record meets R655. -/
def State.recOk (s : State) (bond : Bool) (r : BootRec) : Bool :=
  let d := r.data
  match r.ty with
  | 1 => d.length == 16 && u8 d 0 ≤ 4 && u8 d 1 ≤ 1 && u8 d 2 ≤ 1 && u8 d 3 < 4 && (u8 d 8 ≤ 63 || u8 d 8 == 0xFF)
  | 2 => d.length == 16 && dramRecOk d
  | 3 => d.length == 32 && slice0Ok bond d
  | 4 => d.length % 8 == 0 && (regPairs d).all (fun p => decide (0x100000 ≤ p.1 ∧ p.1 ≤ 0x1FFFFF) && p.1 % 4 == 0)
  | 5 => d.length == 40 && s.limpOutOk d
  | 6 => d.length == 52 && u32 d 48 ≤ 1
  | _ => false

/-- The records meet R161, R279, R462 and R655. -/
def State.recsOk (s : State) (l : List BootRec) : Bool :=
  let many := fun t => (l.filter (fun r => r.ty == t)).length
  let g := recData l 1
  l.all (s.recOk (u8 g 1 == 1)) && many 1 == 1 && many 2 == 1 && many 3 == 1 && many 6 ≤ 8 &&
  (u8 g 3 == 0 || many 5 != 0)

/-- GLOBAL, DRAM and SLICE0 applied (R655). -/
def State.applyGlobal (s : State) (l : List BootRec) : State :=
  let g := recData l 1
  let d := recData l 2
  let s := { s with boot := { s.boot with
    recs := l, log2n := u8 g 0, bond := u8 g 1 == 1, rank := u8 g 2 == 1, limpAtBoot := bit (u8 g 3) 0
    limpOnEscalate := bit (u8 g 3) 1, subsys := u16 g 4 + 2 ^ 16 * u16 g 6, faultChime := u8 g 8
    limpOut := (l.find? (fun (r : BootRec) => r.ty == 5)).map (fun (r : BootRec) => r.data) } }
  let s := s.setFld R.ULX_CFG 0 1 (u8 g 2)
  let s := s.setReg R.DRC_CFG (u16 d 0 + 2 ^ 13 * u8 d 2 + 2 ^ 14 * u8 d 3 + 2 ^ 15 * (u8 d 4 - 1) + 2 ^ 16 * u8 d 5)
  let s := s.modDram (fun x => { x with map := BitVec.ofNat 32 (u32 d 8) })
  let s := s.setFld R.DRC_RSV0 0 16 (s.creditsUse / 2)
  s.modSlice 0 (fun x => { x with binding := bindingOf (recData l 3) })

/-- The LIMP segment replaces the image and the palette (R279). -/
def State.applyLimp (s : State) (f : FlashSlot) : State :=
  if f.segs.any (fun d => u8 d 0 == 4) then
    ((s.limpStore 0 0 (f.limp.take 192000)).limpStore 1 0 ((f.limp.drop 192000).take 64)).setFlag R.HRD_STAT 13 false
  else s

/-- The bits of a register whose Reset column reads "from boot configuration" and which have no other home (R655). -/
def bootBits (off : Nat) : Nat :=
  if off = R.HRT_MT_CFG then 0x7FFFF
  else if off = R.AUD_BYP then 0xFFFF
  else if (regIdx off (R.TCH_REF 0) 4 48).isSome then 0xFFFFFFFF
  else if off = R.NET_CFG then 1
  else if off = R.NET_IP || off = R.NET_MAC_LO || off = R.NET_UDP then 0xFFFFFFFF
  else if off = R.NET_MAC_HI then 0xFFFF
  else if off = R.DRC_CFG then 0xFFFFF
  else if off = R.ULX_CFG then 1
  else 0

/-- The electrodes of a TCH_REFk are absent. -/
def State.refAbsent (s : State) (off : Nat) : Bool :=
  match regIdx off (R.TCH_REF 0) 4 48 with
  | some k => s.nElec ≤ 2 * k
  | none => false

/-- The fields from the boot configuration take the value. -/
def State.bootFields (s : State) (off v : Nat) : State :=
  let m := bootBits off
  let v := if off = R.HRT_MT_CFG then putBits v 0 16 (max 100 (bits v 0 16)) else v
  s.setReg off ((s.reg off &&& (0xFFFFFFFF ^^^ m)) ||| (v &&& m))

/-- One pair of a REGS record (R655): every other field is judged as a slice 0 write. -/
def State.applyReg (s : State) (off v : Nat) : State :=
  let m := bootBits off
  if s.absentReg off || s.refAbsent off then s
  else if m = 0 then s.sysWrite ⟨.master 16, 15, BitVec.ofNat 32 v⟩ off
  else match findReg off with
    | some h =>
      let row := { h.row with fields := h.row.fields.filter (fun f => f.mask &&& m == 0) }
      (s.plainWrite { h with row := row } 16 off v).bootFields off v
    | none => s

/-- The REGS records, in their order; MBX_LOCK follows them (R587, R655). -/
def State.applyRegs (s : State) : State :=
  let s := (s.boot.recs.filter (fun r => r.ty == 4)).foldl (fun s r =>
    (regPairs r.data).foldl (fun s p => s.applyReg p.1 p.2) s) s
  if s.mbxLockDone then s else { s.setReg R.MBX_LOCK 1 with mbxLockDone := true }

/-! ## Stops and self-tests -/

/-- A BOOT entry. The mechanism table has no row for the class, so CODE is left open. -/
def State.bootEntry (s : State) (warn : Bool) : State :=
  s.draw.2.slagX 25 0 ((Config.undefWord s.draw.1 0).toNat % 256) {} warn (!warn)

/-- Start-up stops (R654, R656): FAULT_N is held until RESET_N. -/
def State.bootStop (s : State) (reason : Nat) : State :=
  ({ s with boot := { s.boot with failed := true, reason := reason } } : State).bootEntry false

/-- HRT_BOOT.STEP. -/
def State.setStep (s : State) (k : Nat) : State := { s with boot := { s.boot with step := k } }

/-- The fixed instances of one kind per output are checked (R607): the failed ones are noted, with an entry each. -/
def State.checkFixed (s : State) (e : BootEnv) : State :=
  let k := maskList s.nOut e.hardyCheckerFail
  let c := maskList s.nOut e.contentFail
  let s := { s with boot := { s.boot with checkerBad := maskOf k, contentBad := maskOf c } }
  (k ++ c).foldl (fun s n => s.slagX 22 n 0x12 { isolate := true } false false) s

/-- Temper's training or restore (R484, R485): TRAINED, or the channels that failed with an entry each. -/
def State.temper (s : State) (e : BootEnv) : State :=
  let bad := maskList s.nDrc e.temperFail
  if bad = [] then
    (s.setFlag R.DRC_STAT 0 true).modDram (fun d => { d with stored := true, storedTemp := d.temp })
  else
    bad.foldl (fun s c => s.slagX 10 c 0x15 { isolate := true } false false) (s.setFld R.DRC_STAT 6 4 (maskOf bad))

/-- Every present channel trained. -/
def State.trained (s : State) : Bool := s.flag R.DRC_STAT 0

/-- Engines, cores and general check units are tested (R220, R397, R606). -/
def State.retestUnits (s : State) (e : BootEnv) : State :=
  let s := s.retestEngines e.enginesFail
  let s := (s.modCru (fun c => { c with failed := 0 })).failCores (maskList s.nCores e.coresFail) 8 0x09
  let s := s.setFld R.CRC_STAT 0 8 e.unitsFail
  (maskList 8 e.unitsFail).foldl (fun s k => s.slagX 22 k 0x12 { isolate := true } false false) s

/-- The Anvil test (R656 step 8): every granule zero; a die with a channel that fails is unhealthy. -/
def State.testAnvil (s : State) (e : BootEnv) : State :=
  let s := s.modDisp (fun d => { d with anvil := [] })
  let s := s.setFld R.ANV_STAT 0 3 (2 ^ s.nDies - 1)
  ((maskList (8 * s.nDies) e.anvFail).foldl (fun s c => s.channelFail c) s).showFree

/-- The Hardy regions (R291), over the healthy dies in ascending order (R656). -/
def State.reserveHardy (s : State) : State :=
  let dies := [0, 1, 2].filter s.dieOk
  let k := dies.length
  if k = 0 then s else
  (foldN s.nOut (fun s n =>
    let base := 64 * dies.getD (n % k) 0 + 60 - 4 * (n / k)
    let gs := [base, base + 1, base + 2, base + 3]
    (s.setOwner gs (0x40 + n)).modHd n (fun h => { h with granules := gs })) s).showFree

/-! ## The sequence -/

/-- Steps 9 and 10 up to the seal (R656). -/
def State.toSeal (s : State) : State :=
  let s := (s.setStep 9).applyRegs
  let s := (s.setStep 10).reserveHardy
  if s.guestPool < 16 * s.nSlices then s.bootStop 0x0B
  else
    let s := (s.setFlag R.DRC_CTRL 0 true).shadowKeys allCovered
    let s := s.cfgSeal.setDrcPhase 2
    { s with boot := { s.boot with step := 0xF, sealedOnce := true } }

/-- A billet of a boot output record, as slice 0 would send it (R658). -/
def bootMsg (code : Nat) (pl : List Byte) : BilletMsg :=
  ⟨BitVec.ofNat 16 code, BitVec.ofNat 16 pl.length, 0, 0, 0, 0, 0, 0, 0, 0, pl⟩

/-- The billets of a boot output record, in the order of R658. -/
def outputMsgs (d : List Byte) : List BilletMsg :=
  [bootMsg 0x0300 (d.take 16), bootMsg 0x0303 ((d.drop 40).take 8),
   bootMsg 0x0301 (putAt ((d.drop 16).take 24) 2 0)] ++
  (if u32 d 48 = 1 then [bootMsg 0x0302 [BitVec.ofNat 8 (u8 d 0), 1, 0, 0]] else [])

/-- One of them takes effect, with no SEQ and no journal entry; none where it would fail. -/
def State.bootBillet (s : State) (m : BilletMsg) : Option State :=
  match opOf m.opcode with
  | none => none
  | some d =>
    if (firstFail (s.checkList s.projected 0 m d)).isSome then none else
    let e : JEntry := ⟨0, 0, .openIssued, none, ⟨0, 0, 0, false, false, 0, 0⟩, m, true, 0, none, none⟩
    let s := (d.issue s 0 e).commitAfter s (s.wroteBy m)
    some (s.modDisp (fun x => { x with outs := x.outs.map (fun o => { o with zeroSeq := none, seq := none }) }))

/-- A record is applied, or skipped whole with a BOOT entry of severity WARNING (R658). -/
def State.bootOutput (s : State) (r : BootRec) : State :=
  match (outputMsgs r.data).foldlM (fun s m => s.bootBillet m) s with
  | some s => s
  | none => s.bootEntry true

/-- Steps 6 to 10 and the boot output records (R656, R658); without REFCLK they wait (R659). -/
def State.fromStep6 (s : State) (e : BootEnv) : State :=
  let s := (s.setStep 6).setDrcPhase 1
  if !s.boot.refclkOk then { s with boot := { s.boot with waitRefclk := true } }
  else
    let s := ({ s with boot := { s.boot with waitRefclk := false } } : State).temper e
    if !s.trained then s.bootStop 0x09
    else
      let s := ((s.testAnvil e).retestUnits e).toSeal
      if s.boot.failed then s
      else
        let s := (s.boot.recs.filter (fun r => r.ty == 6)).foldl State.bootOutput s
        s.showLoads s

/-- Step 5 and what follows (R656, R658). -/
def State.fromStep5 (s : State) (e : BootEnv) (slotB fallback : Bool) (f : FlashSlot) : State :=
  let s := { s with boot := { s.boot with
    step := 5, slotB := slotB, fallback := fallback, imgVer := BitVec.ofNat 32 f.version } }
  match bootRecs (f.bootcfg.length + 1) f.bootcfg with
  | none => s.bootStop 0x07
  | some l =>
    if !s.recsOk l then s.bootStop 0x07
    else
      let s := (s.applyGlobal l).applyLimp f
      let s := { s with slag := { s.slag with hw := false } }
      let s := if s.boot.limpAtBoot then (s.modLimp (fun l => { l with forced := true })).limpTrigger else s
      s.fromStep6 e

/-- Start-up from step 3 (R656, R674). -/
def State.fromStep3 (s : State) (e : BootEnv) : State :=
  let s := ({ s with fuses := { s.fuses with rowsOk := false } } : State).setStep 3
  if !e.fusesOk then s.bootStop 0x08
  else
    let s := ({ s with fuses := { s.fuses with rowsOk := true } } : State).setStep 4
    if !e.flashOk then s.bootStop 0x01
    else match e.pick s.fuses.vfloor with
      | .none r => s.bootStop r
      | .image b fb f => s.fromStep5 e b fb f

/-- Start-up after power-on reset or RESET_N (R656). REFCLK is as `e` finds it; a CLOCK entry is made where it is missing
(R659). -/
def State.startUp (s : State) (e : BootEnv) : State :=
  let s := ({ s with boot := { s.boot with env := some e, refclkOk := e.refclk, xtal := !e.refclk } } : State).setStep 2
  let s := if e.refclk then s else s.slagErr 13 0 0x0E
  if !e.fixedOk then (s.slagErr 22 0 0x12).bootStop 0x0A
  else (s.checkFixed e).fromStep3 e

end Sys2Proof.Machine
end

