-- ==== Sys2Proof/Machine/Resets.lean ====
section
/-! DEFINITION. The resets and restarts: power-on reset, RESET_N, WARM_N and the RST block (R647-R650, R659), Knaby's watchdog,
restart and escalation (R638), the Hearth restart (R645), and the monitors (R637, R690-R692). -/
namespace Sys2Proof.Machine

/-- Hearth's firmware runs. -/
def State.hearthRuns (s : State) : Bool := 2 ≤ s.boot.step && !s.boot.hearthDown && s.power.st != 5

/-! ## Warm reset -/

/-- A commit that has not been applied anywhere loses its binding; the binding of one that has stays in the journal (R214). -/
def PCommit.unbind (c : PCommit) : PCommit := if c.applied = [] then { c with bound := [] } else c

/-- Steps 1 and 2 of R650: DRAM self-refresh, then the main domain in reset (R486, R539, R560, R584, R590). -/
def State.mainReset (s : State) (cause : Nat) : State :=
  let s := if s.flag R.DRC_STAT 1 then s else s.srEntered
  let s := (((s.setFlag R.DRC_STAT 0 false).setFlag R.DRC_CTRL 0 false).setFlag R.DRC_T_STAT 0 false).setDrcPhase 1
  let s := s.modDram (fun d => { d with waiting := [], rows := [], deferred := [] })
  let s := s.chimesCut E_RESET_CUT false
  let s := (List.range 8).foldl (fun s n => s.hapCut n false) s
  let s := (List.range 8).foldl (fun s n =>
    (s.endWriteback n false).modOu n (fun o => match o.pass with
      | .running | .complete => { o with pass := .idle }
      | _ => o)) s
  let s := s.modDisp (fun d => { d with commits := d.commits.map PCommit.unbind })
  let s := (s.clearLocks.clearChannels).restartCluster
  { s with
    slices := s.slices.map Slice.dropHand
    cfg := { s.cfg with sealed := false, opened := false }
    boot := { s.boot with warmStep := 2, warmCause := cause, rstPend := 0, rstBlk := 0 } }

/-- A warm reset request before the first seal: start-up goes back to step 6, and the third time it stops (R659). -/
def State.retryStart (s : State) : State :=
  let k := s.boot.warmTries + 1
  let s := { s with boot := { s.boot with warmTries := k } }
  if 3 ≤ k then ({ s with boot := { s.boot with waitRefclk := false } } : State).bootStop 0x0C
  else match s.boot.env with
    | some e => s.fromStep6 e
    | none => s

/-- A warm reset is requested (R647, R659): merged into one in progress; without a main domain there is nothing to reset. -/
def State.beginWarm (s : State) (cause : Nat) : State :=
  if s.boot.warmStep ≠ 0 || s.boot.failed || 3 ≤ s.power.st then s
  else if s.boot.sealedOnce then s.mainReset cause
  else if s.boot.waitRefclk then s.retryStart
  else s

/-- The members of a commit that have not applied bind to their next cut-off (R214). -/
def State.rebind (s : State) (c : PCommit) : PCommit :=
  { c with bound := c.bound.map (fun b => if c.applied.contains b.1 then b else (b.1, s.frameNo b.1 + 1)) }

/-- Steps 6 to 8 of R650: units retested, journal entries reattached or re-issued, the seal. -/
def State.recover (s : State) (e : BootEnv) : State :=
  let s := e.bodiesBad.foldl (fun s b => s.modSlice b.1 (fun x => x.modEntry b.2 (fun y => { y with bodyOk := false }))) s
  let s := s.retestUnits e
  let s := { s with boot := { s.boot with warmStep := 0, knabyDown := false } }
  let s := ((s.setDrcPhase 5).setFlag R.DRC_CTRL 0 true).modDisp (fun d => { d with commits := d.commits.map s.rebind })
  let s := (List.range 16).foldl (fun s n => s.reissue n (fun m => !isSafety m)) s
  let s := (s.setDrcPhase 3).modPair (fun p => { p with cutOk := p.cutOk.map (fun _ => 0) })
  s.cfgSeal

/-- Steps 3 to 8 of R650. -/
def State.finishWarm (s : State) (e : BootEnv) : State :=
  if s.boot.warmStep = 0 || s.boot.hearthDown || s.boot.warmLow || s.boot.failed then s
  else
    let c := s.boot.warmCause
    let s := { s with boot := { s.boot with env := some e } }
    if !e.fixedOk then (s.slagErr 22 0 0x12).bootStop 0x0A
    else
      let s := (s.checkFixed e).srLeft.temper e
      if !s.trained then s.bootStop 0x09
      else
        let s := s.recover e
        let s := { s with
          slag := { s.slag with warm := sat 8 (s.slag.warm + 1) }
          boot := { s.boot with
            rstPend := 0, rstBlk := 0, knabyTimes := []
            warm4Times := if c = 4 then s.time :: s.boot.warm4Times else s.boot.warm4Times } }
        (s.resetEntry c 0).catchUp

/-- WARM_N (R647): low for 200 ns or longer. -/
def execWarmN (s : State) : Out :=
  .next ({ s with boot := { s.boot with warmLow := true } }.beginWarm 2)

/-- WARM_N_RELEASE (R650 step 3). -/
def execWarmNRelease (e : BootEnv) (s : State) : Out :=
  .next ({ s with boot := { s.boot with warmLow := false } }.finishWarm e)

/-- WARM_RESET: the warm reset that RST_CTRL or an escalation asks for, or the rest of one that a Hearth restart held up (R638,
R647, R650, R659). -/
def execWarmReset (e : BootEnv) (s : State) : Out :=
  .next (
    if s.boot.warmStep ≠ 0 then s.finishWarm e
    else if bit s.boot.rstPend 1 then (s.beginWarm 3).finishWarm e
    else if bit s.boot.rstPend 2 then (s.beginWarm 4).finishWarm e
    else s)

/-! ## RESET_N and power-on reset -/

/-- RESET_N: held low for 10 us (R647, R648). -/
def execResetN (s : State) : Out :=
  .next (
    let s := s.holdReset
    { s with boot := { s.boot with resetLow := true, mainEn := true } })

/-- RESET_N_RELEASE: start-up begins at step 1 of R656 once the main rails are good (R633, R691). -/
def execResetNRelease (e : BootEnv) (s : State) : Out :=
  .next (
    if !s.boot.resetLow then s else
    let s := ({ s with boot := { s.boot with resetLow := false } } : State).resetEntry 6 0
    if s.boot.mainPg then s.startUp e else s)

/-- POWER_ON_RESET: the always-on supplies come up; `pg` says that MAIN_PG is already high (R647, R656, R691). -/
def execPowerOnReset (e : BootEnv) (pg : Bool) (s : State) : Out :=
  .next (
    let s := s.clearAll false
    let s := { s with boot := { s.boot with mainEn := true, mainPg := pg } }
    if pg && !s.boot.resetLow then s.startUp e else s)

/-- MAIN_PG_TIMEOUT: MAIN_PG is not high within 50 ms of MAIN_EN, which Hearth cycles (R691). -/
def execMainPgTimeout (s : State) : Out :=
  .next (if s.boot.mainEn && !s.boot.mainPg then s.slagX 14 0 0x0F {} false true else s)

/-- MAIN_PG_FALL: as RESET_N held low until MAIN_PG returns, with a POWER entry (R692). -/
def execMainPgFall (s : State) : Out :=
  .next (
    if s.boot.mainEn && s.boot.mainPg then
      let s := s.holdReset
      ({ s with boot := { s.boot with mainEn := true, mainPg := false, pgHold := true } } : State).slagErr 14 0 0x0F
    else s)

/-- MAIN_PG_RISE: MAIN_PG has been high for 1 ms (R691, R692). -/
def execMainPgRise (e : BootEnv) (s : State) : Out :=
  .next (
    if s.boot.mainPg || !s.boot.mainEn then s else
    let held := s.boot.pgHold
    let s := { s with boot := { s.boot with mainPg := true, pgHold := false } }
    let s := if held then s.resetEntry 6 0 else s
    if s.boot.step = 0 && !s.boot.resetLow then s.startUp e else s)

/-! ## Knaby -/

/-- Knaby runs or would run: its watchdogs are timed. -/
def State.knabyAlive (s : State) : Bool :=
  s.boot.sealedOnce && !s.boot.failed && !s.knabyAway && s.boot.warmStep == 0 && s.power.st ≤ 1

/-- Knaby leaves: STAGED and what was in hand are discarded, its locks freed, its channels cleared (R68, R584, R590). -/
def State.knabyLeaves (s : State) : State :=
  let s := { s with slices := s.slices.map Slice.dropHand }
  (((s.forceLocks 1).forceLocks 2).rxResetStart 1).rxResetStart 2

/-- Takeover of output `n` is asked of the partner (R450, R638). -/
def State.askTake (s : State) (n : Nat) : State :=
  if s.pair.ask.any (fun a => a.1 == n) then s
  else
    let f := (s.hd n).last.getD (s.frameNo n)
    (s.modPair (fun p => { p with ask := (n, f) :: p.ask })).ulxSend (.tkoRequest n f)

/-- The second escalation within 300 s: Knaby stays stopped until RESET_N (R638). -/
def State.stopKnaby (s : State) : State :=
  let held := if s.welded then (List.range s.nOut).filter s.holds else []
  let limp := s.boot.limpOnEscalate
  let s := { s.knabyLeaves with boot := { s.boot with knabyStopped := true, knabyDown := false, rstPend := 0 } }
  let s := s.slagX 18 0 0x11 { takeover := held != [], limp := limp } false true
  let s := if limp then (s.modLimp (fun l => { l with forced := true })).limpTrigger else s
  held.foldl State.askTake s

/-- A Knaby restart falls due: it is counted; the third within 60 s becomes a warm reset of cause 4, and the second of those
within 300 s stops Knaby (R638). -/
def State.knabyDue (s : State) : State :=
  let l := s.time :: s.boot.knabyTimes.filter (fun t => s.time < t + 60000000)
  if l.length < 3 then { s with boot := { s.boot with knabyDown := true, knabyTimes := l } }
  else if s.boot.warm4Times.any (fun t => s.time < t + 300000000) then s.stopKnaby
  else { s with boot := { s.boot with knabyDown := true, knabyTimes := [], rstPend := s.boot.rstPend ||| 4 } }

/-- KNABY_WATCHDOG (R637, R638). -/
def execKnabyWatchdog (core : Fin 2) (s : State) : Out :=
  .next (if s.knabyAlive && s.hearthRuns then (s.slagX 18 core.val 0x11 { reset := true } false false).knabyDue else s)

/-- QUENCH_OVERDUE: the quench of slice `n` passes its bound (R157, R638). -/
def execQuenchOverdue (n : Fin 16) (s : State) : Out :=
  .next (
    if s.knabyAlive && s.hearthRuns && (s.slice n.val).qstat.busy then
      (s.slagX 18 n.val 0x11 { reset := true } false false).knabyDue
    else s)

/-- Knaby starts again (R68, R584, R590, R624, R633): OPEN entries are reattached as they are. -/
def State.knabyBack (s : State) : State :=
  let s := s.knabyLeaves
  let s := { s with
    slag := { s.slag with knaby := sat 8 (s.slag.knaby + 1) }
    boot := { s.boot with knabyDown := false } }
  let s := (((s.rxResetEnd 1).rxResetEnd 2).resetEntry 1 0).cfgKnabyBack
  s.catchUp

/-- KNABY_RESTART (R638, R647): absorbed by a warm reset (R659). -/
def execKnabyRestart (s : State) : Out :=
  .next (
    let b := s.boot
    if !b.sealedOnce || b.failed || b.knabyStopped || !s.hearthRuns || 2 ≤ s.power.st then s
    else if b.warmStep ≠ 0 then { s with boot := { b with rstPend := b.rstPend &&& 6 } }
    else if bit b.rstPend 2 then s
    else if b.knabyDown then s.knabyBack
    else if bit b.rstPend 0 then
      let s := ({ s with boot := { b with rstPend := b.rstPend &&& 6 } } : State).knabyDue
      if s.boot.knabyDown && !bit s.boot.rstPend 2 then s.knabyBack else s
    else s)

/-! ## Hearth -/

/-- The Hearth cores stop (R634, R645): the hardware hold, the heartbeat and the outputs; the HEARTH entry with its code waits.
In a pair the partner holds the outputs from now on (R448, R452). -/
def State.hearthStops (s : State) (code : Nat) : State :=
  if !s.hearthRuns then s else
  let s := { s with slag := { s.slag with hw := true }, boot := { s.boot with hearthDown := true } }
  let s := if s.welded then
      (s.setFld R.ULX_HOLD 8 8 (s.fld R.ULX_HOLD 8 8 ||| s.fld R.ULX_HOLD 0 8)).setFld R.ULX_HOLD 0 8 0
    else s
  s.slagErr 4 0 code

/-- LOCKSTEP_MISMATCH (R645). -/
def execLockstepMismatch (s : State) : Out := .next (s.hearthStops 0x05)

/-- HEARTH_RESUME (R641, R645): held entries are made in class order; each output held is driven again, with a link start. -/
def execHearthResume (s : State) : Out :=
  .next (
    if !s.boot.hearthDown then s else
    let held := sortBy (fun (h : SlagEntry × Bool) => h.1.cls) s.slag.held
    let s := { s with
      slag := { s.slag with hw := false, held := [], hearth := sat 8 (s.slag.hearth + 1) }
      boot := { s.boot with hearthDown := false } }
    let s := (held.foldl (fun s h => s.slagEntry h.1 h.2) s).resetEntry 5 0
    (List.range s.nOut).foldl (fun s n => if s.scanning n && s.drives n then s.setLnk n 1 else s) s)

/-! ## Monitors -/

/-- CLOCK_MONITOR: one 10 us window. `refclk` and `hrt`: REFCLK and the HRT clock are within their limits; `bad`: the other
clocks that are not (R637, R646, R659). A clock that leaves its limits makes an entry. -/
def execClockMonitor (refclk hrt : Bool) (bad : BitVec 16) (s : State) : Out :=
  .next (
    if !s.hearthRuns then s
    else if !hrt then s.hearthStops 0x0E
    else
      let now := bad.toNat + 2 ^ 16 * b2n (!refclk)
      let fresh := (maskList 17 now).any (fun i => !bit s.boot.clockBad i)
      let s := if fresh then s.slagErr 13 0 0x0E else s
      let s := { s with boot := { s.boot with clockBad := now, refclkOk := refclk, xtal := !refclk } }
      match s.boot.env, s.boot.waitRefclk && refclk with
      | some e, true => s.fromStep6 e
      | _, _ => s)

/-- SUPPLY_TRIP: the supplies outside their windows (R637); one that leaves its window makes an entry. -/
def execSupplyTrip (bad : BitVec 12) (s : State) : Out :=
  .next (
    if !s.hearthRuns then s else
    let fresh := (maskList 12 bad.toNat).any (fun i => !bit s.boot.supplyBad i)
    let s := if fresh then s.slagErr 14 0 0x0F else s
    { s with boot := { s.boot with supplyBad := bad.toNat } })

/-- Largest junction temperature of the grade in degrees C (R1). -/
def State.gradeMax (s : State) : Int := if s.fuses.gradeE then 125 else 105

/-- TEMP_POLL: the four junction sensors, in degrees C (R637). -/
def execTempPoll (t0 t1 t2 t3 : Int) (s : State) : Out :=
  .next (
    if !s.hearthRuns then s else
    let hot := [t0, t1, t2, t3].filter (fun t => s.gradeMax < t)
    let s := hot.foldl (fun s _ => s.slagErr 15 0 0x10) s
    { s with boot := { s.boot with thermalBad := hot.length } })

/-- AVS_TARGET: 0.68 V and `t` steps of 5 mV (R690). -/
def execAvsTarget (t : Fin 35) (s : State) : Out :=
  .next (if s.hearthRuns then s.setFld R.HRT_AVS 0 10 (680 + 5 * t.val) else s)

/-- AVS_STEP: the rail moves by at most 5 mV towards the target; `ack` says that the PMIC acknowledged, `read` is what it reports
(R690). -/
def execAvsStep (ack : Bool) (read : BitVec 10) (s : State) : Out :=
  .next (
    let t := s.fld R.HRT_AVS 0 10
    let v := s.boot.avsMv
    if !s.hearthRuns || t = v then s
    else if ack then
      let v := if v < t then min t (v + 5) else max t (v - 5)
      ({ s with boot := { s.boot with avsMv := v } } : State).setFld R.HRT_AVS 10 10 read.toNat
    else (s.setFlag R.HRT_AVS 20 true).slagWarn 14 0 0x0F)

/-! ## The Bellows ladder -/

/-- WAKE_EVENT: sources fire in one AON cycle (R668, R670). -/
def execWakeEvent (mask : BitVec 6) (group : Fin 8) (s : State) : Out := .next (s.wake mask.toNat group.val)

/-- Output `n` has reached SELF_REFRESH, or transfers no frame in DSI command mode (R667 step 2). -/
def State.atRest (s : State) (n : Nat) : Bool := s.lnk n == 4 || cfgLink (s.linkCfg n) == 3

/-- DAMP_LINKS_READY (R667 step 2). -/
def execDampLinksReady (s : State) : Out :=
  .next (
    if s.power.step = 2 && (List.range s.nOut).all (fun n => !(s.ou n).enabled || s.atRest n) then s.dampIn else s)

/-- PWR_STATE billets that wait for RUN are complete (R666). -/
def State.runReached (s : State) : State :=
  (s.slice 0).journal.foldl (fun s e =>
    if e.st == .openIssued && e.body.opcode == 0x0A00 && u8 e.body.payload 0 == 0 then s.completeLo 0 e.seq S_DONE 0 else s) s

/-- The ladder after an exit from state `st`: RUN, with the restore of R672 ahead (R663, R678). -/
def Power.left (p : Power) (now : Nat) : Power :=
  { p with
    st := 0, step := 0, exiting := false, entering := false, restoring := true, resState := p.st, resMs := (now - p.since) / 1000
    since := now }

/-- POWER_EXIT_DONE: the supplies, clocks and PLLs of the state are stable (R663, R671, R674). -/
def execPowerExitDone (s : State) : Out :=
  .next (
    if !s.power.exiting then s else
    let old := s.power.st
    let s := (s.modPow (fun p => p.left s.time)).runReached
    if old ≤ 1 then s
    else if old = 2 then
      let s := (List.range s.nOut).foldl (fun s n => if (s.ou n).enabled then (s.freshGenlock n).updSusp n else s) s
      s.catchUp
    else
      let s := { s with boot := { s.boot with mainEn := true, mainPg := true } }
      if old < 5 then s
      else { s with
        time := 0
        power := { Power.reset with
          cause := s.power.cause, group := s.power.group, merged := s.power.merged, count := s.power.count
          resState := 5, resMs := s.power.resMs, restoring := true } })

/-- The restore of R672 and R673 after BANK or EMBER. -/
def State.restoreMain (s : State) (e : BootEnv) : State :=
  let s := ({ s with boot := { s.boot with env := some e } } : State).temper e
  if !s.trained then s.bootStop 0x09
  else
    let s := s.rewriteAll
    let s := (s.boot.recs.filter (fun r => r.ty == 4)).foldl (fun s r =>
      (regPairs r.data).foldl (fun s p =>
        if p.1 = R.NET_CFG || p.1 = R.AUD_BYP then s.bootFields p.1 p.2 else s) s) s
    let s := foldN s.nOut (fun s n =>
      let f := (s.power.savedFrames.getD n 0).toNat
      (s.setReg (R.SCN_OUT_FRAME n) f).setReg (R.CMP_OUT_FRAME n) f) s
    let s := (s.setReg R.ANV_STAT (s.reg R.ANV_STAT &&& 0x17)).modDisp (fun d => { d with anvil := [] })
    let s := s.showFree.recover e
    (List.range 8).foldl (fun s g => s.deliverRing g) s

/-- POWER_RESTORE_DONE: the restore after leaving a state ends (R672-R674). -/
def execPowerRestoreDone (e : BootEnv) (s : State) : Out :=
  .next (
    if !s.power.restoring then s else
    let old := s.power.resState
    let s := s.modPow (fun p => { p with restoring := false })
    if old ≤ 2 then s.catchUp
    else if old < 5 then (s.restoreMain e).catchUp
    else s.startUp e)

end Sys2Proof.Machine
end

