-- ==== Sys2Proof/Machine/Dispatch.lean ====
section
/-! DEFINITION. One arm per command: a direct call of its meaning. -/
namespace Sys2Proof.Machine

/-- The effect of a command on everything but the queue. -/
def exec (i : Instr) (s : State) : Host.Outcome State Fault Refusal :=
  match i with
  | .billetFetch n raw => Sys2Proof.Machine.execBilletFetch n raw s
  | .billetDatagram d => Sys2Proof.Machine.execBilletDatagram d s
  | .replyDatagram n => Sys2Proof.Machine.execReplyDatagram n s
  | .slcDbWrite n a => Sys2Proof.Machine.execSlcDbWrite n a s
  | .slcRqHeadWrite n a => Sys2Proof.Machine.execSlcRqHeadWrite n a s
  | .slotValueRead n k a => Sys2Proof.Machine.execSlotValueRead n k a s
  | .slotReleaseWrite n hi a => Sys2Proof.Machine.execSlotReleaseWrite n hi a s
  | .fenceWaitEnd n => Sys2Proof.Machine.execFenceWaitEnd n s
  | .windowWaitEnd n => Sys2Proof.Machine.execWindowWaitEnd n s
  | .effectIssue n => Sys2Proof.Machine.execEffectIssue n s
  | .effectComplete n seq r => Sys2Proof.Machine.execEffectComplete n seq r s
  | .nop b => Sys2Proof.Machine.execNop b s
  | .sliceInfo b => Sys2Proof.Machine.execSliceInfo b s
  | .slotRead b => Sys2Proof.Machine.execSlotRead b s
  | .slotRelease b => Sys2Proof.Machine.execSlotRelease b s
  | .sliceConfig b => Sys2Proof.Machine.execSliceConfig b s
  | .sliceReset b => Sys2Proof.Machine.execSliceReset b s
  | .dirtyLogStart b => Sys2Proof.Machine.execDirtyLogStart b s
  | .dirtyLogFlush b => Sys2Proof.Machine.execDirtyLogFlush b s
  | .dirtyLogStop b => Sys2Proof.Machine.execDirtyLogStop b s
  | .regRead b => Sys2Proof.Machine.execRegRead b s
  | .regWrite b => Sys2Proof.Machine.execRegWrite b s
  | .surfCreate b => Sys2Proof.Machine.execSurfCreate b s
  | .surfFree b => Sys2Proof.Machine.execSurfFree b s
  | .surfUpload b => Sys2Proof.Machine.execSurfUpload b s
  | .surfWrite b => Sys2Proof.Machine.execSurfWrite b s
  | .surfReadback b => Sys2Proof.Machine.execSurfReadback b s
  | .surfFill b => Sys2Proof.Machine.execSurfFill b s
  | .surfCopy b => Sys2Proof.Machine.execSurfCopy b s
  | .layerAssign b => Sys2Proof.Machine.execLayerAssign b s
  | .layerSet b => Sys2Proof.Machine.execLayerSet b s
  | .commit b => Sys2Proof.Machine.execCommit b s
  | .stageDiscard b => Sys2Proof.Machine.execStageDiscard b s
  | .writeback b => Sys2Proof.Machine.execWriteback b s
  | .outConfig b => Sys2Proof.Machine.execOutConfig b s
  | .setTimingLoad b => Sys2Proof.Machine.execSetTimingLoad b s
  | .setTimingSwitch b => Sys2Proof.Machine.execSetTimingSwitch b s
  | .setTimingReprogram b => Sys2Proof.Machine.execSetTimingReprogram b s
  | .outEnable b => Sys2Proof.Machine.execOutEnable b s
  | .outDisable b => Sys2Proof.Machine.execOutDisable b s
  | .anvAlloc b => Sys2Proof.Machine.execAnvAlloc b s
  | .colourLoad b => Sys2Proof.Machine.execColourLoad b s
  | .scalerLoad b => Sys2Proof.Machine.execScalerLoad b s
  | .backlight b => Sys2Proof.Machine.execBacklight b s
  | .hardyRegion b => Sys2Proof.Machine.execHardyRegion b s
  | .hardyWrite b => Sys2Proof.Machine.execHardyWrite b s
  | .hardyCopy b => Sys2Proof.Machine.execHardyCopy b s
  | .hardyCommit b => Sys2Proof.Machine.execHardyCommit b s
  | .hardyAck b => Sys2Proof.Machine.execHardyAck b s
  | .limpLoad b => Sys2Proof.Machine.execLimpLoad b s
  | .limpCtrlForce b => Sys2Proof.Machine.execLimpCtrlForce b s
  | .limpCtrlRelease b => Sys2Proof.Machine.execLimpCtrlRelease b s
  | .limpCtrlReactive b => Sys2Proof.Machine.execLimpCtrlReactive b s
  | .jobRaster b => Sys2Proof.Machine.execJobRaster b s
  | .jobCompute b => Sys2Proof.Machine.execJobCompute b s
  | .audRoute b => Sys2Proof.Machine.execAudRoute b s
  | .audGain b => Sys2Proof.Machine.execAudGain b s
  | .audStreamOpen b => Sys2Proof.Machine.execAudStreamOpen b s
  | .audStreamClose b => Sys2Proof.Machine.execAudStreamClose b s
  | .audEq b => Sys2Proof.Machine.execAudEq b s
  | .audDyn b => Sys2Proof.Machine.execAudDyn b s
  | .chimePlay b => Sys2Proof.Machine.execChimePlay b s
  | .chimeStop b => Sys2Proof.Machine.execChimeStop b s
  | .audAssign b => Sys2Proof.Machine.execAudAssign b s
  | .tchGroup b => Sys2Proof.Machine.execTchGroup b s
  | .tchEnable b => Sys2Proof.Machine.execTchEnable b s
  | .tchDisable b => Sys2Proof.Machine.execTchDisable b s
  | .tchReports b => Sys2Proof.Machine.execTchReports b s
  | .hapConfig b => Sys2Proof.Machine.execHapConfig b s
  | .hapPlay b => Sys2Proof.Machine.execHapPlay b s
  | .hapBind b => Sys2Proof.Machine.execHapBind b s
  | .avtpListen b => Sys2Proof.Machine.execAvtpListen b s
  | .avtpTalk b => Sys2Proof.Machine.execAvtpTalk b s
  | .avtpClose b => Sys2Proof.Machine.execAvtpClose b s
  | .netGate b => Sys2Proof.Machine.execNetGate b s
  | .pairWeld b => Sys2Proof.Machine.execPairWeld b s
  | .pairUnweld b => Sys2Proof.Machine.execPairUnweld b s
  | .pairSwitch b => Sys2Proof.Machine.execPairSwitch b s
  | .pairXcheck b => Sys2Proof.Machine.execPairXcheck b s
  | .pwrStateRun b => Sys2Proof.Machine.execPwrStateRun b s
  | .pwrStateHold b => Sys2Proof.Machine.execPwrStateHold b s
  | .pwrStateDamp b => Sys2Proof.Machine.execPwrStateDamp b s
  | .pwrStateBank b => Sys2Proof.Machine.execPwrStateBank b s
  | .pwrStateEmber b => Sys2Proof.Machine.execPwrStateEmber b s
  | .pwrStateAsh b => Sys2Proof.Machine.execPwrStateAsh b s
  | .pwrWake b => Sys2Proof.Machine.execPwrWake b s
  | .slagRead b => Sys2Proof.Machine.execSlagRead b s
  | .slagClear b => Sys2Proof.Machine.execSlagClear b s
  | .crcRun b => Sys2Proof.Machine.execCrcRun b s
  | .selftestTouch b => Sys2Proof.Machine.execSelftestTouch b s
  | .selftestHaptic b => Sys2Proof.Machine.execSelftestHaptic b s
  | .selftestCheckUnit b => Sys2Proof.Machine.execSelftestCheckUnit b s
  | .faultInject b => Sys2Proof.Machine.execFaultInject b s
  | .quench d => Sys2Proof.Machine.execQuench d s
  | .quenchJob n arg a => Sys2Proof.Machine.execQuenchJob n arg a s
  | .quenchDma n arg a => Sys2Proof.Machine.execQuenchDma n arg a s
  | .quenchAudio n arg a => Sys2Proof.Machine.execQuenchAudio n arg a s
  | .quenchComposition n arg a => Sys2Proof.Machine.execQuenchComposition n arg a s
  | .quenchSlice n arg a => Sys2Proof.Machine.execQuenchSlice n arg a s
  | .quenchDevice n arg a => Sys2Proof.Machine.execQuenchDevice n arg a s
  | .cutOff n e => Sys2Proof.Machine.execCutOff n e s
  | .commitBind n seq => Sys2Proof.Machine.execCommitBind n seq s
  | .passComplete n us bad merges tile parity finish => Sys2Proof.Machine.execPassComplete n us bad merges tile parity finish s
  | .scalerCopyDone k => Sys2Proof.Machine.execScalerCopyDone k s
  | .colourCopyDone n => Sys2Proof.Machine.execColourCopyDone n s
  | .hardyResult n r f crc => Sys2Proof.Machine.execHardyResult n r f crc s
  | .hardyVerdict n f expErr => Sys2Proof.Machine.execHardyVerdict n f expErr s
  | .hardyExpectedDone n agree => Sys2Proof.Machine.execHardyExpectedDone n agree s
  | .hardyCopybackDone n => Sys2Proof.Machine.execHardyCopybackDone n s
  | .xcheckTimeout n => Sys2Proof.Machine.execXcheckTimeout n s
  | .anvZeroFillDone n => Sys2Proof.Machine.execAnvZeroFillDone n s
  | .bar2Write p addr bytes lost => Sys2Proof.Machine.execBar2Write p addr bytes lost s
  | .switchSelect n => Sys2Proof.Machine.execSwitchSelect n s
  | .panelOnDelayEnd n => Sys2Proof.Machine.execPanelOnDelayEnd n s
  | .pllLock n => Sys2Proof.Machine.execPllLock n s
  | .linkStartDone n bad fast psr psr2 gran => Sys2Proof.Machine.execLinkStartDone n bad fast psr psr2 gran s
  | .backlightOnDelayEnd n => Sys2Proof.Machine.execBacklightOnDelayEnd n s
  | .backlightOffDelayEnd n => Sys2Proof.Machine.execBacklightOffDelayEnd n s
  | .panelOffDelayEnd n => Sys2Proof.Machine.execPanelOffDelayEnd n s
  | .blPwmPeriod n us => Sys2Proof.Machine.execBlPwmPeriod n us s
  | .anvScrubGranule fixed ue => Sys2Proof.Machine.execAnvScrubGranule fixed ue s
  | .anvDieFail c => Sys2Proof.Machine.execAnvDieFail c s
  | .anvHardyRelocated n => Sys2Proof.Machine.execAnvHardyRelocated n s
  | .hpdUnplug n => Sys2Proof.Machine.execHpdUnplug n s
  | .hpdIrq n lost => Sys2Proof.Machine.execHpdIrq n lost s
  | .hpdReplug n => Sys2Proof.Machine.execHpdReplug n s
  | .linkRetry n => Sys2Proof.Machine.execLinkRetry n s
  | .auxGo n a => Sys2Proof.Machine.execAuxGo n a s
  | .auxReply n code data => Sys2Proof.Machine.execAuxReply n code data s
  | .auxTimeout n => Sys2Proof.Machine.execAuxTimeout n s
  | .dsiGo n a => Sys2Proof.Machine.execDsiGo n a s
  | .dsiPacketSend n fits resp ackErr => Sys2Proof.Machine.execDsiPacketSend n fits resp ackErr s
  | .teReport n => Sys2Proof.Machine.execTeReport n s
  | .teLost n => Sys2Proof.Machine.execTeLost n s
  | .psrEntry n => Sys2Proof.Machine.execPsrEntry n s
  | .psrRefresh n => Sys2Proof.Machine.execPsrRefresh n s
  | .takeOutput n => Sys2Proof.Machine.execTakeOutput n s
  | .rasCmdNop => Sys2Proof.Machine.execRasCmdNop s
  | .rasEnd => Sys2Proof.Machine.execRasEnd s
  | .rasViewport => Sys2Proof.Machine.execRasViewport s
  | .rasScissor => Sys2Proof.Machine.execRasScissor s
  | .rasRaster => Sys2Proof.Machine.execRasRaster s
  | .rasDepth => Sys2Proof.Machine.execRasDepth s
  | .rasStencil => Sys2Proof.Machine.execRasStencil s
  | .rasBlend => Sys2Proof.Machine.execRasBlend s
  | .rasShaders => Sys2Proof.Machine.execRasShaders s
  | .rasVertices => Sys2Proof.Machine.execRasVertices s
  | .rasDraw => Sys2Proof.Machine.execRasDraw s
  | .rasClear => Sys2Proof.Machine.execRasClear s
  | .quantumBoundary bad parity => Sys2Proof.Machine.execQuantumBoundary bad parity s
  | .issueStall core => Sys2Proof.Machine.execIssueStall core s
  | .workgroupDispatch => Sys2Proof.Machine.execWorkgroupDispatch s
  | .shadingDispatch => Sys2Proof.Machine.execShadingDispatch s
  | .memoryReturn slice core slot bad => Sys2Proof.Machine.execMemoryReturn slice core slot bad s
  | .cruMov core => Sys2Proof.Machine.execCruMov core s
  | .cruIadd core => Sys2Proof.Machine.execCruIadd core s
  | .cruIsub core => Sys2Proof.Machine.execCruIsub core s
  | .cruImul core => Sys2Proof.Machine.execCruImul core s
  | .cruImulhiU core => Sys2Proof.Machine.execCruImulhiU core s
  | .cruImulhiS core => Sys2Proof.Machine.execCruImulhiS core s
  | .cruImad core => Sys2Proof.Machine.execCruImad core s
  | .cruAnd core => Sys2Proof.Machine.execCruAnd core s
  | .cruOr core => Sys2Proof.Machine.execCruOr core s
  | .cruXor core => Sys2Proof.Machine.execCruXor core s
  | .cruAndn core => Sys2Proof.Machine.execCruAndn core s
  | .cruShl core => Sys2Proof.Machine.execCruShl core s
  | .cruShr core => Sys2Proof.Machine.execCruShr core s
  | .cruSar core => Sys2Proof.Machine.execCruSar core s
  | .cruIminS core => Sys2Proof.Machine.execCruIminS core s
  | .cruImaxS core => Sys2Proof.Machine.execCruImaxS core s
  | .cruIminU core => Sys2Proof.Machine.execCruIminU core s
  | .cruImaxU core => Sys2Proof.Machine.execCruImaxU core s
  | .cruIsetp core => Sys2Proof.Machine.execCruIsetp core s
  | .cruSel core => Sys2Proof.Machine.execCruSel core s
  | .cruBfe core => Sys2Proof.Machine.execCruBfe core s
  | .cruBfi core => Sys2Proof.Machine.execCruBfi core s
  | .cruPopc core => Sys2Proof.Machine.execCruPopc core s
  | .cruClz core => Sys2Proof.Machine.execCruClz core s
  | .cruBrev core => Sys2Proof.Machine.execCruBrev core s
  | .cruFadd core => Sys2Proof.Machine.execCruFadd core s
  | .cruFsub core => Sys2Proof.Machine.execCruFsub core s
  | .cruFmul core => Sys2Proof.Machine.execCruFmul core s
  | .cruFfma core => Sys2Proof.Machine.execCruFfma core s
  | .cruFmin core => Sys2Proof.Machine.execCruFmin core s
  | .cruFmax core => Sys2Proof.Machine.execCruFmax core s
  | .cruFsetp core => Sys2Proof.Machine.execCruFsetp core s
  | .cruFdiv core => Sys2Proof.Machine.execCruFdiv core s
  | .cruFrcp core => Sys2Proof.Machine.execCruFrcp core s
  | .cruFsqrt core => Sys2Proof.Machine.execCruFsqrt core s
  | .cruFrsq core => Sys2Proof.Machine.execCruFrsq core s
  | .cruFfloor core => Sys2Proof.Machine.execCruFfloor core s
  | .cruFceil core => Sys2Proof.Machine.execCruFceil core s
  | .cruFtrunc core => Sys2Proof.Machine.execCruFtrunc core s
  | .cruFrint core => Sys2Proof.Machine.execCruFrint core s
  | .cruFfract core => Sys2Proof.Machine.execCruFfract core s
  | .cruHadd2 core => Sys2Proof.Machine.execCruHadd2 core s
  | .cruHsub2 core => Sys2Proof.Machine.execCruHsub2 core s
  | .cruHmul2 core => Sys2Proof.Machine.execCruHmul2 core s
  | .cruHfma2 core => Sys2Proof.Machine.execCruHfma2 core s
  | .cruHmin2 core => Sys2Proof.Machine.execCruHmin2 core s
  | .cruHmax2 core => Sys2Proof.Machine.execCruHmax2 core s
  | .cruHsetp2 core => Sys2Proof.Machine.execCruHsetp2 core s
  | .cruHdot2 core => Sys2Proof.Machine.execCruHdot2 core s
  | .cruF2i core => Sys2Proof.Machine.execCruF2i core s
  | .cruI2f core => Sys2Proof.Machine.execCruI2f core s
  | .cruF2h core => Sys2Proof.Machine.execCruF2h core s
  | .cruH2f core => Sys2Proof.Machine.execCruH2f core s
  | .cruF2un core => Sys2Proof.Machine.execCruF2un core s
  | .cruUn2f core => Sys2Proof.Machine.execCruUn2f core s
  | .cruPlop core => Sys2Proof.Machine.execCruPlop core s
  | .cruXsave core => Sys2Proof.Machine.execCruXsave core s
  | .cruXload core => Sys2Proof.Machine.execCruXload core s
  | .cruXand core => Sys2Proof.Machine.execCruXand core s
  | .cruXset core => Sys2Proof.Machine.execCruXset core s
  | .cruP2r core => Sys2Proof.Machine.execCruP2r core s
  | .cruPredFromReg core => Sys2Proof.Machine.execCruPredFromReg core s
  | .cruShfl core => Sys2Proof.Machine.execCruShfl core s
  | .cruRdlane core => Sys2Proof.Machine.execCruRdlane core s
  | .cruBra core => Sys2Proof.Machine.execCruBra core s
  | .cruCall core => Sys2Proof.Machine.execCruCall core s
  | .cruJmp core => Sys2Proof.Machine.execCruJmp core s
  | .cruSysNop core => Sys2Proof.Machine.execCruSysNop core s
  | .cruHdr core => Sys2Proof.Machine.execCruHdr core s
  | .cruExit core => Sys2Proof.Machine.execCruExit core s
  | .cruDiscard core => Sys2Proof.Machine.execCruDiscard core s
  | .cruTrap core => Sys2Proof.Machine.execCruTrap core s
  | .cruSread core => Sys2Proof.Machine.execCruSread core s
  | .cruFence core => Sys2Proof.Machine.execCruFence core s
  | .cruLdScratch core => Sys2Proof.Machine.execCruLdScratch core s
  | .cruStScratch core => Sys2Proof.Machine.execCruStScratch core s
  | .cruLdGlobal core => Sys2Proof.Machine.execCruLdGlobal core s
  | .cruStGlobal core => Sys2Proof.Machine.execCruStGlobal core s
  | .cruScratchAtomAdd core => Sys2Proof.Machine.execCruScratchAtomAdd core s
  | .cruScratchAtomSmin core => Sys2Proof.Machine.execCruScratchAtomSmin core s
  | .cruScratchAtomSmax core => Sys2Proof.Machine.execCruScratchAtomSmax core s
  | .cruScratchAtomUmin core => Sys2Proof.Machine.execCruScratchAtomUmin core s
  | .cruScratchAtomUmax core => Sys2Proof.Machine.execCruScratchAtomUmax core s
  | .cruScratchAtomAnd core => Sys2Proof.Machine.execCruScratchAtomAnd core s
  | .cruScratchAtomOr core => Sys2Proof.Machine.execCruScratchAtomOr core s
  | .cruScratchAtomXor core => Sys2Proof.Machine.execCruScratchAtomXor core s
  | .cruScratchAtomExch core => Sys2Proof.Machine.execCruScratchAtomExch core s
  | .cruScratchAtomCas core => Sys2Proof.Machine.execCruScratchAtomCas core s
  | .cruScratchAtomFadd core => Sys2Proof.Machine.execCruScratchAtomFadd core s
  | .cruGlobalAtomAdd core => Sys2Proof.Machine.execCruGlobalAtomAdd core s
  | .cruGlobalAtomSmin core => Sys2Proof.Machine.execCruGlobalAtomSmin core s
  | .cruGlobalAtomSmax core => Sys2Proof.Machine.execCruGlobalAtomSmax core s
  | .cruGlobalAtomUmin core => Sys2Proof.Machine.execCruGlobalAtomUmin core s
  | .cruGlobalAtomUmax core => Sys2Proof.Machine.execCruGlobalAtomUmax core s
  | .cruGlobalAtomAnd core => Sys2Proof.Machine.execCruGlobalAtomAnd core s
  | .cruGlobalAtomOr core => Sys2Proof.Machine.execCruGlobalAtomOr core s
  | .cruGlobalAtomXor core => Sys2Proof.Machine.execCruGlobalAtomXor core s
  | .cruGlobalAtomExch core => Sys2Proof.Machine.execCruGlobalAtomExch core s
  | .cruGlobalAtomCas core => Sys2Proof.Machine.execCruGlobalAtomCas core s
  | .cruGlobalAtomFadd core => Sys2Proof.Machine.execCruGlobalAtomFadd core s
  | .cruSample core => Sys2Proof.Machine.execCruSample core s
  | .cruFetch core => Sys2Proof.Machine.execCruFetch core s
  | .cruAcq core => Sys2Proof.Machine.execCruAcq core s
  | .cruTry core => Sys2Proof.Machine.execCruTry core s
  | .cruRel core => Sys2Proof.Machine.execCruRel core s
  | .cruBar core => Sys2Proof.Machine.execCruBar core s
  | .ulxTrained lat => Sys2Proof.Machine.execUlxTrained lat s
  | .ulxLinkDown => Sys2Proof.Machine.execUlxLinkDown s
  | .ulxRetransmit => Sys2Proof.Machine.execUlxRetransmit s
  | .ulxSever => Sys2Proof.Machine.execUlxSever s
  | .hello h m => Sys2Proof.Machine.execHello h m s
  | .weldTimeout => Sys2Proof.Machine.execWeldTimeout s
  | .weldDrain => Sys2Proof.Machine.execWeldDrain s
  | .weldFreeze => Sys2Proof.Machine.execWeldFreeze s
  | .weldDone => Sys2Proof.Machine.execWeldDone s
  | .stateFrame h p => Sys2Proof.Machine.execStateFrame h p s
  | .journal h n m slot reply => Sys2Proof.Machine.execJournal h n m slot reply s
  | .jack h n seq check ns => Sys2Proof.Machine.execJack h n seq check ns s
  | .replyFrame h n r tail head db => Sys2Proof.Machine.execReplyFrame h n r tail head db s
  | .complete h c => Sys2Proof.Machine.execComplete h c s
  | .cutoffFrame h c => Sys2Proof.Machine.execCutoffFrame h c s
  | .cutoffTimeout n => Sys2Proof.Machine.execCutoffTimeout n s
  | .hardyFrame h n f r crc ok => Sys2Proof.Machine.execHardyFrame h n f r crc ok s
  | .event h e => Sys2Proof.Machine.execEvent h e s
  | .idleFrame h => Sys2Proof.Machine.execIdleFrame h s
  | .tkoRequest h n f => Sys2Proof.Machine.execTkoRequest h n f s
  | .tkoGrant h n c => Sys2Proof.Machine.execTkoGrant h n c s
  | .tkoRefusal h n => Sys2Proof.Machine.execTkoRefusal h n s
  | .tkoRelease h n => Sys2Proof.Machine.execTkoRelease h n s
  | .tkoAnswerTimeout n => Sys2Proof.Machine.execTkoAnswerTimeout n s
  | .hbLost tko => Sys2Proof.Machine.execHbLost tko s
  | .hbPresent tko => Sys2Proof.Machine.execHbPresent tko s
  | .accountingWindow => Sys2Proof.Machine.execAccountingWindow s
  | .dramRequest q now => Sys2Proof.Machine.execDramRequest q now s
  | .srIdleExpire complete => Sys2Proof.Machine.execSrIdleExpire complete s
  | .srExit => Sys2Proof.Machine.execSrExit s
  | .mr4Poll ch rate degC => Sys2Proof.Machine.execMr4Poll ch rate degC s
  | .refreshDue ch bank now => Sys2Proof.Machine.execRefreshDue ch bank now s
  | .drcRetrain ch driftPs negative => Sys2Proof.Machine.execDrcRetrain ch driftPs negative s
  | .dramScrubRead ch r addr => Sys2Proof.Machine.execDramScrubRead ch r addr s
  | .drcPhaseWrite a => Sys2Proof.Machine.execDrcPhaseWrite a s
  | .temperIdle a => Sys2Proof.Machine.execTemperIdle a s
  | .temperWrite a => Sys2Proof.Machine.execTemperWrite a s
  | .temperReadCmp a => Sys2Proof.Machine.execTemperReadCmp a s
  | .temperMpcRd a => Sys2Proof.Machine.execTemperMpcRd a s
  | .temperCbt a => Sys2Proof.Machine.execTemperCbt a s
  | .temperLevel a => Sys2Proof.Machine.execTemperLevel a s
  | .temperOpDone fails bits => Sys2Proof.Machine.execTemperOpDone fails bits s
  | .memtestWindow mem core bank r => Sys2Proof.Machine.execMemtestWindow mem core bank r s
  | .memtestBorrowTimeout mem => Sys2Proof.Machine.execMemtestBorrowTimeout mem s
  | .touchScan g raws => Sys2Proof.Machine.execTouchScan g raws s
  | .touchPress g c => Sys2Proof.Machine.execTouchPress g c s
  | .touchRelease g c => Sys2Proof.Machine.execTouchRelease g c s
  | .touchBaselineDone g => Sys2Proof.Machine.execTouchBaselineDone g s
  | .touchFollow g => Sys2Proof.Machine.execTouchFollow g s
  | .touchNegReacq g e => Sys2Proof.Machine.execTouchNegReacq g e s
  | .touchStuck g c => Sys2Proof.Machine.execTouchStuck g c s
  | .touchElectrodeFault g e => Sys2Proof.Machine.execTouchElectrodeFault g e s
  | .touchRateStep => Sys2Proof.Machine.execTouchRateStep s
  | .hapBootDone n x => Sys2Proof.Machine.execHapBootDone n x s
  | .hapSenseWindow n s0 s1 s2 s3 rising => Sys2Proof.Machine.execHapSenseWindow n s0 s1 s2 s3 rising s
  | .hapOpenFault n => Sys2Proof.Machine.execHapOpenFault n s
  | .hapUnlock n => Sys2Proof.Machine.execHapUnlock n s
  | .hapSegmentEnd n => Sys2Proof.Machine.execHapSegmentEnd n s
  | .hapGapEnd n => Sys2Proof.Machine.execHapGapEnd n s
  | .hapBrakeEnd n => Sys2Proof.Machine.execHapBrakeEnd n s
  | .hapBrakeTimeout n => Sys2Proof.Machine.execHapBrakeTimeout n s
  | .audSample pins rings now => Sys2Proof.Machine.execAudSample pins rings now s
  | .audRampEnd => Sys2Proof.Machine.execAudRampEnd s
  | .chimeBlock => Sys2Proof.Machine.execChimeBlock s
  | .audOutMapWrite j a => Sys2Proof.Machine.execAudOutMapWrite j a s
  | .tdmSlip p again => Sys2Proof.Machine.execTdmSlip p again s
  | .audStreamPos k other => Sys2Proof.Machine.execAudStreamPos k other s
  | .audPllUnlock => Sys2Proof.Machine.execAudPllUnlock s
  | .avtpPacketRx p stream pres now frames => Sys2Proof.Machine.execAvtpPacketRx p stream pres now frames s
  | .avtpPacketTx stream => Sys2Proof.Machine.execAvtpPacketTx stream s
  | .pcieFlr p => Sys2Proof.Machine.execPcieFlr p s
  | .pcieHoldStart p c => Sys2Proof.Machine.execPcieHoldStart p c s
  | .pcieHoldEnd p c width speed => Sys2Proof.Machine.execPcieHoldEnd p c width speed s
  | .pciePerst p => Sys2Proof.Machine.execPciePerst p s
  | .pcieCplError n r => Sys2Proof.Machine.execPcieCplError n r s
  | .pcieCplTimeout n r => Sys2Proof.Machine.execPcieCplTimeout n r s
  | .fetchRetry n => Sys2Proof.Machine.execFetchRetry n s
  | .msixUnmask p e => Sys2Proof.Machine.execMsixUnmask p e s
  | .arpRequest p vlan target mac ip => Sys2Proof.Machine.execArpRequest p vlan target mac ip s
  | .icmpEcho p vlan target mac ip data => Sys2Proof.Machine.execIcmpEcho p vlan target mac ip data s
  | .gptpSync p now offset => Sys2Proof.Machine.execGptpSync p now offset s
  | .gptpSyncTimeout gm => Sys2Proof.Machine.execGptpSyncTimeout gm s
  | .ethLinkChange p rate => Sys2Proof.Machine.execEthLinkChange p rate s
  | .gateCycleStart p now => Sys2Proof.Machine.execGateCycleStart p now s
  | .mdioC22Read a => Sys2Proof.Machine.execMdioC22Read a s
  | .mdioC22Write a => Sys2Proof.Machine.execMdioC22Write a s
  | .mdioC45Address a => Sys2Proof.Machine.execMdioC45Address a s
  | .mdioC45Write a => Sys2Proof.Machine.execMdioC45Write a s
  | .mdioC45Read a => Sys2Proof.Machine.execMdioC45Read a s
  | .mdioDone v => Sys2Proof.Machine.execMdioDone v s
  | .mbxSend k a => Sys2Proof.Machine.execMbxSend k a s
  | .mbxReceive k a => Sys2Proof.Machine.execMbxReceive k a s
  | .mbxLock a => Sys2Proof.Machine.execMbxLock a s
  | .lckAcq k a => Sys2Proof.Machine.execLckAcq k a s
  | .lckTry k a => Sys2Proof.Machine.execLckTry k a s
  | .lckRel k a => Sys2Proof.Machine.execLckRel k a s
  | .lckCancel k a => Sys2Proof.Machine.execLckCancel k a s
  | .crcStart k a => Sys2Proof.Machine.execCrcStart k a s
  | .crcFold k a => Sys2Proof.Machine.execCrcFold k a s
  | .crcData k a => Sys2Proof.Machine.execCrcData k a s
  | .cfgOpen a => Sys2Proof.Machine.execCfgOpen a s
  | .cfgCommit a => Sys2Proof.Machine.execCfgCommit a s
  | .cfgOpenTimeout => Sys2Proof.Machine.execCfgOpenTimeout s
  | .cfgPass stuck refErr => Sys2Proof.Machine.execCfgPass stuck refErr s
  | .cfgRestoreTimeout => Sys2Proof.Machine.execCfgRestoreTimeout s
  | .slgAccWrite a => Sys2Proof.Machine.execSlgAccWrite a s
  | .registerWrite off a => Sys2Proof.Machine.execRegisterWrite off a s
  | .glbSnapTrig a => Sys2Proof.Machine.execGlbSnapTrig a s
  | .knabyWatchdog core => Sys2Proof.Machine.execKnabyWatchdog core s
  | .quenchOverdue n => Sys2Proof.Machine.execQuenchOverdue n s
  | .lockstepMismatch => Sys2Proof.Machine.execLockstepMismatch s
  | .hearthResume => Sys2Proof.Machine.execHearthResume s
  | .clockMonitor refclk hrt bad => Sys2Proof.Machine.execClockMonitor refclk hrt bad s
  | .supplyTrip bad => Sys2Proof.Machine.execSupplyTrip bad s
  | .tempPoll t0 t1 t2 t3 => Sys2Proof.Machine.execTempPoll t0 t1 t2 t3 s
  | .powerOnReset e pg => Sys2Proof.Machine.execPowerOnReset e pg s
  | .resetN => Sys2Proof.Machine.execResetN s
  | .warmN => Sys2Proof.Machine.execWarmN s
  | .rstCtrlKnaby a => Sys2Proof.Machine.execRstCtrlKnaby a s
  | .rstCtrlWarm a => Sys2Proof.Machine.execRstCtrlWarm a s
  | .knabyRestart => Sys2Proof.Machine.execKnabyRestart s
  | .warmReset e => Sys2Proof.Machine.execWarmReset e s
  | .blockReset a => Sys2Proof.Machine.execBlockReset a s
  | .avsTarget t => Sys2Proof.Machine.execAvsTarget t s
  | .avsStep ack read => Sys2Proof.Machine.execAvsStep ack read s
  | .mainPgTimeout => Sys2Proof.Machine.execMainPgTimeout s
  | .mainPgFall => Sys2Proof.Machine.execMainPgFall s
  | .wakeEvent mask group => Sys2Proof.Machine.execWakeEvent mask group s
  | .dampLinksReady => Sys2Proof.Machine.execDampLinksReady s
  | .powerExitDone => Sys2Proof.Machine.execPowerExitDone s
  | .powerRestoreDone e => Sys2Proof.Machine.execPowerRestoreDone e s
  | .scanoutUnderrun n => Sys2Proof.Machine.execScanoutUnderrun n s
  | .scanoutReadError n plane off => Sys2Proof.Machine.execScanoutReadError n plane off s
  | .tkoConfirm tko => Sys2Proof.Machine.execTkoConfirm tko s
  | .ulxLatencyMeasure lat => Sys2Proof.Machine.execUlxLatencyMeasure lat s
  | .audPllLock => Sys2Proof.Machine.execAudPllLock s
  | .resetNRelease e => Sys2Proof.Machine.execResetNRelease e s
  | .warmNRelease e => Sys2Proof.Machine.execWarmNRelease e s
  | .mainPgRise e => Sys2Proof.Machine.execMainPgRise e s
  | .jtagRawAccess word wr portA => Sys2Proof.Machine.execJtagRawAccess word wr portA s
  | .ethFrameRx p f => Sys2Proof.Machine.execEthFrameRx p f s

end Sys2Proof.Machine
end

