-- ==== Sys2Proof/Machine/Idle.lean ====
section
/-! DEFINITION. What happens while no command waits: Hearth time passes. -/
namespace Sys2Proof.Machine

/-- One idle step: Hearth time advances by 1 us. The touch reports of scans that have ended leave in their datagrams (R520), and
an ACTIVE device forwards gPTP time every millisecond (R439). DESIGN CHOICE: every other event in time is a command. -/
def State.tick (s : State) : State :=
  let s : State := { s with time := s.time + 1 }
  let s : State := (List.range 8).foldl (fun s g => s.deliverUdp g) s
  if s.time % 1000 = 0 then s.sendGptp else s

end Sys2Proof.Machine
end

