-- ==== Sys2Proof/Safety.lean ====
section
/-! DEFINITION. What a safe state and a safe step are: plain data in canonical form, of the shape the variant-independent
tables give it; and a step that neither faults nor is refused. -/
namespace Sys2Proof.Machine

/-- Every memory is in its canonical form: surfaces, the Anvil, the limp image, and the shadow and stored registers. -/
def State.dataWf (s : State) : Bool :=
  s.regs.wf && RegFile.wf s.cfg.shadow && s.disp.anvil.wf none && s.disp.limp.image.wf none &&
  s.slices.all (fun x => x.surfaces.all (fun u => u.mem.wf u.seed))

/-- The variant is one of R1, and every table has the size of the largest (R1, R3): units, and what each unit holds. -/
def State.shape (s : State) : Bool :=
  [4, 6, 8].contains s.fuses.tier && decide (s.boot.log2n ≤ 4) &&
  s.slices.length == 16 && s.slices.all (fun x => x.slots.length == 64) &&
  s.ports.length == 2 && s.ports.all (fun p => p.msix.length == 64) && s.locks.length == 64 && s.chans.length == 32 &&
  s.disp.outs.length == 8 && s.disp.layers.length == 64 && s.disp.scalers.length == 8 && s.disp.hardy.length == 8 &&
  s.disp.hardy.all (fun d => d.regs.length == 16 && d.pend.length == 16 && d.st.length == 16) &&
  s.disp.owner.length == 192 && s.disp.limp.palette.length == 16 && s.touch.length == 8 && s.touch.all (fun g => g.els.length == 12 && g.ctls.length == 12) &&
  s.haps.length == 8 && s.aud.outs.length == 16 && s.aud.outs.all (fun o => o.eq.length == 8) && s.aud.inGain.length == 32 &&
  s.aud.inOwner.length == 32 && s.aud.players.length == 4 && s.net.gates.length == 4 &&
  s.cfg.refs.length == 35 && s.cfg.gens.length == 35

/-- A safe state. -/
def State.safe (s : State) : Bool := s.dataWf && s.shape

/-- A step goes on. -/
def goesOn (r : Out) : Bool :=
  match r with
  | .next _ => true
  | .fault _ => false
  | .refused _ => false

end Sys2Proof.Machine
end

