-- ==== Sys2Proof/Claims.lean ====
section
/-! DEFINITION. The terms that claims are stated in: how a command ends, what the Crucible core does with one instruction, and
what a delivered billet leaves behind. -/
namespace Sys2Proof.Machine

/-- The command ends in a next state of which `P` holds. -/
def Ends (c : Instr) (s : State) (P : State → Prop) : Prop := ∃ t, exec c s = .next t ∧ P t

/-! ## Crucible -/

/-- Core `c` is to issue the instruction `i` of bundle `b`, whose encoding is valid (R378, R406, R409). -/
abbrev State.Issues (s : State) (c : Fin 48) (b : Bundle) (i : Ins) : Prop :=
  s.pick c.val = some b ∧ (s.fetchIns b).map Ins.dec = some i ∧ i.defined = true ∧ (shapeOf i).valid i b.regs = true

/-- The bundles after the one at the place of `b` has become `b'`. -/
def State.bundlesWith (s : State) (b b' : Bundle) : List Bundle :=
  s.cru.bundles.map (fun x => if x.at_ b.slice b.core b.slot then b' else x)

/-- From `s` to `t` nothing changes but the bundle `b`, which becomes `b'`, and the count of issues. -/
abbrev Became (s t : State) (b b' : Bundle) : Prop :=
  t = { s with cru := { s.cru with issues := s.cru.issues + 1, bundles := s.bundlesWith b b' } }

/-- Of the registers of `b`, those numbered `d` take `f` in the lanes of `ls`; all others keep their words (R408). -/
abbrev Wrote (b b' : Bundle) (d : Nat) (ls : BitVec 16) (f : Nat → Nat) : Prop :=
  ∀ r < 128, ∀ l < 16, b'.v.get r l = if r = d ∧ ls.getLsbD l = true then BitVec.ofNat 32 (f l) else b.v.get r l

/-- A row of the vector classes: the command, its class and opcode, the value of D in a lane, and the operands in a lane that
make it fault. -/
structure VecRow where
  cmd : Fin 48 → Instr
  cls : Nat
  opc : Nat
  f : Ins → Bundle → Nat → Nat
  bad : Ins → Bundle → Nat → Bool := fun _ _ _ => false

/-- A 32-bit operand of a lane as a bit vector. -/
def Ins.vA (i : Ins) (b : Bundle) (l : Nat) : Word := BitVec.ofNat 32 (i.opA b l)
/-- Operand B. -/
def Ins.vB (i : Ins) (b : Bundle) (l : Nat) : Word := BitVec.ofNat 32 (i.opB b l)
/-- Operand C. -/
def Ins.vC (i : Ins) (b : Bundle) (l : Nat) : Word := BitVec.ofNat 32 (i.opC b l)

/-- An integer row of two operands. -/
def intRow (cmd : Fin 48 → Instr) (opc : Nat) (f : Word → Word → Word) : VecRow :=
  { cmd := cmd, cls := 2, opc := opc, f := fun i b l => (f (i.vA b l) (i.vB b l)).toNat }

/-- The integer arithmetic of R411: each row's value of D from A, B and C. -/
def intRows : List VecRow := [
  intRow .cruMov 0x00 (fun _ b => b),
  intRow .cruIadd 0x01 (fun a b => a + b),
  intRow .cruIsub 0x02 (fun a b => a - b),
  intRow .cruImul 0x03 (fun a b => a * b),
  intRow .cruImulhiU 0x04 (fun a b => ((a.zeroExtend 64 * b.zeroExtend 64) >>> 32).setWidth 32),
  intRow .cruImulhiS 0x05 (fun a b => ((a.signExtend 64 * b.signExtend 64) >>> 32).setWidth 32),
  { cmd := .cruImad, cls := 2, opc := 0x06, f := fun i b l => (i.vA b l * i.vB b l + i.vC b l).toNat },
  intRow .cruAnd 0x07 (fun a b => a &&& b),
  intRow .cruOr 0x08 (fun a b => a ||| b),
  intRow .cruXor 0x09 (fun a b => a ^^^ b),
  intRow .cruAndn 0x0A (fun a b => a &&& ~~~b),
  intRow .cruShl 0x0B (fun a b => a <<< (b.toNat % 32)),
  intRow .cruShr 0x0C (fun a b => a >>> (b.toNat % 32)),
  intRow .cruSar 0x0D (fun a b => a.sshiftRight (b.toNat % 32)),
  intRow .cruIminS 0x0E (fun a b => if a.toInt ≤ b.toInt then a else b),
  intRow .cruImaxS 0x0F (fun a b => if a.toInt ≤ b.toInt then b else a),
  intRow .cruIminU 0x10 (fun a b => if a ≤ b then a else b),
  intRow .cruImaxU 0x11 (fun a b => if a ≤ b then b else a)]

/-- Width and position of a bit field as B gives them (R411 table, BFE). -/
def fieldW (b : Word) : Nat := bits b.toNat 8 6
/-- Position. -/
def fieldP (b : Word) : Nat := b.toNat % 32
/-- The field of BFI in place: bits p to min(31, p + w − 1). -/
def fieldMask (b : Word) : Word := BitVec.ofNat 32 ((2 ^ fieldW b - 1) <<< fieldP b)

/-- The bit instructions of the integer class: field extract and insert, count, leading zeros, reversal, selection. -/
def bitRows : List VecRow := [
  { cmd := .cruSel, cls := 2, opc := 0x13, f := fun i b l => if (b.pred i.c).getLsbD l then i.opA b l else i.opB b l },
  { cmd := .cruBfe, cls := 2, opc := 0x14, bad := fun i b l => fieldBad (i.opB b l), f := fun i b l =>
      let v := BitVec.ofNat (fieldW (i.vB b l)) (i.opA b l >>> fieldP (i.vB b l))
      if i.md.testBit 0 then (v.signExtend 32).toNat else v.toNat },
  { cmd := .cruBfi, cls := 2, opc := 0x15, bad := fun i b l => fieldBad (i.opB b l), f := fun i b l =>
      let m := fieldMask (i.vB b l)
      ((i.vC b l &&& ~~~m) ||| ((i.vA b l <<< fieldP (i.vB b l)) &&& m)).toNat },
  { cmd := .cruPopc, cls := 2, opc := 0x16, f := fun i b l => ((List.range 32).filter (fun k => (i.vA b l).getLsbD k)).length },
  { cmd := .cruClz, cls := 2, opc := 0x17, f := fun i b l => (i.vA b l).clz.toNat },
  { cmd := .cruBrev, cls := 2, opc := 0x18, f := fun i b l => (i.vA b l).reverse.toNat }]

/-- An FP32 row: the exact operands after their modifiers give a code, then SAT (R412, R413). -/
def fpRow (cmd : Fin 48 → Instr) (opc : Nat) (f : FV → FV → FV → Nat) : VecRow :=
  { cmd := cmd, cls := 3, opc := opc, f := fun i b l => satMod f32 i.md (f (i.fA b l) (i.fB b l) (i.fC b l)) }

/-- The FP32 instructions of R413 with a result in D. -/
def fpRows : List VecRow := [
  fpRow .cruFadd 0x00 (fun a b _ => f32.enc (a.add b)),
  fpRow .cruFsub 0x01 (fun a b _ => f32.enc (a.add b.neg)),
  fpRow .cruFmul 0x02 (fun a b _ => f32.enc (a.mul b)),
  fpRow .cruFfma 0x03 (fun a b c => f32.enc ((a.mul b).add c)),
  fpRow .cruFmin 0x04 (fun a b _ => f32.enc (FV.minMax false a b)),
  fpRow .cruFmax 0x05 (fun a b _ => f32.enc (FV.minMax true a b)),
  fpRow .cruFdiv 0x07 (fun a b _ => f32.div a b),
  fpRow .cruFrcp 0x08 (fun a _ _ => f32.div (.fin false 1 0) a),
  fpRow .cruFsqrt 0x09 (fun a _ _ => f32.sqrt a),
  fpRow .cruFrsq 0x0A (fun a _ _ => f32.rsqrt a),
  fpRow .cruFfloor 0x0B (fun a _ _ => f32.integral .down a),
  fpRow .cruFceil 0x0C (fun a _ _ => f32.integral .up a),
  fpRow .cruFtrunc 0x0D (fun a _ _ => f32.integral .zero a),
  fpRow .cruFrint 0x0E (fun a _ _ => f32.integral .near a),
  fpRow .cruFfract 0x0F (fun a _ _ => fract a)]

/-- A packed row: both halves alike (R414). -/
def halfRow (cmd : Fin 48 → Instr) (opc : Nat) (f : FV → FV → FV → Nat) : VecRow :=
  { cmd := cmd, cls := 4, opc := opc, f := fun i b l =>
      let h := fun hi => satMod f16 i.md (f (i.hA b l hi) (i.hB b l hi) (i.hC b l hi))
      h false + 2 ^ 16 * h true }

/-- The packed FP16 and conversion instructions with a result in D (R414). -/
def halfRows : List VecRow := [
  halfRow .cruHadd2 0x00 (fun a b _ => f16.enc (a.add b)),
  halfRow .cruHsub2 0x01 (fun a b _ => f16.enc (a.add b.neg)),
  halfRow .cruHmul2 0x02 (fun a b _ => f16.enc (a.mul b)),
  halfRow .cruHfma2 0x03 (fun a b c => f16.enc ((a.mul b).add c)),
  halfRow .cruHmin2 0x04 (fun a b _ => f16.enc (FV.minMax false a b)),
  halfRow .cruHmax2 0x05 (fun a b _ => f16.enc (FV.minMax true a b)),
  { cmd := .cruHdot2, cls := 4, opc := 0x07, f := fun i b l => satMod f32 i.md (f32.enc
      ((((i.hA b l false).mul (i.hB b l false)).add ((i.hA b l true).mul (i.hB b l true))).add (i.fC b l))) },
  { cmd := .cruF2i, cls := 5, opc := 0x00, f := fun i b l =>
      f2i (match bits i.md 0 2 with | 0 => .near | 1 => .zero | 2 => .down | _ => .up) (i.md.testBit 2) (i.opA b l) },
  { cmd := .cruI2f, cls := 5, opc := 0x01, f := fun i b l =>
      fOfInt (if i.md.testBit 2 then ((i.vA b l).toNat : Int) else (i.vA b l).toInt) },
  { cmd := .cruF2h, cls := 5, opc := 0x02, f := fun i b l =>
      let h := convFmt f32 f16 (i.opA b l)
      if i.md.testBit 3 then h % 2 ^ 16 * 2 ^ 16 + b.r i.d l % 2 ^ 16 else b.r i.d l / 2 ^ 16 * 2 ^ 16 + h % 2 ^ 16 },
  { cmd := .cruH2f, cls := 5, opc := 0x03, f := fun i b l =>
      convFmt f16 f32 (if i.md.testBit 3 then i.opA b l / 2 ^ 16 else i.opA b l % 2 ^ 16) },
  { cmd := .cruF2un, cls := 5, opc := 0x04, f := fun i b l => f2un (if i.md / 16 = 0 then 16 else i.md / 16) (i.opA b l) },
  { cmd := .cruUn2f, cls := 5, opc := 0x05, f := fun i b l => un2f (if i.md / 16 = 0 then 16 else i.md / 16) (i.opA b l) }]

/-- What an instruction of a row does when its core issues it: D takes the row's value in the active lanes, the bundle goes on at
the next instruction, and nothing else changes. -/
def VecRow.Holds (r : VecRow) : Prop :=
  ∀ (s : State) (c : Fin 48) (b : Bundle) (i : Ins), s.Issues c b i → i.cls = r.cls → i.opc = r.opc →
    (∀ l ∈ lanesOf (i.lanes b), r.bad i b l = false) →
    Ends (r.cmd c) s (fun t => ∃ v, Wrote b { b with v := v } i.d (i.lanes b) (r.f i b) ∧
      Became s t b { b with v := v, pc := b.pc + 8, st := .ready, issued := s.cru.issues + 1 })

/-- A row that acts on the bundle as a whole: the command, its class and opcode, and the bundle it leaves. -/
structure MaskRow where
  cmd : Fin 48 → Instr
  cls : Nat
  opc : Nat
  next : Ins → Bundle → Bundle → Prop

/-- Predicate `k` takes `f` in the lanes of `ls`; the other lanes and predicates keep their bits (R411). -/
abbrev SetsPred (b b' : Bundle) (k : Nat) (ls : BitVec 16) (f : Nat → Bool) : Prop :=
  ∀ j < 4, ∀ l < 16, (b'.pred j).getLsbD l = if j = k ∧ ls.getLsbD l = true then f l else (b.pred j).getLsbD l

/-- A COND of R411 between values with an order. -/
def condOf (cond : Nat) (lt eq : Bool) : Bool :=
  match cond with
  | 0 => eq
  | 1 => !eq
  | 2 => lt
  | 3 => lt || eq
  | 4 => !lt && !eq
  | _ => !lt

/-- A COND of R411 between FP values: with a NaN only NE holds. -/
def condFp (cond : Nat) (a b : FV) : Bool :=
  match a.cmp b with
  | none => cond == 1
  | some c => condOf cond (decide (c < 0)) (c == 0)

/-- The compare, predicate, mask and lane instructions (R411, R414, and the table of CLASS 0x1). -/
def maskRows : List MaskRow := [
  ⟨.cruIsetp, 2, 0x12, fun i b b' =>
    SetsPred b b' i.pd (i.lanes b) (fun l => condOf i.cond
      (if i.d.testBit 5 then (i.vA b l).ult (i.vB b l) else (i.vA b l).slt (i.vB b l)) (i.vA b l == i.vB b l)) ∧
    b' = { b with p := b'.p }⟩,
  ⟨.cruFsetp, 3, 0x06, fun i b b' =>
    SetsPred b b' i.pd (i.lanes b) (fun l => condFp i.cond (i.fA b l) (i.fB b l)) ∧ b' = { b with p := b'.p }⟩,
  ⟨.cruHsetp2, 4, 0x06, fun i b b' => ∃ m,
    SetsPred b m i.pd (i.lanes b) (fun l => condFp i.cond (i.hA b l false) (i.hB b l false)) ∧
    SetsPred m b' (i.pd ^^^ 1) (i.lanes b) (fun l => condFp i.cond (i.hA b l true) (i.hB b l true)) ∧ b' = { b with p := b'.p }⟩,
  ⟨.cruPlop, 1, 0, fun i b b' =>
    SetsPred b b' i.d 0xFFFF (fun l => i.md.testBit
      (b2n ((b.pred i.a).getLsbD l) + 2 * b2n ((b.pred i.b).getLsbD l) + 4 * b2n ((b.pred i.c).getLsbD l))) ∧
    b' = { b with p := b'.p }⟩,
  ⟨.cruXsave, 1, 1, fun i b b' => Wrote b b' i.d b.live (fun _ => b.exec.toNat) ∧ b' = { b with v := b'.v }⟩,
  ⟨.cruXload, 1, 2, fun i b b' => b' = { b with exec := BitVec.ofNat 16 (b.r i.a (lowLane b.live)) &&& b.live }⟩,
  ⟨.cruXand, 1, 3, fun i b b' =>
    b' = { b with exec := b.exec &&& (if 4 ≤ i.a then ~~~(b.pred (i.a - 4)) else b.pred i.a) &&& b.live }⟩,
  ⟨.cruXset, 1, 4, fun _ b b' => b' = { b with exec := b.live }⟩,
  ⟨.cruP2r, 1, 5, fun i b b' => Wrote b b' i.d b.live (fun _ => (b.pred i.a).toNat) ∧ b' = { b with v := b'.v }⟩,
  ⟨.cruPredFromReg, 1, 6, fun i b b' =>
    SetsPred b b' i.d 0xFFFF (fun l => (b.r i.a (lowLane b.live)).testBit l) ∧ b' = { b with p := b'.p }⟩,
  ⟨.cruShfl, 1, 7, fun i b b' =>
    Wrote b b' i.d b.exec (fun l => b.r i.a (if i.form then l ^^^ i.imm else b.r i.b l % 16)) ∧ b' = { b with v := b'.v }⟩,
  ⟨.cruRdlane, 1, 8, fun i b b' => Wrote b b' i.d b.exec (fun _ => b.r i.a i.imm) ∧ b' = { b with v := b'.v }⟩,
  ⟨.cruSysNop, 0, 0, fun _ b b' => b' = b⟩,
  ⟨.cruHdr, 0, 1, fun _ b b' => b' = b⟩,
  ⟨.cruFence, 0, 6, fun _ b b' => b' = b⟩]

/-- What such an instruction does when its core issues it: the bundle becomes what the row says and goes on at the next
instruction; nothing else changes. The four predicates are there. -/
def MaskRow.Holds (r : MaskRow) : Prop :=
  ∀ (s : State) (c : Fin 48) (b : Bundle) (i : Ins), s.Issues c b i → i.cls = r.cls → i.opc = r.opc → b.p.length = 4 →
    Ends (r.cmd c) s (fun t => ∃ m, r.next i b m ∧
      Became s t b { m with pc := b.pc + 8, st := .ready, issued := s.cru.issues + 1 })

/-! ### Control -/

/-- The condition of BRA (R415): MODE of Q, which is the predicate or its complement. -/
def braTaken (i : Ins) (b : Bundle) : Bool :=
  let q := if 16 ≤ i.d then ~~~(b.pred (i.d % 4)) else b.pred (i.d % 4)
  match i.d / 4 % 4 with
  | 0 => true
  | 1 => !(b.exec &&& q == 0)
  | 2 => b.exec &&& ~~~q == 0
  | _ => b.exec &&& q == 0

/-- The bundle after an instruction that leaves it at `pc` with registers `v`, issued as number `n`. -/
def Bundle.at_pc (b : Bundle) (pc : Word) (v : VRegs) (n : Nat) : Bundle := { b with v := v, pc := pc, st := .ready, issued := n }

/-- The state in which one more issue is counted. -/
def State.issued (s : State) : State := { s with cru := { s.cru with issues := s.cru.issues + 1 } }

/-- From `s` to `t` the bundle becomes `b'`, lock `k` becomes `x`, and nothing else changes but the count of issues. -/
abbrev LockBecame (s t : State) (b b' : Bundle) (k : Nat) (x : Lock) : Prop :=
  t = { s with locks := s.locks.set k x, cru := { s.cru with issues := s.cru.issues + 1, bundles := s.bundlesWith b b' } }

/-- Two bundles of one workgroup. -/
abbrev Bundle.sameGroup (x b : Bundle) : Prop := x.slice = b.slice ∧ x.seq = b.seq ∧ x.kind = 0 ∧ x.wg = b.wg
/-- The workgroup of a bundle. -/
abbrev WGroup.isOf (g : WGroup) (b : Bundle) : Prop := g.slice = b.slice ∧ g.seq = b.seq ∧ g.w = b.wg

/-- From `s` to `t` the bundle goes on as `b'`, and of all else only its workgroup changes: to `g'`. -/
abbrev GroupBecame (s t : State) (b b' : Bundle) (g' : WGroup) : Prop :=
  t.group b = some g' ∧ t.cru.wgs.filter (fun g => !decide (g.isOf b)) = s.cru.wgs.filter (fun g => !decide (g.isOf b)) ∧
  t = { s with cru := { s.cru with issues := s.cru.issues + 1, bundles := s.bundlesWith b b', wgs := t.cru.wgs } }

/-- From `s` to `t` the bundle goes on as `b'`, and of all else only the surface `u` of its slice changes: to `u'`. -/
abbrev SurfBecame (s t : State) (b b' : Bundle) (u u' : Surface) : Prop :=
  t.surf b.slice u.handle = some u' ∧
  (t.slice b.slice).surfaces.filter (·.handle != u.handle) = (s.slice b.slice).surfaces.filter (·.handle != u.handle) ∧
  t = { s.modSlice b.slice (fun x => { x with surfaces := (t.slice b.slice).surfaces }) with
    cru := { s.cru with issues := s.cru.issues + 1, bundles := s.bundlesWith b b' } }

/-- The bundle loses the lanes of `m` from LIVE and EXEC (R404). -/
def Bundle.lose (b : Bundle) (m : BitVec 16) : Bundle := { b with exec := b.exec &&& ~~~m, live := b.live &&& ~~~m }

/-- Slot `k` of slice `n` stands in state `st` with a status and a value. -/
abbrev State.slotHas (t : State) (n k : Nat) (st : SlotState) (status value : Nat) : Prop :=
  ((t.slice n).slots.getD k Slot.empty).st = st ∧ ((t.slice n).slots.getD k Slot.empty).status = BitVec.ofNat 16 status ∧
  ((t.slice n).slots.getD k Slot.empty).value = BitVec.ofNat 64 value

/-- From `s` to `t` the job of bundle `b` ends with E_JOB_FAULT and the record of R395: code, source, and for a core its number, the
lane, the kind of shader and the PC. The job and everything of it is gone. -/
abbrev JobFaulted (s t : State) (b : Bundle) (code source lane : Nat) : Prop :=
  t = s.endJob b.slice b.seq E_JOB_FAULT
    (code + source * 2 ^ 8 + b.core * 2 ^ 10 + lane * 2 ^ 16 + b.kind * 2 ^ 20 + b.pc.toNat * 2 ^ 32) ∧
  t.job b.slice b.seq = none ∧ (∀ x ∈ t.cru.bundles, ¬ (x.slice = b.slice ∧ x.seq = b.seq)) ∧
  (∀ g ∈ t.cru.wgs, ¬ (g.slice = b.slice ∧ g.seq = b.seq))

/-- The value of SREAD in lane `l` (R416). -/
def sreadValue (s : State) (b : Bundle) (j : CruJob) (sel l : Nat) : Nat :=
  let comp := fun v => if b.kind = 0 then v else 0
  let grp := fun (f : WGroup → Nat) => ((s.group b).map f).getD 0
  match sel with
  | 0x00 => l
  | 0x01 => comp (16 * b.idx + l)
  | 0x02 => comp b.idx
  | 0x03 => comp (u16 j.pl 0xE)
  | 0x04 => grp WGroup.x
  | 0x05 => grp WGroup.y
  | 0x06 => grp WGroup.z
  | 0x07 => comp (u16 j.pl 8)
  | 0x08 => comp (u16 j.pl 0xA)
  | 0x09 => comp (u16 j.pl 0xC)
  | 0x0A => grp (fun g => 1024 * g.scrKib)
  | 0x0B => b.slice
  | 0x0C => b.kind
  | 0x0D => if b.kind = 2 then ((b.px[l]?).map (fun f => if f.live then 0 else 1)).getD 0 else 0
  | 0x0E => b.core
  | 0x0F => j.quanta + 1
  | k => ((s.jobSurf j (k - 0x10)).map (fun u => u.stride * u.height)).getD 0

/-! ### Memory -/

/-- No older copy of a surface stands in a cache window (R386). -/
abbrev State.fresh1 (s : State) : Prop := s.cru.old = []

/-- Every active lane's access is aligned and inside `limit` bytes (R419). -/
abbrev Ins.inRange (i : Ins) (b : Bundle) (limit : Nat) : Prop :=
  ∀ l ∈ lanesOf (i.lanes b), 0 ≤ i.offset b l ∧ i.offset b l % (sizeBytes i.size : Nat) = 0 ∧
    i.offset b l + (sizeBytes i.size : Nat) ≤ (limit : Nat)

/-- The words that a load of SIZE `sz` returns from its bytes (R418): signed sizes are extended, wide ones split. -/
def widen (sz : Nat) (bs : List Byte) : List Word :=
  if sz = 1 then [(BitVec.ofNat 8 (leNat bs)).signExtend 32]
  else if sz = 3 then [(BitVec.ofNat 16 (leNat bs)).signExtend 32]
  else (List.range (sizeRegs sz)).map (fun k => BitVec.ofNat 32 (leNat bs / 2 ^ (32 * k)))

/-- What a load of SIZE reads for its lanes, as the words that return (R418, R421). -/
def loadVals (i : Ins) (b : Bundle) (rd : Nat → Nat → List Byte) : List (Nat × Nat × Word) :=
  (lanesOf (i.lanes b)).flatMap (fun l =>
    (widen i.size (rd (i.offset b l).toNat (sizeBytes i.size))).zipIdx.map (fun e => (i.d + e.2, l, e.1)))

/-- The memory after the stores of the active lanes, in ascending order (R418, R421). -/
def storeRun (i : Ins) (b : Bundle) (seed : Option Nat) (m : Mem) : Mem :=
  (lanesOf (i.lanes b)).foldl (fun m l => m.write seed (i.offset b l).toNat (i.storeBytes b l)) m

/-- An atomic over the lanes in ascending order: the value each lane saw, and the memory left (R418, R421). -/
def atomRun (f : Word → Word → Word → Word) (i : Ins) (b : Bundle) (seed : Option Nat) : List Nat → Mem → List (Nat × Nat × Word) × Mem
  | [], m => ([], m)
  | l :: ls, m =>
    let off := (i.offset b l).toNat
    let old : Word := BitVec.ofNat 32 (leNat (m.read seed off 4))
    let new := f old (b.v.get i.b l) (b.v.get (i.b + 1) l)
    let r := atomRun f i b seed ls (m.write seed off (leBytes 4 new.toNat))
    ((i.d, l, old) :: r.1, r.2)

/-- The bundle at the next instruction, with one more return outstanding if a lane was active (R391, R410). -/
def Bundle.expects (b : Bundle) (n : Nat) (sample : Bool) (d count : Nat) (vals : List (Nat × Nat × Word)) : Bundle :=
  { b.at_pc (b.pc + 8) b.v n with pend := if vals = [] then b.pend else b.pend ++ [⟨sample, d, count, vals⟩] }

/-- An atomic of R418 on scratch: `f` gives the new word from the old one and the words of B and B + 1. -/
def AtomScratch (cmd : Fin 48 → Instr) (opc : Nat) (f : Word → Word → Word → Word) : Prop :=
  ∀ (s : State) (c : Fin 48) (b : Bundle) (i : Ins) (g : WGroup), s.Issues c b i → i.cls = 7 → i.opc = opc →
    s.group b = some g → i.inRange b (g.scrKib * 1024) →
    Ends (cmd c) s (fun t =>
      let r := atomRun f i b (some g.seed) (lanesOf (i.lanes b)) g.scratch
      GroupBecame s t b (b.expects (s.cru.issues + 1) false i.d 1 r.1) { g with scratch := r.2 })

/-- The same atomic on a surface that a compute job may write. -/
def AtomGlobal (cmd : Fin 48 → Instr) (opc : Nat) (f : Word → Word → Word → Word) : Prop :=
  ∀ (s : State) (c : Fin 48) (b : Bundle) (i : Ins) (j : CruJob) (u : Surface), s.Issues c b i → i.cls = 8 → i.opc = opc →
    b.kind = 0 → s.job b.slice b.seq = some j → s.jobSurf j i.surf = some u → j.writable i.surf = true →
    i.inRange b u.bytes → s.fresh1 →
    Ends (cmd c) s (fun t =>
      let r := atomRun f i b u.seed (lanesOf (i.lanes b)) u.mem
      SurfBecame s t b (b.expects (s.cru.issues + 1) false i.d 1 r.1) u { u with mem := r.2 })

/-- New word of each atomic of R418, by opcode: from the old word, B and B + 1. -/
def atomNew (opc : Nat) (o b c : Word) : Word :=
  match opc with
  | 0x2 => o + b
  | 0x3 => if o.sle b then o else b
  | 0x4 => if o.sle b then b else o
  | 0x5 => if o ≤ b then o else b
  | 0x6 => if o ≤ b then b else o
  | 0x7 => o &&& b
  | 0x8 => o ||| b
  | 0x9 => o ^^^ b
  | 0xA => b
  | 0xB => if o = b then c else o
  | _ => BitVec.ofNat 32 (fadd o.toNat b.toNat)

/-! ### Sampling (R387-R389, R422) -/

/-- The texture unit's surface for lane `l`: the sampler word is IMM or register C. -/
def Ins.sampler (i : Ins) (b : Bundle) (l : Nat) : Nat := if i.form then i.imm else b.r i.c l

/-- A texel (R388): the bytes at the addressed position, least significant first. -/
def texel (u : Surface) (w : Nat) (x y : Int) : Nat :=
  leNat (u.read (u.pixelOff (addrMode (bits w 3 2) u.width x) (addrMode (bits w 5 2) u.height y)) (bpp u.format))

/-- What FETCH gives for texel (x, y) (R388, R422): a colour scaled to 0-1 (10-bit components, 8-bit alpha), FP16 pairs
widened, or the raw word. -/
def fetched (u : Surface) (w : Nat) (x y : Int) : List Word :=
  let v := texel u w x y
  let p := unpack u.format v
  let n := fun (k m : Nat) => BitVec.ofNat 32 (fdiv (fOfInt (k : Nat)) (fOfInt (m : Nat)))
  if layerFormat u.format then [n p.r 1023, n p.g 1023, n p.b 1023, n p.a 255]
  else if u.format = 0x21 then
    [BitVec.ofNat 32 (convFmt f16 f32 (v % 2 ^ 16)), BitVec.ofNat 32 (convFmt f16 f32 (v / 2 ^ 16 % 2 ^ 16)), 0, 0x3F800000]
  else [BitVec.ofNat 32 v, 0, 0, 0x3F800000]

/-- The filter of R389 over four values with fractions in 1/256. -/
def weigh (fx fy a b c d : Nat) : Nat :=
  ((256 - fx) * (256 - fy) * a + fx * (256 - fy) * b + (256 - fx) * fy * c + fx * fy * d + 32768) / 65536

/-- What a bilinear SAMPLE gives at texel (x, y) with fractions fx, fy in 1/256 (R388, R389). -/
def bilinear (u : Surface) (w : Nat) (x y : Int) (fx fy : Nat) : List Word :=
  let p := fun (dx dy : Int) => unpack u.format (texel u w (x + dx) (y + dy))
  let c := fun (g : Px → Nat) => weigh fx fy (g (p 0 0)) (g (p 1 0)) (g (p 0 1)) (g (p 1 1))
  let n := fun (k m : Nat) => BitVec.ofNat 32 (fdiv (fOfInt (k : Nat)) (fOfInt (m : Nat)))
  [n (c Px.r) 1023, n (c Px.g) 1023, n (c Px.b) 1023, n (c Px.a) 255]

/-- The position of R389 on one axis of `size` texels in 1/256 texel: u × size − 0.5, clamped, rounded to nearest even. -/
def position (size u : Nat) : Int :=
  let u := if f32.dec u = .nan then 0 else u
  sgn 32 (f2i .near false (fmul (fclamp 0xCA800000 0x4A800000 (fsub (fmul u (fOfInt size)) 0x3F000000)) 0x43800000))

/-- What SAMPLE gives at the coordinates of R422. -/
def sampled4 (u : Surface) (w cx cy : Nat) : List Word :=
  let x := position u.width cx
  let y := position u.height cy
  if w.testBit 2 then bilinear u w (x / 256) (y / 256) (x % 256).toNat (y % 256).toNat
  else fetched u w ((x + 128) / 256) ((y + 128) / 256)

/-- The values that return for the lanes, `f` giving a lane's four words. -/
def quads (i : Ins) (b : Bundle) (f : Nat → List Word) : List (Nat × Nat × Word) :=
  (lanesOf (i.lanes b)).flatMap (fun l => (f l).zipIdx.map (fun e => (i.d + e.2, l, e.1)))

/-! ## Billets -/

/-- Slice `n` with its billet announced: the doorbell is ahead of SLC_SQ_HEAD (R45). -/
def State.announce (s : State) (n : Nat) : State :=
  if (s.slice n).db = (s.slice n).sqHead then s.dbWrite n ((s.slice n).db + 1) else s

/-- Slice `n` is bound to PCIe, its next billet may be fetched, and the checks of R53 end with the judgement that `f` accepts. -/
def State.judges (s : State) (n : Nat) (m : BilletMsg) (f : Judgement → Bool) : Bool :=
  (match (s.slice n).binding with | .pcie _ _ => true | _ => false) && (s.announce n).mayFetch n &&
  f ((s.announce n).judgeBillet n m (32 + m.length.toNat) false)

/-- The checks of R53 let the billet pass. -/
def State.takes (s : State) (n : Nat) (m : BilletMsg) : Bool :=
  s.judges n m (fun j => match j with | .accept _ => true | _ => false)

/-- The next effect of slice `n` is that of the entry `q`, it may be issued now, and it is not an immediate one (R82). -/
def State.mayIssue (s : State) (n : Nat) (q : Word) : Bool :=
  match (s.slice n).nextIssue with
  | some e => e.seq == q && (match opOf e.body.opcode with
    | some d => !d.imm && s.issueReady n e d
    | none => false)
  | none => false

/-- State of the journal entry `q` of slice `n`. -/
def State.entrySt (s : State) (n : Nat) (q : Word) : Option JState := ((s.slice n).entry q).map (·.st)

/-- A SOLO device takes the billet of a row, and its effect may be issued at once. -/
abbrev State.Goes (s : State) (b : Billet) (code : Nat) (force : List (Nat × Nat)) : Prop :=
  s.safe = true ∧ s.pair.role = .solo ∧ s.pair.completions = [] ∧ (s.slice b.slice.val).entry b.hdr.seq = none ∧
  s.takes b.slice.val (billetMsg b code force) = true ∧
  (s.deliver b.slice.val (billetMsg b code force)).mayIssue b.slice.val b.hdr.seq = true

/-- What the row `cmd` does with a billet that a SOLO device takes and issues: the state `u` in which it has been accepted and
answered goes to a next state of which `P u n q m t` holds, for its slice, its SEQ and the billet. -/
def Effect (cmd : Billet → Instr) (code : Nat) (force : List (Nat × Nat))
    (P : State → Nat → Word → BilletMsg → State → Prop) : Prop :=
  ∀ (s : State) (b : Billet), s.Goes b code force →
    Ends (cmd b) s (P (s.deliver b.slice.val (billetMsg b code force)) b.slice.val b.hdr.seq (billetMsg b code force))

/-- An immediate row (R81): the state `u` in which the billet has its journal entry goes to `t`, whose entry is DONE, with what `P`
says of both and of RESULT. -/
def Immediate (cmd : Billet → Instr) (code : Nat) (P : State → Nat → List Byte → State → Word → Prop) : Prop :=
  ∀ (s : State) (b : Billet) (d : OpDef), s.safe = true → s.pair.role = .solo →
    (s.slice b.slice.val).entry b.hdr.seq = none → s.takes b.slice.val (billetMsg b code []) = true →
    opOf (billetMsg b code []).opcode = some d →
    Ends (cmd b) s (fun t =>
      let n := b.slice.val
      let f := (s.announce n).modSlice n (fun x => { x with inHand := .none })
      t.entrySt n b.hdr.seq = some .done ∧
      ∃ r, ((t.slice n).entry b.hdr.seq).map (·.reply.result) = some r ∧
        P (f.journalIn n (f.newEntry n (billetMsg b code []) d)) n (billetMsg b code []).payload t r)

/-- The journal entry `q` becomes DONE. -/
def Slice.doneEntry (x : Slice) (q : Word) : Slice :=
  x.modEntry q (fun e => { e with st := .done, applied := none, here := none })

/-- The journal entry `q` of slice `n` becomes DONE, and nothing else changes. -/
def State.ended (u : State) (n : Nat) (q : Word) : State := u.modSlice n (fun x => x.doneEntry q)

/-- The item is staged, and no other item of its object is (R106). -/
def Slice.stagedAs (x : Slice) (i : StageItem) : Bool := x.staged.contains i && x.staged.all (fun j => j.key != i.key || j == i)

/-- The entry's slot in `u` is DONE in `t` with S_DONE and the value (R63). -/
abbrev SlotDone (u t : State) (n : Nat) (q : Word) (value : Nat) : Prop :=
  t.entrySt n q = some .done ∧
  (((u.slice n).entry q).bind (·.slot)).any (fun k => decide (t.slotHas n k .done S_DONE value)) = true

/-- The entry's slot in `u` is DONE in `t` with S_DONE, and its VALUE satisfies `f`. -/
abbrev SlotDoneBy (u t : State) (n : Nat) (q : Word) (f : DWord → Bool) : Prop :=
  t.entrySt n q = some .done ∧
  (((u.slice n).entry q).bind (·.slot)).any (fun k => let x := (t.slice n).slots.getD k Slot.empty
    x.st == .done && x.status == BitVec.ofNat 16 S_DONE && f x.value) = true

/-- As `SlotDone`, where the spec states VALUE_LO alone. -/
abbrev SlotDoneLo (u t : State) (n : Nat) (q : Word) (lo : Nat) : Prop := SlotDoneBy u t n q (fun v => v.toNat % 2 ^ 32 == lo % 2 ^ 32)
/-- As `SlotDone`, where the spec states no VALUE. -/
abbrev SlotDoneAny (u t : State) (n : Nat) (q : Word) : Prop := SlotDoneBy u t n q (fun _ => true)

/-- The journal entry `q` of slice `n` is OPEN (R68). -/
abbrev State.openAt (u : State) (n : Nat) (q : Word) : Prop := ((u.slice n).entry q).any (·.isOpen) = true

/-- Chime player `k`. -/
abbrev State.player (s : State) (k : Nat) : Player := s.aud.players.getD k ⟨none, none⟩

/-- LIMP_CTRL 0 and 2 (R124, R280): the force ends; the entry waits where the display is shown, or is still to be, by force alone. -/
abbrev LimpReleased (u : State) (n : Nat) (q : Word) (t : State) : Prop :=
  let l := u.disp.limp
  if l.forced = true ∧ u.limpLatched = false ∧ (l.shown = true ∨ l.trigger.isSome) then
    t.entrySt n q = some .openIssued ∧
    t.disp.limp = { l with forced := false, seqs := l.seqs ++ [(n, q)], trigger := if l.shown then l.trigger else none }
  else SlotDoneLo u t n q (u.frameNo 0).toNat ∧ t.disp.limp = { l with forced := false }

/-- The main supply is off (R664): what only the main domain holds is at its reset state. -/
abbrev MainOff (t : State) : Prop :=
  t.cru = Cluster.reset ∧ t.net = Net.reset ∧ t.haps = List.replicate 8 Hap.reset ∧ t.locks = List.replicate 64 Lock.free ∧
  t.chans = List.replicate 32 Channel.empty ∧ t.pair = Pair.reset ∧ t.cfg.sealed = false ∧ t.boot.mainEn = false ∧
  t.regs.all (fun e => keptPage e.1 || e.1 == R.ANV_STAT || e.1 == R.ANV_CHAN_FAIL ||
    (List.range 8).any (fun o => e.1 == R.SCN_OUT_GEOM o || e.1 == R.SCN_OUT_ALLOC o)) = true

/-- Nothing changes from `u` to `t` but the slices and what is sent to the host. -/
abbrev SlicesOnly (u t : State) : Prop :=
  t = { u with slices := t.slices, fresh := t.fresh, out := t.out, ports := t.ports }

/-- Every register but those of the list is as before. -/
abbrev RegsBut (ks : List Nat) (u t : State) : Prop :=
  t.regs.filter (fun e => !ks.contains e.1) = u.regs.filter (fun e => !ks.contains e.1)

/-! ## Registers, entries and frames -/

/-- A slice's binding is one to PCIe. -/
def Binding.isPcie (b : Binding) : Bool := match b with | .pcie _ _ => true | _ => false

/-- No billet waits in STAGED. -/
def State.noStaged (s : State) : Bool := s.slices.all (fun x => match x.inHand with | .staged _ => false | _ => true)

/-- Only registers change, and of them only those of the list. -/
abbrev RegsOnly (ks : List Nat) (s t : State) : Prop := t = { s with regs := t.regs } ∧ RegsBut ks s t

/-- Bits [lo+w-1:lo] of a register become `v`, and its other bits stay. -/
abbrev FieldSet (off lo w v : Nat) (s t : State) : Prop :=
  t.fld off lo w = v ∧ ∀ i < 32, (i < lo ∨ lo + w ≤ i) → t.flag off i = s.flag off i

/-- A saturating counter field counts one event, and nothing else changes. -/
abbrev Counts (off lo w : Nat) (s t : State) : Prop :=
  RegsOnly [off] s t ∧ FieldSet off lo w (min (2 ^ w - 1) (s.fld off lo w + 1)) s t

/-- A SOLO device holds the OPEN entry `q` of slice `n`, which has a result slot. -/
abbrev State.Owes (s : State) (n : Nat) (q : Word) : Prop :=
  s.safe = true ∧ s.pair.role = .solo ∧ s.pair.completions = [] ∧ n < 16 ∧ s.openAt n q ∧
  (((s.slice n).entry q).bind (·.slot)).any (· < 64) = true

/-- The slot of the entry `q` of `s` is DONE in `t` with this status and value. -/
abbrev SlotIs (s t : State) (n : Nat) (q : Word) (status value : Nat) : Prop :=
  (((s.slice n).entry q).bind (·.slot)).any (fun k => decide (t.slotHas n k .done status value)) = true

/-- The link is up, nothing waits to be sent, and the frame is good and in order (R430). -/
abbrev State.InOrder (s : State) (h : UlxHdr) : Prop :=
  s.flag R.ULX_STAT 2 = true ∧ s.pair.waiting = [] ∧ h.good = true ∧ h.lseq = s.pair.rseq + 1

/-- The state that has taken the header of a frame in order. -/
def State.received (s : State) (h : UlxHdr) : State :=
  { s with pair := { s.pair with rseq := h.lseq, unacked := s.pair.unacked.filter (fun u => 0 < sdiff u.1 h.lack) } }

/-- The frame has been sent, or waits for room (R430). -/
abbrev Sends (t : State) (m : UlxMsg) : Prop := t.out.contains (.ulx m) = true ∨ t.pair.waiting.contains m = true

/-- The log has taken an entry of the class (R632), with FAULT_N where `f` (R634). -/
abbrev Logs (s t : State) (cls : Nat) (f : Bool) : Prop :=
  s.boot.hearthDown = false → t.slag.sticky.testBit cls = true ∧ (f = true → t.slag.cause.testBit cls = true)

/-! ## Slices -/

/-- Port and PASID of a PCIe binding. -/
def Binding.portId (b : Binding) : Nat × BitVec 20 := match b with | .pcie p id => (p, id) | _ => (0, 0)

/-- The two memory writes of a reply of slice `n`, newest first: the tail shadow, and the record (R43, R46, R48). -/
def State.replyWrites (s : State) (n : Nat) (r : Reply) : List OutEv :=
  let x := s.slice n
  let b := x.binding.portId
  [.hostWrite b.1 b.2 (x.rqBase.toNat + 0x1000) (leBytes 4 (x.rqTail + 1).toNat),
   .hostWrite b.1 b.2 (x.rqBase.toNat + 16 * (x.rqTail.toNat % 256)) r.bytes]

/-- The record is written, and the ring counts advance by one. -/
abbrev Answered (s t : State) (n : Nat) (r : Reply) : Prop :=
  (s.replyWrites n r ++ s.out).isSuffixOf t.out = true ∧
  (t.slice n).rqTail = (s.slice n).rqTail + 1 ∧ (t.slice n).sqHead = (s.slice n).sqHead + 1

/-- The billet is rejected (R52): its reply has the status and RESULT, and nothing else of the slice changes. -/
abbrev Rejected (s t : State) (n : Nat) (m : BilletMsg) (status result : Nat) : Prop :=
  Answered s t n ⟨m.seq, m.tag, BitVec.ofNat 12 m.opcode.toNat, false, false, BitVec.ofNat 16 status, BitVec.ofNat 32 result⟩ ∧
  t.slice n = { s.slice n with
    rqTail := (s.slice n).rqTail + 1, sqHead := (s.slice n).sqHead + 1, dirty := (t.slice n).dirty } ∧ t.regs = s.regs

/-- A slice of a SOLO device may fetch its next billet, and its port holds nothing back. -/
abbrev State.Fetches (s : State) (n : Nat) : Prop :=
  s.safe = true ∧ s.pair.role = .solo ∧ n < 16 ∧ s.mayFetch n = true ∧ (s.port (s.slice n).binding.portId.1).held = []

/-- The checks of R53 pass the billet as one that is not immediate. -/
def Judgement.open (j : Judgement) : Bool := match j with | .accept d => !d.imm | _ => false

/-- An accepted billet is OPEN.WAIT with its body, its slot if it asks for one, and the SEQ that follows (R63, R68). -/
abbrev Accepted (s t : State) (n : Nat) (m : BilletMsg) : Prop :=
  t.entrySt n m.seq = some .openWait ∧ ((t.slice n).entry m.seq).map (·.body) = some m ∧ (t.slice n).nextSeq = m.seq + 1 ∧
  (t.slice n).inHand = .none ∧ (opOf m.opcode).any (fun d =>
    if d.slot then ((t.slice n).entry m.seq).bind (·.slot) == (s.slice n).freeSlot &&
      (s.slice n).freeSlot.any (fun k => ((t.slice n).slot k).st == .pending && ((t.slice n).slot k).seq == m.seq)
    else ((t.slice n).entry m.seq).bind (·.slot) == none) = true

/-- A full-width access of the window's owner. -/
abbrev State.reaches (s : State) (n : Nat) (a : Access) : Prop :=
  s.safe = true ∧ s.served = true ∧ a.be = 15 ∧ n < 16 ∧ (s.winMaster n a.req).isSome = true

/-! ## Quench -/

/-- A quench by doorbell runs at once on a SOLO device (R153): its owner's access, with no reserved bit, while none is busy. -/
abbrev State.Quenches (s : State) (n : Nat) (a : Access) : Prop :=
  s.reaches n a ∧ s.pair.role = .solo ∧ s.pair.completions = [] ∧ s.knabyRuns = true ∧ (s.slice n).qstat.busy = false ∧
  a.data.toNat / 16 % 16 = 0 ∧ s.phase = 0

/-- SLC_QSTAT after a quench that ended with `outcome`, and SLC_QARG. -/
abbrev QuenchDone (s t : State) (n : Nat) (arg : Word) (a : Access) (outcome : Nat) : Prop :=
  (t.slice n).qstat = ⟨false, true, outcome, (s.slice n).qstat.dropped, BitVec.ofNat 16 (a.data.toNat / 2 ^ 16)⟩ ∧ (t.slice n).qarg = arg

/-- Nothing but the doorbell's own registers, its interrupt, and a wake changes. -/
abbrev QuenchOnly (s t : State) (n : Nat) : Prop :=
  t.disp = s.disp ∧ t.cru = s.cru ∧ t.aud = s.aud ∧ t.haps = s.haps ∧ (t.slice n).journal = (s.slice n).journal ∧
  (t.slice n).slots = (s.slice n).slots

/-- The journal of slice `n` holds one entry for a SEQ, and slots in range. -/
def State.journalWf (s : State) (n : Nat) : Bool :=
  let j := (s.slice n).journal
  decide (j.map (·.seq)).Nodup && j.all (fun e => e.slot.all (· < 64)) && decide (((j.filter JEntry.isOpen).filterMap (·.slot)).Nodup)

/-- Of slice `n`, the OPEN entries that `f` names and that have a slot and no apply point reported are DONE with E_QUENCHED, and
every other entry stands as before. -/
abbrev Quenched (s t : State) (n : Nat) (f : JEntry → Bool) : Prop :=
  ∀ e ∈ (s.slice n).journal, if e.isOpen && f e then t.entrySt n e.seq = some .done ∧
      e.slot.all (fun k => ((t.slice n).slot k).st == .done && ((t.slice n).slot k).status == BitVec.ofNat 16 0x8103) = true
    else t.entrySt n e.seq = some e.st

/-! ## Register rows -/

/-- A full-width access that reaches the system register at `off` (R14, R615). -/
abbrev State.regReach (s : State) (a : Access) (off : Nat) : Prop :=
  s.safe = true ∧ s.served = true ∧ a.be = 15 ∧ (s.sysMaster a.req).isSome = true ∧ s.absentReg off = false

/-! ## Raster jobs and dispatch -/

/-- The raster front end stands at the command `c` of CMDBUF, whose OP is `op`; no draw is in progress, and the slice's cache window
holds no older content (R346, R350, R386). -/
abbrev State.rasAt (s : State) (j : CruJob) (r : RasterSt) (c : List Byte) (op : Nat) : Prop :=
  s.rasterJob = some (j, r) ∧ r.draw = none ∧ r.pos < u32 j.pl 4 + u32 j.pl 8 ∧ s.cru.old = [] ∧
  (s.jobSurf j 0).any (fun u => u.read r.pos 8 ++ u.read (r.pos + 8) 8 == c) = true ∧ u8 c 0 = op

/-- The job goes on with the raster state `r`, and nothing else changes. -/
abbrev RasBecame (s t : State) (j : CruJob) (r : RasterSt) : Prop :=
  t = { s with cru := { s.cru with
    jobs := s.cru.jobs.map (fun x => if x.slice = j.slice ∧ x.seq = j.seq then { x with ras := some r } else x) } }

/-- What the commands before it left reaches DRAM, and the job ends with E_JOB_FAULT and a record of the front end (R350, R353, R395). -/
abbrev RasFaulted (s t : State) (j : CruJob) (r : RasterSt) (code : Nat) : Prop :=
  t = (s.flushTargets j.slice r).endJob j.slice j.seq E_JOB_FAULT (code + 2 ^ 8 + 3 * 2 ^ 20 + r.pos % 2 ^ 32 * 2 ^ 32) ∧
  t.job j.slice j.seq = none

/-- One of the bytes of a command that are reserved is not 0. -/
def rsvIn (c : List Byte) (ks : List Nat) : Bool := ks.any (fun k => u8 c k != 0)

/-- A state command of R351: its OP, its faults in the order in which they are judged, with their codes of R353, and the state that it
leaves. -/
structure RasRow where
  cmd : Instr
  op : Nat
  bad : State → CruJob → RasterSt → List Byte → List (Bool × Nat)
  next : RasterSt → List Byte → RasterSt

/-- Format of the surface that the job's payload names at an offset; none for handle 0. -/
def State.fmtAt (s : State) (j : CruJob) (off : Nat) : Option Nat :=
  if u16 j.pl off = 0 then none else (s.surf j.slice (u16 j.pl off)).map (·.format)

/-- Bytes of CMDBUF. -/
def State.cmdSize (s : State) (j : CruJob) : Nat := ((s.jobSurf j 0).map (fun u => u.stride * u.height)).getD 0

/-- The state commands of R351. -/
def rasRows : List RasRow := [
  ⟨.rasCmdNop, 0, fun _ _ _ c => [(rsvIn c [1, 2, 3, 4, 5, 6, 7, 8, 9, 10, 11, 12, 13, 14, 15], 1)], fun r _ => r⟩,
  ⟨.rasViewport, 2, fun _ _ _ c => [(rsvIn c [1, 2, 3, 12, 13, 14, 15], 1),
      (!(decide (1 ≤ u16 c 8 ∧ u16 c 8 ≤ 8192 ∧ 1 ≤ u16 c 0xA ∧ u16 c 0xA ≤ 8192 ∧
        u16 c 4 + u16 c 8 ≤ 16384 ∧ u16 c 6 + u16 c 0xA ≤ 16384)), 2)],
    fun r c => { r with vp := ⟨u16 c 4, u16 c 6, u16 c 8, u16 c 0xA⟩ }⟩,
  ⟨.rasScissor, 3, fun _ _ _ c => [(rsvIn c [1, 2, 3, 12, 13, 14, 15], 1), (!(decide (1 ≤ u16 c 8 ∧ 1 ≤ u16 c 0xA)), 2)],
    fun r c => { r with sc := ⟨u16 c 4, u16 c 6, u16 c 8, u16 c 0xA⟩ }⟩,
  ⟨.rasRaster, 4, fun _ _ _ c => [(rsvIn c [4, 5, 6, 7, 8, 9, 10, 11, 12, 13, 14, 15], 1),
      (!(decide (u8 c 1 ≤ 2 ∧ u8 c 2 ≤ 1 ∧ u8 c 3 ≤ 1)), 2)],
    fun r c => { r with cull := u8 c 1, front := u8 c 2, clampZ := u8 c 3 == 1 }⟩,
  ⟨.rasDepth, 5, fun s j _ c => [(rsvIn c [4, 5, 6, 7, 8, 9, 10, 11, 12, 13, 14, 15], 1),
      (!(decide (u8 c 1 ≤ 7 ∧ u8 c 2 ≤ 1 ∧ u8 c 3 ≤ 1)), 2), (decide ((u8 c 2 = 1 ∨ u8 c 3 = 1) ∧ s.fmtAt j 0x14 = none), 5)],
    fun r c => { r with dfunc := u8 c 1, dwrite := u8 c 2 == 1, dtest := u8 c 3 == 1 }⟩,
  ⟨.rasStencil, 6, fun s j _ c => [(rsvIn c [9, 10, 11, 12, 13, 14, 15], 1),
      (!(decide (u8 c 1 ≤ 7 ∧ u8 c 5 ≤ 7 ∧ u8 c 6 ≤ 7 ∧ u8 c 7 ≤ 7 ∧ u8 c 8 ≤ 1)), 2),
      (decide (u8 c 8 = 1 ∧ s.fmtAt j 0x14 ≠ some 0x10), 5)],
    fun r c => { r with sten := ⟨u8 c 1, u8 c 2, u8 c 3, u8 c 4, u8 c 5, u8 c 6, u8 c 7, u8 c 8 == 1⟩ }⟩,
  ⟨.rasBlend, 7, fun s j r c => let h := (r.tgt (u8 c 1)).handle
      [(rsvIn c [4, 5, 6, 7, 8, 9, 10, 11, 12, 13, 14, 15], 1), (!(decide (u8 c 1 ≤ 3 ∧ u8 c 2 ≤ 3 ∧ u8 c 3 ≤ 15)), 2),
       (h == 0 || (u8 c 2 != 0 && ((s.surf j.slice h).any (fun u => u.format == 0x20 || u.format == 0x21))), 5)],
    fun r c => { r with targets := modAt r.targets (u8 c 1) (fun t => { t with mode := u8 c 2, wmask := u8 c 3 }) }⟩,
  ⟨.rasShaders, 8, fun s j _ c => [(rsvIn c [3], 1),
      (!(decide (u8 c 1 ≤ 16 ∧ u8 c 2 ≤ 3 ∧ u32 c 4 % 8 = 0 ∧ u32 c 8 % 8 = 0 ∧ u32 c 0xC % 256 = 0)), 2),
      (!(decide (u32 c 4 + 8 ≤ s.cmdSize j ∧ u32 c 8 + 8 ≤ s.cmdSize j ∧ u32 c 0xC + 4096 ≤ s.cmdSize j)), 3)],
    fun r c => { r with sh := some ⟨u8 c 1, u8 c 2, u32 c 4, u32 c 8, BitVec.ofNat 32 (u32 c 0xC)⟩ }⟩,
  ⟨.rasVertices, 9, fun s j _ c => [(rsvIn c [1, 2, 3], 1), (!(decide (u32 c 4 + u32 c 8 * u32 c 0xC ≤ s.cmdSize j)), 3)],
    fun r c => { r with vOff := BitVec.ofNat 32 (u32 c 4), vStride := BitVec.ofNat 32 (u32 c 8), vCount := u32 c 0xC }⟩]

/-- What a state command does when it stands next: the first fault of its row ends the job; with none, the state is changed and the
stream goes on 16 bytes further. -/
def RasRow.Holds (x : RasRow) : Prop :=
  ∀ (s : State) (j : CruJob) (r : RasterSt) (c : List Byte), s.rasAt j r c x.op →
    Ends x.cmd s (fun t => match (x.bad s j r c).find? (·.1) with
      | none => RasBecame s t j { x.next r c with pos := r.pos + 16 }
      | some e => RasFaulted s t j r e.2)

/-- The bundle at a place on a core (R401). -/
abbrev State.bundleIs (t : State) (n core slot : Nat) (f : Bundle → Bool) : Prop := (t.bundle n core slot).any f = true

/-- A bundle just placed (R402, R403): its job, kind and entry, its lanes, predicates 0, and the words given to V0 and up. -/
def Bundle.startsAs (b : Bundle) (j : CruJob) (kind wg idx entry lanes : Nat) (words : Nat → List Word) : Bool :=
  b.slice == j.slice && b.seq == j.seq && b.kind == kind && b.wg == wg && b.idx == idx && b.pc == BitVec.ofNat 32 entry &&
  b.live == BitVec.ofNat 16 (2 ^ lanes - 1) && b.exec == BitVec.ofNat 16 (2 ^ lanes - 1) && b.p == [0, 0, 0, 0] && b.st == .ready &&
  (List.range lanes).all (fun l => (words l).zipIdx.all (fun e => b.v.get e.2 l == e.1) &&
    (List.range 128).all (fun r => decide (r < (words l).length) || b.v.get r l == 0))

/-- The bundles that are new in `t`: those beyond the bundles of `s`, in the order of placing. -/
def State.newBundles (s t : State) : List Bundle := t.cru.bundles.drop s.cru.bundles.length

/-! ## DRAM and memory test -/

/-- What the firewall passes (R468): a region of R467 to the masters it names, a slice's surface to that slice's port or to a master
of the core. -/
def State.fwPasses (s : State) (q : DramReq) : Bool :=
  match q.target with
  | .objects => q.master.val == 1 || q.master.val == 2
  | .journal => q.master.val == 1 || q.master.val == 2 || q.master.val == 4
  | .flags => q.master.val == 3
  | .surface n h => (s.slice n.val).surfaces.any (fun u => u.handle == h) &&
      (if 4 ≤ q.port.val ∧ q.port.val < 20 then q.port.val == 4 + n.val else decide (q.master.val < 16))
  | _ => false

/-- The controller is in service: neither in self-refresh nor entering it. -/
abbrev State.drcAwake (s : State) : Prop := s.flag R.DRC_STAT 1 = false ∧ s.flag R.DRC_STAT 2 = false

/-- A word with the three bits of OP replaced. -/
def withOp (v op : Nat) : Nat := v / 8 * 8 + op

/-- What a helper command of R487 with its OP does. -/
def TemperRow (cmd : Access → Instr) (op : Nat) : Prop :=
  (∀ (s : State) (a : Access), s.regReach a R.DRC_T_CTRL → s.flag R.DRC_T_STAT 0 = false →
    let v := withOp a.data.toNat op
    let ch := v / 8 % 4
    let count := v / 2 ^ 8 % 2 ^ 16
    let base := s.trainBase
    let inside := decide (base ≤ s.reg R.DRC_T_ADDR ∧ s.reg R.DRC_T_ADDR + 64 * count ≤ base + 65536)
    let ok := decide (ch < s.nDrc) && (s.fld R.DRC_STAT 3 3 == 1 || (op != 1 && op != 2) || inside)
    Ends (cmd a) s (fun t => t.reg R.DRC_T_CTRL = (v &&& 0x00FFFF7F) ∧
      RegsBut [R.DRC_T_CTRL, R.DRC_T_STAT, R.SLG_ACC, R.SLG_ACC_ADDR] s t ∧
      (op = 0 → t.reg R.DRC_T_STAT = s.reg R.DRC_T_STAT ∧ t.dram = s.dram) ∧
      (op ≠ 0 → ok = false → FieldSet R.DRC_T_STAT 1 1 1 s t ∧ t.dram = s.dram) ∧
      (op ≠ 0 → ok = true → t.reg R.DRC_T_STAT = 1) ∧
      (ok = true → op = 1 → t.dram = { s.dram with helper := ⟨ch, v / 32 % 2, s.reg R.DRC_T_ADDR, count, v.testBit 6,
        (List.range 4).map (fun k => s.regs.get (R.DRC_T_PAT k))⟩ :: s.dram.helper }) ∧
      (2 ≤ op → t.dram = s.dram)))

/-- Banks, or groups of eight banks, and windows of each memory under test (R499). -/
def windowsOf (mem : Nat) : Nat × Nat := if mem = 0 then (1, 512) else if mem = 1 then (8, 32) else (8, 256)

/-- The window that the tester visits next: ascending bank, then ascending window (R499). -/
def windowAfter (mem : Nat) (p : TestPos) : TestPos :=
  let d := windowsOf mem
  if p.window + 1 < d.2 then ⟨p.bank, p.window + 1, false, 0⟩
  else if p.bank + 1 < d.1 then ⟨p.bank + 1, 0, false, 0⟩
  else ⟨0, 0, false, 0⟩

/-- Where a memory's test stands. -/
abbrev State.testIs (t : State) (mem : Nat) (p : TestPos) : Prop := t.memtest.getD mem ⟨0, 0, false, 0⟩ = p

/-! ## Touch and haptics -/

/-- The group is scanned by a SOLO device in RUN; it has no report left to deliver, and no port holds requests back. -/
abbrev State.scanned (s : State) (g : Nat) : Prop :=
  s.safe = true ∧ s.pair.role = .solo ∧ g < s.nOut ∧ (s.tg g).enabled = true ∧ s.power.st = 0 ∧ s.power.restoring = false ∧
  (s.tg g).fifo = [] ∧ (s.tg g).lost = false ∧ (∀ p < 2, (s.port p).held = [])

/-- A touch report of group `g` (R519): its number is the group's next, its time that of gPTP. -/
def State.touchReport (s : State) (g index event flags pos : Nat) (delta : Int) : List Byte :=
  leBytes 4 (s.tg g).seq.toNat ++ leBytes 1 g ++ leBytes 1 index ++ leBytes 1 event ++ leBytes 1 flags ++ leBytes 2 pos ++
  leBytes 2 (unsgn 16 (max (-32768) (min 32767 delta))) ++ leBytes 4 (if s.ptpLocked then s.net.time / 1000 % 2 ^ 32 else 0)

/-- The report has been made (R520): SEQ advances; it is dropped without a TCH_REPORTS, written into the ring of a PCIe-bound slice
with the new count behind the ring unless the port holds its requests (R566), and otherwise kept. -/
def reported (s t : State) (g : Nat) (r : List Byte) : Bool :=
  let q := (s.tg g).seq
  (t.tg g).seq == q + 1 &&
  match (s.tg g).reports with
  | none => (t.tg g).fifo == []
  | some (n, k, a) => match (s.slice n).binding with
    | .pcie p id => (t.tg g).fifo == [] && ((s.port p).holds || (t.out.contains (.hostWrite p id (a + 16 * (q.toNat % k)) r) &&
        t.out.contains (.hostWrite p id (a + 16 * k) (leBytes 4 (q + 1).toNat))))
    | _ => (t.tg g).fifo == [(q, r)]

/-- A key of group `g` that is not faulty. -/
abbrev State.keyAt (s : State) (g c : Nat) : Prop := ((s.tg g).el c).role = 1 ∧ ((s.tg g).el c).faulty = false

/-- Nothing of the channels changes but channel `n`, which becomes `h`. -/
abbrev HapBecame (s t : State) (n : Nat) (h : Hap) : Prop := t.haps = s.haps.set n h

/-- A HAP_PLAY that ends, with its slot's VALUE (R139). -/
abbrev PlayEnds (s t : State) (src : Option (Nat × Word)) (status value : Nat) : Prop :=
  ∀ p ∈ src, s.Owes p.1 p.2 → t.entrySt p.1 p.2 = some .done ∧ SlotIs s t p.1 p.2 status value

/-! ## Audio -/

/-- The input sample of a TDM input (R543): the slot that AUD_TDMIN_MAP names, left-justified; 0 for an input with no source. -/
def State.tdmRaw (s : State) (pins : AudioPins) (i : Nat) : Int :=
  let m := s.reg (R.AUD_TDMIN_MAP (i - 24))
  let p := m % 4
  let k := m / 2 ^ 4 % 16
  let w := tdmWidth (s.fld (R.AUD_TDM_CFG p) 7 2)
  if 24 ≤ i ∧ m.testBit 31 = true ∧ s.flag (R.AUD_TDM_CFG p) 0 = true ∧ k ≤ s.fld (R.AUD_TDM_CFG p) 3 4
  then sgn w (((pins.tdm.getD p []).getD k 0).toNat / 2 ^ (32 - w)) * 2 ^ (32 - w) else 0

/-- (v × gain + 2^23) >> 24, saturated (R544). -/
def scaled (v : Int) (g : Nat) : Int := sat32 ((v * g + 8388608) / 16777216)

/-- The mixer of R544 up to the limiter, for output `j`, from the raw inputs, while no chime plays. -/
def Audio.mixed (a : Audio) (raw : Nat → Int) (j : Nat) : Int :=
  let o := a.out j
  let acc := (List.range 32).foldl (fun t i =>
    t + scaled (raw i) (a.inGain.getD i Gain.unity).factor * ((a.cross (16 * i + j)).factor : Int)) 0
  (runEq o.eq (false, scaled (scaled (sat32 ((acc + 8388608) / 16777216)) o.gain.factor) o.duck.factor)).2.2

/-- The slots of a TDM port as its outputs' mappings fill them (R552, R553): the lowest-numbered output that names a slot. -/
def tdmSlotsOf (a : Audio) (p slots w : Nat) (y : Nat → Int) : List Word :=
  (List.range slots).map (fun k =>
    match (List.range 16).find? (fun j => (a.out j).map.toNat % 4 == p && (a.out j).map.toNat.testBit (16 + k)) with
    | some j => BitVec.ofNat 32 (unsgn w (toWidth w (y j)) * 2 ^ (32 - w))
    | none => 0)

/-- A gain when its ramp's last sample has been played (R545, R546): its end, then the ramp that follows. -/
def Gain.afterRamp (g : Gain) : Gain :=
  match g.ramp with
  | none => g
  | some r =>
    if r.k ≤ r.n then g else
    match r.next with
    | none => ⟨if r.toOff then none else some r.q1, none⟩
    | some (q, n) => ⟨if r.toOff then none else some r.q1, some ⟨if r.toOff then -24576 else r.q1, q, n, 0, false, none, r.src⟩⟩

/-- No cause of FAULT_N is new to FAULT_CHIME (R646). -/
abbrev State.quiet (s : State) : Prop :=
  s.slag.cause &&& (0xFFFFFFFF ^^^ s.aud.faultSeen) = 0 ∧ (s.slag.hw = false ∨ s.aud.hwSeen = true)

/-- Every other chime player is free. -/
abbrev State.alone (s : State) (p : Nat) : Prop := ∀ k < 4, k ≠ p → s.player k = ⟨none, none⟩

/-! ## Host and network -/

/-- An error completion, or none: what it does by the read that it answers (R568). -/
def CplRow (cmd : Fin 16 → HostRead → Instr) : Prop :=
  (∀ (s : State) (n : Fin 16), s.safe = true → s.mayFetch n.val = true →
    let p := (s.slice n.val).binding.portId.1
    Ends (cmd n .fetch) s (fun t => t.slice n.val = { s.slice n.val with fetchRetry := true } ∧
      (t.port p).fetchErr = min 65535 ((s.port p).fetchErr + 1) ∧ Logs s t 19 false)) ∧
  (∀ (s : State) (n : Fin 16) (e : JEntry) (u : Surface), s.Owes n.val e.seq → s.knabyRuns = true → (s.slice n.val).entry e.seq = some e →
    e.st = .openIssued → e.body.opcode = 0x0102 → s.surf n.val (u16 e.body.payload 0) = some u → (s.slice n.val).inHand = .none →
    Ends (cmd n (.upload e.seq)) s (fun t => t.entrySt n.val e.seq = some .done ∧
      e.slot.any (fun k => ((t.slice n.val).slot k).status == BitVec.ofNat 16 0x8105) = true ∧
      (t.slice n.val).surfaces = (s.slice n.val).surfaces)) ∧
  (∀ (s : State) (n : Fin 16) (g : GuestStream), s.safe = true → s.pair.role = .solo → g ∈ s.aud.streams → g.slice = n.val →
    (s.slice n.val).binding.portId.1 < 2 → (s.slice n.val).binding.isPcie = true →
    let p := (s.slice n.val).binding.portId.1
    Ends (cmd n (.stream g.first)) s (fun t => (t.port p).cplErr = min 65535 ((s.port p).cplErr + 1) ∧ t = { s with ports := t.ports }))

/-- The configuration space of a port and its BAR4/5 at their reset values (R567). -/
def PciPort.cleared (q : PciPort) : PciPort :=
  { q with bme := false, pasidEn := false, d3 := false, msix := List.replicate 64 MsixEntry.reset }

/-- Two states of a port agree, but for interrupt 3 of slice 0, which a log entry raises (R632). -/
def PciPort.agrees (p q : PciPort) : Bool :=
  { p with held := [], msix := p.msix.set 3 MsixEntry.reset } == { q with held := [], msix := q.msix.set 3 MsixEntry.reset }

/-- Slice 0 has lost its host (R584, R590): ID 16 holds and waits for no lock, and the channels it receives on are empty. -/
abbrev HostLost (s t : State) : Prop :=
  (∀ k < 64, (t.lock k).holder ≠ .master 16 ∧ (t.lock k).waiting.contains 16 = false) ∧
  (∀ k < 32, s.chOn k = true → s.chReceiver k = 16 → (t.chan k).msgs = [] ∧ (t.chan k).bell = 0 ∧ (t.chan k).aborted = true)

/-- A frame is dropped and counted (R573). -/
abbrev Dropped (s t : State) : Prop :=
  t.reg (R.NET_DROP 7) = min (2 ^ 32 - 1) (s.reg (R.NET_DROP 7) + 1) ∧ RegsOnly [R.NET_DROP 7] s t

/-- An MDIO command of R580: the transaction starts with the row's operation. -/
def MdioRow (cmd : Access → Instr) (op : Nat) (wr : Option Bool) : Prop :=
  (∀ (s : State) (a : Access), s.regReach a R.NET_MDIO → s.flag R.NET_MDIO 29 = false →
    let v := a.data.toNat
    let w := (wr.getD (v.testBit 28))
    Ends (cmd a) s (fun t => t.fld R.NET_MDIO 0 26 = v % 2 ^ 26 ∧ t.fld R.NET_MDIO 26 2 = op ∧ t.flag R.NET_MDIO 28 = w ∧
      RegsBut [R.NET_MDIO, R.SLG_ACC, R.SLG_ACC_ADDR] s t ∧
      (s.pair.role ≠ .standby → t.flag R.NET_MDIO 29 = true ∧ t.flag R.NET_MDIO 30 = false ∧
        t.out.head? = some (.mdio op w (v / 2 ^ 21 % 32) (v / 2 ^ 16 % 32) (v % 2 ^ 16))) ∧
      (s.pair.role = .standby → t.flag R.NET_MDIO 29 = false ∧ t.flag R.NET_MDIO 30 = true ∧ t.out = s.out)))

/-- A lock command of R582 by a register master that may use locks: the lock becomes what the row says. -/
def LockRow (cmd : Fin 64 → Access → Instr) (f : Lock → Nat → Lock) : Prop :=
  (∀ (s : State) (k : Fin 64) (a : Access) (m : Nat), s.regReach a (R.LCK_REQ k.val) → s.sysMaster a.req = some m → s.lockMaster m = true →
    a.data.toNat < 4 →
    Ends (cmd k a) s (fun t => t = { s with locks := s.locks.set k.val (f (s.lock k.val) m) }))

/-- ACQ (R582): a free lock is taken; for a held one the request waits, once. -/
def acqLock (l : Lock) (m : Nat) : Lock :=
  if l.holder = .none then { l with holder := .master m }
  else if m ∈ l.waiting ∨ l.holder.id = some m then l else { l with waiting := l.waiting ++ [m] }

/-- TRY (R582): a free lock is taken, a held one is not asked for. -/
def tryLock (l : Lock) (m : Nat) : Lock := if l.holder = .none then { l with holder := .master m } else l

/-- CANCEL (R582): the master's waiting request is dropped. -/
def cancelLock (l : Lock) (m : Nat) : Lock := { l with waiting := l.waiting.filter (· ≠ m) }

/-! ## Check units and configuration -/

/-- One bit into a check register of width `w` (R599). -/
def unitBit (w poly r : Nat) (b : Bool) : Nat :=
  (2 * r) % 2 ^ w ^^^ (if xor (r.testBit (w - 1)) b then poly % 2 ^ w else 0)

/-- The register after a byte stream (R599). -/
def unitBytes (w poly : Nat) (refin : Bool) (r : Nat) (bs : List Byte) : Nat :=
  bs.foldl (fun r b => (List.range 8).foldl (fun r i => unitBit w poly r (b.getLsbD (if refin then i else 7 - i))) r) r

/-- Bytes through unit `k` as it is configured, from register `r`. -/
def State.unitFeed (s : State) (k r : Nat) (bs : List Byte) : Nat :=
  unitBytes (s.fld (R.CRC_U_CFG k) 0 5 + 1) (s.reg (R.CRC_U_POLY k)) (s.flag (R.CRC_U_CFG k) 5) r bs

/-- The fold of R600 from register `r`. -/
def State.unitFold (s : State) (k r : Nat) : Nat :=
  if s.fld (R.CRC_U_CFG k) 8 2 = 1 then s.unitFeed k r (leBytes 4 (s.reg (R.CRC_U_FOLD k)))
  else if s.fld (R.CRC_U_CFG k) 8 2 = 2 then s.unitFeed k r (leBytes 4 (s.reg (R.CRC_U_SEQ k)))
  else r

/-- SEQ after a fold (R600). -/
def State.unitSeq (s : State) (k : Nat) : Nat :=
  if s.fld (R.CRC_U_CFG k) 8 2 = 2 then (s.reg (R.CRC_U_SEQ k) + 1) % 2 ^ 32 else s.reg (R.CRC_U_SEQ k)

/-- The CRC-32C with the parameters of R41, from the definition of R599. -/
def crc32cSpec (bs : List Byte) : Nat :=
  ((List.range 32).foldl (fun a i => a + (if (unitBytes 32 0x1EDC6F41 true 0xFFFFFFFF bs).testBit i then 0 else 2 ^ (31 - i))) 0)

/-- Master `m` writes unit `k`'s register at `off` in full, and the unit is one that it drives and is free (R601, R603). -/
abbrev State.ownsUnit (s : State) (k : Nat) (a : Access) (off m : Nat) : Prop :=
  s.regReach a off ∧ s.sysMaster a.req = some m ∧ s.fld (R.CRC_U_OWNER k) 0 8 = m ∧ s.flag (R.CRC_U_CTRL k) 3 = false

/-- The block CRC of R620 over the values that `f` gives, absent units reading 0 (R619). -/
def State.blockCheck (s : State) (b : Nat) (f : Nat → Nat) : Nat :=
  crc32cSpec (leBytes 4 (cfgBase b) ++ (cfgRegs b).flatMap (fun x =>
    leBytes 4 x.2.1 ++ leBytes 4 (if s.absentKey x.1 then 0 else f x.1 &&& x.2.2)))

/-! ## Resets, start-up, escalation and the ladder -/

/-- No quench and no datagram waits for Knaby. -/
abbrev State.settled (s : State) : Prop := (∀ n < 16, (s.slice n).qword = none) ∧ s.net.quenchQ = [] ∧ s.net.billetQ = []

/-- A watchdog or quench supervision fires (R638): a Knaby restart falls due, the third within 60 s becomes a warm reset of cause 4,
and the second of those within 300 s stops Knaby. -/
abbrev KnabyDue (s t : State) : Prop :=
  Logs s t 18 false ∧
  ((s.boot.knabyTimes.filter (fun x => s.time < x + 60000000)).length < 2 → t = { s with
    boot := { s.boot with knabyDown := true, knabyTimes := s.time :: s.boot.knabyTimes.filter (fun x => s.time < x + 60000000) }
    slag := t.slag, ports := t.ports, out := t.out }) ∧
  (2 ≤ (s.boot.knabyTimes.filter (fun x => s.time < x + 60000000)).length →
    (s.boot.warm4Times.any (fun x => s.time < x + 300000000) = false → t = { s with
      boot := { s.boot with knabyDown := true, knabyTimes := [], rstPend := s.boot.rstPend ||| 4 }
      slag := t.slag, ports := t.ports, out := t.out }) ∧
    (s.boot.warm4Times.any (fun x => s.time < x + 300000000) = true → t.boot.knabyStopped = true ∧ t.boot.knabyDown = false ∧
      Logs s t 18 true ∧ (s.boot.limpOnEscalate = true → t.disp.limp.forced = true) ∧
      (∀ k < 64, (t.lock k).holder ≠ .master 1 ∧ (t.lock k).holder ≠ .master 2)))

/-- The Hearth cores stop (R634, R645): the hardware hold asserts FAULT_N, and the HEARTH entry with this code waits. -/
abbrev HearthStops (s t : State) (code : Nat) : Prop :=
  t.slag = { s.slag with hw := true, held := s.slag.held ++ [(⟨4, 2, false, 0, code, 0, 0⟩, false)] } ∧
  t.boot = { s.boot with hearthDown := true } ∧
  (s.pair.role = .solo → t = { s with slag := t.slag, boot := t.boot }) ∧
  (s.pair.role ≠ .solo → RegsBut [R.ULX_HOLD] s t ∧ t.fld R.ULX_HOLD 0 8 = 0 ∧
    t.fld R.ULX_HOLD 8 8 = (s.fld R.ULX_HOLD 8 8 ||| s.fld R.ULX_HOLD 0 8))

/-- Everything is at its reset value but what the reset names (R648). -/
abbrev Cleared (s t : State) : Prop :=
  t = { State.reset with
    pending := s.pending, fresh := s.fresh, out := s.out, fuses := s.fuses, time := t.time, regs := t.regs, slag := t.slag, boot := t.boot } ∧
  RegsBut [R.HRT_AVS] State.reset t ∧ t.boot.step = 0 ∧ t.boot.sealedOnce = false ∧ t.boot.recs = [] ∧ t.boot.failed = false

/-- What start-up ends with (R654, R656): a stop with its reason, or the seal. -/
abbrev StartsUp (t : State) (e : BootEnv) (floor : Nat) : Prop :=
  (t.boot.failed = true → 1 ≤ t.boot.reason ∧ t.boot.reason ≤ 0x0B ∧ t.boot.sealedOnce = false ∧ t.slag.cause.testBit 25 = true) ∧
  (t.boot.failed = false → e.refclk = true → t.boot.step = 0xF ∧ t.boot.sealedOnce = true ∧ t.cfg.sealed = true) ∧
  (e.fixedOk = false → t.boot.failed = true ∧ t.boot.reason = 0x0A ∧ t.boot.step = 2) ∧
  (e.fixedOk = true → e.fusesOk = false → t.boot.failed = true ∧ t.boot.reason = 8 ∧ t.boot.step = 3) ∧
  (e.fixedOk = true → e.fusesOk = true → e.flashOk = false → t.boot.failed = true ∧ t.boot.reason = 1 ∧ t.boot.step = 4) ∧
  (e.fixedOk = true → e.fusesOk = true → e.flashOk = true → e.slotB.headerOk = false →
    (e.slotA.headerOk = false → t.boot.failed = true ∧ t.boot.reason = 2 ∧ t.boot.step = 4) ∧
    (e.slotA.headerOk = true → e.slotA.version < floor → t.boot.failed = true ∧ t.boot.reason = 5 ∧ t.boot.step = 4) ∧
    (e.slotA.headerOk = true → floor ≤ e.slotA.version → e.slotA.keyHashOk = false → t.boot.failed = true ∧ t.boot.reason = 3) ∧
    (e.slotA.headerOk = true → floor ≤ e.slotA.version → e.slotA.keyHashOk = true → e.slotA.sigOk = false →
      t.boot.failed = true ∧ t.boot.reason = 4))

/-- Start-up has not begun, and Hearth does not restart. -/
abbrev State.cold (s : State) : Prop :=
  s.boot.step = 0 ∧ s.boot.failed = false ∧ s.boot.sealedOnce = false ∧ s.boot.hearthDown = false

/-- A warm reset holds the main domain (R650 step 2, R648): what is kept, and its exceptions. -/
abbrev MainHeld (s t : State) (cause : Nat) : Prop :=
  t.boot.warmStep = 2 ∧ t.boot.warmCause = cause ∧ t.boot.rstPend = 0 ∧ t.cfg.sealed = false ∧ t.cfg.opened = false ∧
  t.flag R.DRC_STAT 0 = false ∧ t.flag R.DRC_CTRL 0 = false ∧ t.locks = List.replicate 64 Lock.free ∧
  (∀ k < 32, (t.chan k).msgs = [] ∧ (t.chan k).bell = 0) ∧
  (∀ i < 26, s.slag.sticky.testBit i = true → t.slag.sticky.testBit i = true) ∧ t.disp.anvil = s.disp.anvil ∧
  (∀ n < 16, (t.slice n).inHand = .none ∧ (t.slice n).binding = (s.slice n).binding ∧ (t.slice n).surfaces = (s.slice n).surfaces ∧
    (t.slice n).nextSeq = (s.slice n).nextSeq)

/-- Environments in which a warm reset finds every unit in order (R650). -/
abbrev BootEnv.sound (e : BootEnv) : Prop := e.fixedOk = true ∧ e.temperFail = 0 ∧ e.bodiesBad = []

/-- A warm reset has ended (R633, R650 steps 7 and 8). -/
abbrev WarmDone (s t : State) (cause : Nat) : Prop :=
  t.boot.warmStep = 0 ∧ t.boot.lastReset = cause ∧ t.cfg.sealed = true ∧ t.slag.warm = min 255 (s.slag.warm + 1) ∧
  t.slag.sticky.testBit 24 = true ∧ t.flag R.DRC_STAT 0 = true ∧ t.boot.rstPend = 0

end Sys2Proof.Machine
end

