-- ==== Sys2Proof/Certificates/Slice0/Obligations.lean ====
section
/-! DEFINITION. The statements for the provers. -/
open Sys2Proof Sys2Proof.Machine

/-! ## Crucible -/

/-- The table of CLASS 0x2: integer arithmetic, logic, shifts, select, bit fields, count, leading zeros and reversal; a field wider than
32 ends the job. -/
def Obligations.CrucibleIntegers : Prop :=
  (∀ r ∈ intRows, r.Holds) ∧ (∀ r ∈ bitRows, r.Holds) ∧
  ∀ (s : State) (c : Fin 48) (b : Bundle) (i : Ins) (l : Nat), s.Issues c b i → i.cls = 2 → (i.opc = 0x14 ∨ i.opc = 0x15) →
    (lanesOf (i.lanes b)).find? (fun l => fieldBad (i.opB b l)) = some l →
    Ends (if i.opc = 0x14 then .cruBfe c else .cruBfi c) s (fun t => JobFaulted s.issued t b 0x10 0 l)

/-- R412, R413: the FP32 instructions with a result in D. -/
def Obligations.CrucibleFp32 : Prop := ∀ r ∈ fpRows, r.Holds

/-- R414: the packed FP16 and conversion instructions with a result in D. -/
def Obligations.CruciblePackedAndConversion : Prop := ∀ r ∈ halfRows, r.Holds

/-- R408, R411, R414: compares, predicates, masks, lane exchange, and the instructions that act as NOP. -/
def Obligations.CrucibleMasks : Prop := ∀ r ∈ maskRows, r.Holds

/-- R415: BRA, CALL and JMP move the whole bundle. -/
def Obligations.CrucibleBranches : Prop :=
  (∀ (s : State) (c : Fin 48) (b : Bundle) (i : Ins), s.Issues c b i → i.cls = 6 → i.opc = 0 →
    Ends (.cruBra c) s (fun t => Became s t b
      (b.at_pc (if braTaken i b then b.pc + 8 + BitVec.ofNat 32 i.imm else b.pc + 8) b.v (s.cru.issues + 1)))) ∧
  (∀ (s : State) (c : Fin 48) (b : Bundle) (i : Ins), s.Issues c b i → i.cls = 6 → i.opc = 1 →
    Ends (.cruCall c) s (fun t => ∃ v, Wrote b { b with v := v } i.d b.live (fun _ => (b.pc + 8).toNat) ∧
      Became s t b (b.at_pc (b.pc + 8 + BitVec.ofNat 32 i.imm) v (s.cru.issues + 1)))) ∧
  (∀ (s : State) (c : Fin 48) (b : Bundle) (i : Ins), s.Issues c b i → i.cls = 6 → i.opc = 2 →
    Ends (.cruJmp c) s (fun t => Became s t b (b.at_pc (b.v.get i.a (lowLane b.live)) b.v (s.cru.issues + 1))))

/-- R416, R395: SREAD writes the selector's value in the active lanes, and any other selector faults; TRAP faults when a lane is
active, and else goes on. -/
def Obligations.CrucibleSreadAndTrap : Prop :=
  (∀ (s : State) (c : Fin 48) (b : Bundle) (i : Ins) (j : CruJob), s.Issues c b i → i.cls = 0 → i.opc = 5 →
    s.job b.slice b.seq = some j →
    Ends (.cruSread c) s (fun t => ∃ v, Wrote b { b with v := v } i.d (i.lanes b) (fun l => sreadValue s b j i.imm l) ∧
      Became s t b (b.at_pc (b.pc + 8) v (s.cru.issues + 1)))) ∧
  (∀ (s : State) (c : Fin 48) (b : Bundle) (i : Ins), s.Issues c b i → i.cls = 0 → i.opc = 4 →
    Ends (.cruTrap c) s (fun t =>
      if i.lanes b = 0 then Became s t b (b.at_pc (b.pc + 8) b.v (s.cru.issues + 1))
      else JobFaulted s.issued t b 0x18 0 (lowLane (i.lanes b)))) ∧
  (∀ (s : State) (c : Fin 48) (b : Bundle) (i : Ins), s.pick c.val = some b → (s.fetchIns b).map Ins.dec = some i → i.cls = 0 →
    i.opc = 5 → i.form = true → 0x17 < i.imm → Ends (.cruSread c) s (fun t => JobFaulted s t b 0x10 0 (lowLane b.live)))

/-- R404, R424: EXIT and DISCARD take the active lanes out of LIVE and EXEC and free their strands' locks; EXIT of a shading lane
delivers its outputs, DISCARD delivers nothing. The last lanes of the last bundle of a compute job end it with S_DONE. -/
def Obligations.CrucibleExitAndDiscard : Prop :=
  (∀ (s : State) (c : Fin 48) (b : Bundle) (i : Ins) (opc : Nat), s.Issues c b i → i.cls = 0 → i.opc = opc →
    (opc = 2 ∨ opc = 3 ∧ s.mayDiscard b = true) → b.live &&& ~~~(i.lanes b) ≠ 0 →
    Ends (if opc = 2 then .cruExit c else .cruDiscard c) s (fun t =>
      let m := i.lanes b
      let s1 := s.issued.forceStrands (fun x => b.owns x && m.getLsbD x.lane)
      let outs := if opc = 2 ∧ b.kind ≠ 0 then (lanesOf m).map (fun l => (l, (List.range (s.exitReads b)).map (fun r => b.v.get r l)))
        else []
      t = { (if m = 0 then s.issued else s1) with cru := { s.issued.cru with
        bundles := s.bundlesWith b { (b.lose m).at_pc (b.pc + 8) b.v (s.cru.issues + 1) with outs := b.outs ++ outs }
        wgs := s.cru.wgs.map (fun g => if m ≠ 0 ∧ b.kind = 0 ∧ g.isOf b then { g with exited := true } else g) } })) ∧
  (∀ (s : State) (c : Fin 48) (b : Bundle) (i : Ins) (j : CruJob), s.Issues c b i → i.cls = 0 → i.opc = 2 →
    i.lanes b ≠ 0 → b.live &&& ~~~(i.lanes b) = 0 → b.kind = 0 → s.job b.slice b.seq = some j →
    (∀ x ∈ s.cru.bundles, x.sameGroup b → x.at_ b.slice b.core b.slot = true ∨ x.st = .exited) →
    Ends (.cruExit c) s (fun t => (∀ x ∈ t.cru.bundles, ¬ x.sameGroup b) ∧ t.group b = none ∧
      (j.next = j.groups → (∀ g ∈ s.cru.wgs, g.slice = b.slice → g.seq = b.seq → g.isOf b) →
        t.job b.slice b.seq = none ∧
        ∀ e k, (s.slice b.slice).entry b.seq = some e → e.isOpen = true → e.slot = some k → k < 64 → s.pair.role = .solo →
          s.pair.completions = [] → b.slice < s.slices.length → k < (s.slice b.slice).slots.length →
          t.slotHas b.slice k .done S_DONE ((j.quanta + 1) % 2 ^ 32)))) ∧
  (∀ (s : State) (c : Fin 48) (b : Bundle) (i : Ins) (opc : Nat), s.Issues c b i → i.cls = 0 → i.opc = opc →
    (opc = 2 ∨ opc = 3 ∧ s.mayDiscard b = true) → b.kind ≠ 0 → i.lanes b ≠ 0 → b.live &&& ~~~(i.lanes b) = 0 →
    Ends (if opc = 2 then .cruExit c else .cruDiscard c) s (fun t =>
      let outs := if opc = 2 then (lanesOf (i.lanes b)).map (fun l => (l, (List.range (s.exitReads b)).map (fun r => b.v.get r l))) else []
      t = (s.issued.forceStrands (fun x => b.owns x && (i.lanes b).getLsbD x.lane)).shadingDone
        { (b.lose (i.lanes b)).at_pc b.pc b.v (s.cru.issues + 1) with outs := b.outs ++ outs })) ∧
  (∀ (s : State) (c : Fin 48) (b : Bundle) (i : Ins), s.Issues c b i → i.cls = 0 → i.opc = 3 → s.mayDiscard b = false →
    Ends (.cruDiscard c) s (fun t => JobFaulted s.issued t b 0x10 0 (lowLane b.live)))

/-- R417-R421: loads, stores and atomics on the workgroup's scratch. -/
def Obligations.CrucibleScratch : Prop :=
  (∀ (s : State) (c : Fin 48) (b : Bundle) (i : Ins) (g : WGroup), s.Issues c b i → i.cls = 7 → i.opc = 0 → s.group b = some g →
    i.inRange b (g.scrKib * 1024) →
    Ends (.cruLdScratch c) s (fun t => Became s t b (b.expects (s.cru.issues + 1) false i.d (sizeRegs i.size)
      (loadVals i b (g.scratch.read (some g.seed)))))) ∧
  (∀ (s : State) (c : Fin 48) (b : Bundle) (i : Ins) (g : WGroup), s.Issues c b i → i.cls = 7 → i.opc = 1 → s.group b = some g →
    i.inRange b (g.scrKib * 1024) →
    Ends (.cruStScratch c) s (fun t => GroupBecame s t b (b.at_pc (b.pc + 8) b.v (s.cru.issues + 1))
      { g with scratch := storeRun i b (some g.seed) g.scratch })) ∧
  AtomScratch .cruScratchAtomAdd 0x2 (atomNew 0x2) ∧ AtomScratch .cruScratchAtomSmin 0x3 (atomNew 0x3) ∧
  AtomScratch .cruScratchAtomSmax 0x4 (atomNew 0x4) ∧ AtomScratch .cruScratchAtomUmin 0x5 (atomNew 0x5) ∧
  AtomScratch .cruScratchAtomUmax 0x6 (atomNew 0x6) ∧ AtomScratch .cruScratchAtomAnd 0x7 (atomNew 0x7) ∧
  AtomScratch .cruScratchAtomOr 0x8 (atomNew 0x8) ∧ AtomScratch .cruScratchAtomXor 0x9 (atomNew 0x9) ∧
  AtomScratch .cruScratchAtomExch 0xA (atomNew 0xA) ∧ AtomScratch .cruScratchAtomCas 0xB (atomNew 0xB) ∧
  AtomScratch .cruScratchAtomFadd 0xC (atomNew 0xC)

/-- R417-R421: loads, stores and atomics on a surface of the job. -/
def Obligations.CrucibleGlobal : Prop :=
  (∀ (s : State) (c : Fin 48) (b : Bundle) (i : Ins) (j : CruJob) (u : Surface), s.Issues c b i → i.cls = 8 → i.opc = 0 →
    s.job b.slice b.seq = some j → s.jobSurf j i.surf = some u → i.inRange b u.bytes → s.fresh1 →
    Ends (.cruLdGlobal c) s (fun t => Became s t b (b.expects (s.cru.issues + 1) false i.d (sizeRegs i.size)
      (loadVals i b u.read)))) ∧
  (∀ (s : State) (c : Fin 48) (b : Bundle) (i : Ins) (j : CruJob) (u : Surface), s.Issues c b i → i.cls = 8 → i.opc = 1 →
    b.kind = 0 → s.job b.slice b.seq = some j → s.jobSurf j i.surf = some u → j.writable i.surf = true →
    i.inRange b u.bytes → s.fresh1 →
    Ends (.cruStGlobal c) s (fun t => SurfBecame s t b (b.at_pc (b.pc + 8) b.v (s.cru.issues + 1)) u
      { u with mem := storeRun i b u.seed u.mem })) ∧
  AtomGlobal .cruGlobalAtomAdd 0x2 (atomNew 0x2) ∧ AtomGlobal .cruGlobalAtomSmin 0x3 (atomNew 0x3) ∧
  AtomGlobal .cruGlobalAtomSmax 0x4 (atomNew 0x4) ∧ AtomGlobal .cruGlobalAtomUmin 0x5 (atomNew 0x5) ∧
  AtomGlobal .cruGlobalAtomUmax 0x6 (atomNew 0x6) ∧ AtomGlobal .cruGlobalAtomAnd 0x7 (atomNew 0x7) ∧
  AtomGlobal .cruGlobalAtomOr 0x8 (atomNew 0x8) ∧ AtomGlobal .cruGlobalAtomXor 0x9 (atomNew 0x9) ∧
  AtomGlobal .cruGlobalAtomExch 0xA (atomNew 0xA) ∧ AtomGlobal .cruGlobalAtomCas 0xB (atomNew 0xB) ∧
  AtomGlobal .cruGlobalAtomFadd 0xC (atomNew 0xC)

/-- R387-R389, R422: SAMPLE and FETCH leave four words outstanding in each active lane. R391, R410: MEMORY_RETURN writes the
oldest outstanding words. -/
def Obligations.CrucibleSamplingAndReturns : Prop :=
  (∀ (s : State) (c : Fin 48) (b : Bundle) (i : Ins) (u : Nat → Surface), s.Issues c b i → i.cls = 9 → i.opc < 2 → s.fresh1 →
    (∀ l ∈ lanesOf (i.lanes b), s.texSurf b (i.sampler b l) = some (u l) ∧
      samplerBad (decide (i.opc = 1)) (some (u l)) (i.sampler b l) = false) →
    Ends (if i.opc = 0 then .cruSample c else .cruFetch c) s (fun t =>
      Became s t b (b.expects (s.cru.issues + 1) true i.d 4 (quads i b (fun l =>
        if i.opc = 0 then sampled4 (u l) (i.sampler b l) (b.r i.a l) (b.r (i.a + 1) l)
        else fetched (u l) (i.sampler b l) (b.v.get i.a l).toInt (b.v.get (i.a + 1) l).toInt))))) ∧
  (∀ (s : State) (n : Fin 16) (c : Fin 48) (k : Fin 64) (b : Bundle) (p : Pend) (ps : List Pend),
    s.bundle n.val c.val k.val = some b → b.pend = p :: ps → (∀ e ∈ p.vals, e.2.1 < 16) →
    Ends (.memoryReturn n c k false) s (fun t => ∃ v : VRegs,
      (∀ r < 128, ∀ l < 16, v.get r l = ((p.vals.reverse.find? (fun e => e.1 == r && e.2.1 == l)).map (·.2.2)).getD (b.v.get r l)) ∧
      t = { s with cru := { s.cru with bundles := s.bundlesWith b { b with pend := ps, v := v } } })) ∧
  (∀ (s : State) (n : Fin 16) (c : Fin 48) (k : Fin 64) (b : Bundle) (p : Pend) (ps : List Pend),
    s.bundle n.val c.val k.val = some b → b.pend = p :: ps →
    Ends (.memoryReturn n c k true) s (fun t => t = (s.slagErr 2 n.val 0x01).endJobOpen b.slice b.seq E_DATA ∧
      t.job b.slice b.seq = none))

/-- R423, R424: ACQ, TRY and REL act for the lowest active lane on the lock that IMM or V[A] names. -/
def Obligations.CrucibleLocks : Prop :=
  (∀ (s : State) (c : Fin 48) (b : Bundle) (i : Ins) (l k : Nat), s.Issues c b i → i.cls = 10 → i.opc < 3 →
    (lanesOf (i.lanes b)).head? = some l → k = (if i.form then i.imm else b.r i.a l) → k < s.locks.length → s.locks.length = 64 →
    b.p.length = 4 →
    let x := s.lock k
    let me : Holder := .strand (b.strand l)
    let on := b.at_pc (b.pc + 8) b.v (s.cru.issues + 1)
    let tries := fun (free : Bool) (m : Bundle) => SetsPred b m i.d (i.lanes b) (fun _ => free) ∧ m = { on with p := m.p }
    (i.opc = 0 → x.holder = .none → Ends (.cruAcq c) s (fun t => LockBecame s t b on k { x with holder := me })) ∧
    (i.opc = 0 → x.holder ≠ .none → Ends (.cruAcq c) s (fun t => LockBecame s t b { on with st := .lock k l } k
      { x with strands := x.strands ++ [b.strand l], waiting := if 3 ∈ x.waiting then x.waiting else x.waiting ++ [3] })) ∧
    (i.opc = 1 → x.holder = .none → Ends (.cruTry c) s (fun t => ∃ m, tries true m ∧ LockBecame s t b m k { x with holder := me })) ∧
    (i.opc = 1 → x.holder ≠ .none → Ends (.cruTry c) s (fun t => ∃ m, tries false m ∧ LockBecame s t b m k x)) ∧
    (i.opc = 2 → x.holder = me → Ends (.cruRel c) s (fun t => LockBecame s t b on k x.release)) ∧
    (i.opc = 2 → x.holder ≠ me → Ends (.cruRel c) s (fun t => JobFaulted s.issued t b 0x17 0 l))) ∧
  (∀ (s : State) (c : Fin 48) (b : Bundle) (i : Ins), s.Issues c b i → i.cls = 10 → i.opc < 3 → i.lanes b = 0 →
    Ends (if i.opc = 0 then .cruAcq c else if i.opc = 1 then .cruTry c else .cruRel c) s (fun t =>
      Became s t b (b.at_pc (b.pc + 8) b.v (s.cru.issues + 1))))

/-- R425: BAR holds the bundle until every bundle of its workgroup has come to the barrier; then all go on. It faults where EXEC is
not LIVE, where a strand has exited, and in a raster shader. -/
def Obligations.CrucibleBarrier : Prop :=
  (∀ (s : State) (c : Fin 48) (b : Bundle) (i : Ins), s.Issues c b i → i.cls = 11 → i.opc = 0 → b.kind ≠ 0 →
    Ends (.cruBar c) s (fun t => JobFaulted s.issued t b 0x10 0 (lowLane b.live))) ∧
  ∀ (s : State) (c : Fin 48) (b : Bundle) (i : Ins) (j : CruJob) (g : WGroup), s.Issues c b i → i.cls = 11 → i.opc = 0 →
    s.job b.slice b.seq = some j → s.group b = some g →
    let on := b.at_pc (b.pc + 8) b.v (s.cru.issues + 1)
    ((b.exec ≠ b.live ∨ g.exited = true) → Ends (.cruBar c) s (fun t => JobFaulted s.issued t b 0x16 0 (lowLane b.live))) ∧
    (b.exec = b.live → g.exited = false → g.barCount + 1 ≠ j.groupBundles → Ends (.cruBar c) s (fun t =>
      GroupBecame s t b { on with st := .barrier } { g with barCount := g.barCount + 1 })) ∧
    (b.exec = b.live → g.exited = false → g.barCount + 1 = j.groupBundles → Ends (.cruBar c) s (fun t =>
      t.group b = some { g with barCount := 0, barGen := (g.barGen + 1) % 256 } ∧
      t.cru.wgs.filter (fun g => !decide (g.isOf b)) = s.cru.wgs.filter (fun g => !decide (g.isOf b)) ∧
      t = { s.issued with cru := { s.issued.cru with
        wgs := t.cru.wgs
        bundles := s.cru.bundles.map (fun o => if o.at_ b.slice b.core b.slot then on else
          if o.sameGroup b ∧ o.st = .barrier then { o with st := .ready } else o) } }))

/-- R409, R410, R419: a PC outside the code, an undefined opcode and a bad encoding end the job; so do the accesses of the table of
R419, at the first check that fails. -/
def Obligations.CrucibleFaults : Prop :=
  (∀ (s : State) (c : Fin 48) (b : Bundle), s.pick c.val = some b → s.fetchIns b = none →
    Ends (.cruIadd c) s (fun t => JobFaulted s t b 0x11 0 (lowLane b.live))) ∧
  (∀ (s : State) (c : Fin 48) (b : Bundle) (i : Ins), s.pick c.val = some b → (s.fetchIns b).map Ins.dec = some i → i.defined = false →
    Ends (.cruIadd c) s (fun t => JobFaulted s t b 0x10 0 (lowLane b.live))) ∧
  (∀ (s : State) (c : Fin 48) (b : Bundle) (i : Ins), s.pick c.val = some b → (s.fetchIns b).map Ins.dec = some i → i.cls = 2 →
    i.opc = 1 → (shapeOf i).valid i b.regs = false → Ends (.cruIadd c) s (fun t => JobFaulted s t b 0x10 0 (lowLane b.live))) ∧
  (∀ (s : State) (c : Fin 48) (b : Bundle) (i : Ins) (l0 : Nat), s.Issues c b i → i.cls = 8 → i.opc < 2 →
    (lanesOf (i.lanes b)).head? = some l0 →
    let cmd := if i.opc = 0 then Instr.cruLdGlobal c else .cruStGlobal c
    let n : Nat := sizeBytes i.size
    (i.opc = 1 → b.kind ≠ 0 → Ends cmd s (fun t => JobFaulted s.issued t b 0x15 0 l0)) ∧
    ((i.opc = 0 ∨ b.kind = 0) → s.accSurf b i = none → Ends cmd s (fun t => JobFaulted s.issued t b 0x12 0 l0)) ∧
    (∀ j u, (i.opc = 0 ∨ b.kind = 0 ∧ j.writable i.surf = true) → s.job b.slice b.seq = some j → s.jobSurf j i.surf = some u →
      (∀ l, (lanesOf (i.lanes b)).find? (fun l => i.offset b l % n != 0) = some l →
        Ends cmd s (fun t => JobFaulted s.issued t b 0x13 0 l)) ∧
      (∀ l, (∀ k ∈ lanesOf (i.lanes b), i.offset b k % n = 0) →
        (lanesOf (i.lanes b)).find? (fun l => i.offset b l < 0 || (u.bytes : Int) < i.offset b l + n) = some l →
        Ends cmd s (fun t => JobFaulted s.issued t b 0x12 0 l))))

/-- R406, R409: every instruction whose fields fit their places is read back from its word, and a word without a reserved bit is
the word of what it is read as. -/
def Obligations.CrucibleWordsReadBack : Prop :=
  (∀ i : Ins, i.wf = true → Ins.dec i.enc = i ∧ i.enc < 2 ^ 64) ∧
  ∀ w : Nat, w < 2 ^ 64 → (Ins.dec w).rsv = false → (Ins.dec w).wf = true ∧ (Ins.dec w).enc = w

/-- R406, R407: words written out from the fields of the spec's own examples. -/
def Obligations.CrucibleWordsOfTheSpec : Prop :=
  Ins.dec 0x0000070602885833 = ⟨3, 0x03, false, true, 1, true, 8, 5, 6, 7, 0, 0, false⟩ ∧
  Ins.dec 0x0000000502080122 = ⟨2, 0x12, false, false, 0, false, 8, 4, 5, 0, 0, 0, false⟩ ∧
  Ins.dec 0x00000008000C0406 = ⟨6, 0x00, true, false, 0, false, 12, 0, 0, 0, 0, 8, false⟩ ∧
  Ins.dec 0x00000008001C0406 = ⟨6, 0x00, true, false, 0, false, 28, 0, 0, 0, 0, 8, false⟩

/-! ## Billets: what each row does once accepted -/

/-- R88-R94: NOP, SLICE_INFO, SLICE_CONFIG, SLICE_RESET. -/
def Obligations.BilletsSession : Prop :=
  Effect .nop 0x0000 [] (fun u n q _ t => t = u.ended n q) ∧
  Effect .sliceInfo 0x0001 [] (fun u n q _ t => SlicesOnly u t ∧ SlotDone u t n q
    (n + 2 ^ 4 * u.boot.log2n + 2 ^ 8 * u.fuses.tier + 2 ^ 12 * b2n u.fuses.pair + 2 ^ 16 * 0xB0 +
     2 ^ 24 * (if n = 0 then 7 else (u.slice n).perm) + 2 ^ 32 * (u.quotaMiB n % 2 ^ 16) + 2 ^ 48 * (u.useMiB n % 2 ^ 16))) ∧
  Effect .sliceConfig 0x0004 [] (fun u n q m t =>
    let T := u8 m.payload 0
    t.entrySt n q = some .done ∧ (t.slice T).binding = bindingOf m.payload ∧ (t.slice T).perm = u32 m.payload 0x18 ∧
    (t.slice T).quota = u32 m.payload 0x1C ∧
    ((u.slice T).binding ≠ bindingOf m.payload → (t.slice T).journal = [] ∧ (t.slice T).surfaces = [] ∧ (t.slice T).sets = [] ∧
      (t.slice T).nextSeq = 0 ∧ (t.slice T).slots = List.replicate 64 Slot.empty ∧ (t.slice T).ringEn = false) ∧
    ((u.slice T).binding = bindingOf m.payload →
      t = (u.modSlice T (fun x => { x with perm := u32 m.payload 0x18, quota := u32 m.payload 0x1C })).ended n q) ∧
    ∀ k < 16, k ≠ T → k ≠ n → t.slice k = u.slice k) ∧
  Effect .sliceReset 0x0005 [] (fun u n q m t =>
    let T := u8 m.payload 0
    let v := (u.markEntry n q .openIssued).modSlice T (fun x =>
      ({ x with ringEn := false, dbErr := false, relPend := false } : Slice).dropStaged)
    t = (((v.reissue T (fun _ => true)).complete n q S_DONE 0).commitAfter u []) ∧
    ((∀ e ∈ (u.slice T).journal, e.st ≠ .openIssued) →
      SlotDone u t n q 0 ∧ (t.slice T).ringEn = false ∧ (t.slice T).dbErr = false ∧ (t.slice T).relPend = false))

/-- R180-R185: DIRTY_LOG starts, flushes and stops the log of a slice. -/
def Obligations.BilletsDirtyLog : Prop :=
  Effect .dirtyLogStart 0x0006 [(1, 1)] (fun u n q m t => SlicesOnly u t ∧ t.entrySt n q = some .done ∧
    (t.slice (u8 m.payload 0)).dirty = some ⟨u32 m.payload 4, u64 m.payload 8, u64 m.payload 0x10, [], 0, false⟩) ∧
  Effect .dirtyLogFlush 0x0006 [(1, 2)] (fun u n q m t => SlicesOnly u t ∧
    ∀ d ∈ (u.slice (u8 m.payload 0)).dirty, SlotDone u t n q d.value ∧
      (t.slice (u8 m.payload 0)).dirty = some { d with dirty := [], outside := 0, all := false }) ∧
  Effect .dirtyLogStop 0x0006 [(1, 3)] (fun u n q m t => SlicesOnly u t ∧ (t.slice (u8 m.payload 0)).dirty = none ∧
    ∀ d ∈ (u.slice (u8 m.payload 0)).dirty, SlotDone u t n q d.value)

/-- R81, R90, R91, R96, R149: the immediate billets. -/
def Obligations.BilletsImmediate : Prop :=
  Immediate .slotRead 0x0002 (fun u n p t r =>
    let k := u8 p 0
    r = BitVec.ofNat 32 (((u.slice n).slot k).reg (u8 p 1)) ∧
    (t.slice n).slot k = if u8 p 1 = 2 ∧ ((u.slice n).slot k).st = .done
      then { (u.slice n).slot k with readCount := min 255 (((u.slice n).slot k).readCount + 1) } else (u.slice n).slot k) ∧
  Immediate .slotRelease 0x0003 (fun u n p t r =>
    r = BitVec.ofNat 32 ((List.range 64).filter (fun k => (u64 p 0).testBit k && ((u.slice n).slot k).st == .done)).length ∧
    ∀ k < 64, (t.slice n).slot k =
      if (u64 p 0).testBit k ∧ ((u.slice n).slot k).st = .done then Slot.empty else (u.slice n).slot k) ∧
  Immediate .regRead 0x0007 (fun u _ p t r => r = BitVec.ofNat 32 (u.sysRead 16 (u32 p 0)).2 ∧
    t.regs = (((u.sysRead 16 (u32 p 0)).1.commitAfter u []).runBlockResets).regs) ∧
  Immediate .regWrite 0x0008 (fun u _ p t r =>
    let w := u.sysWrite ⟨.master 16, BitVec.ofNat 4 (u32 p 8), BitVec.ofNat 32 (u32 p 4)⟩ (u32 p 0)
    r = BitVec.ofNat 32 (if readActs (u32 p 0) then 0 else w.view 16 (u32 p 0)) ∧
    t.regs = ((w.commitAfter u [u32 p 0]).runBlockResets).regs) ∧
  Immediate .slagClear 0x0B01 (fun u _ p t r => r = BitVec.ofNat 32 (u.slagClear (u32 p 0)).2 ∧
    t.slag = (((u.slagClear (u32 p 0)).1.commitAfter u []).runBlockResets).slag)

/-- R97-R104: surfaces. The transfers stay OPEN.ISSUED until hardware reports them. -/
def Obligations.BilletsSurfaces : Prop :=
  Effect .surfCreate 0x0100 [] (fun u n q m t =>
    let p := m.payload
    SlicesOnly u t ∧ t.entrySt n q = some .done ∧ (t.slice n).surfaces = (u.slice n).surfaces ++
      [⟨u16 p 0, u8 p 2, u16 p 4, u16 p 6, u32 p 8, if u8 p 3 % 2 = 1 then none else some u.fresh, []⟩]) ∧
  Effect .surfFree 0x0101 [] (fun u n q m t => SlicesOnly u t ∧ t.entrySt n q = some .done ∧
    (t.slice n).surfaces = (u.slice n).surfaces.filter (fun v => v.handle != u16 m.payload 0)) ∧
  Effect .surfWrite 0x0103 [] (fun u n q m t =>
    let p := m.payload
    t.entrySt n q = some .done ∧
    ∀ v ∈ u.surf n (u16 p 0),
      t = (({ u with cru := t.cru }).modSlice n (fun x =>
        x.putSurf { v with mem := v.mem.write v.seed (u32 p 4) ((p.drop 12).take (u32 p 8)) })).ended n q ∧
      ((∀ j ∈ u.cru.jobs, j.slice ≠ n) → t.cru = u.cru)) ∧
  Effect .surfUpload 0x0102 [] (fun u n q _ t => t = u.markEntry n q .openIssued) ∧
  Effect .surfReadback 0x0104 [] (fun u n q _ t => t = u.markEntry n q .openIssued) ∧
  Effect .surfFill 0x0105 [] (fun u n q _ t => t = u.markEntry n q .openIssued) ∧
  Effect .surfCopy 0x0106 [] (fun u n q _ t => t = u.markEntry n q .openIssued)

/-- R105-R111, R116, R117: layers, staging, COMMIT, and the loads of the compositor. -/
def Obligations.BilletsCompositor : Prop :=
  Effect .layerAssign 0x0200 [] (fun u n q m t =>
    let p := m.payload
    let l : Layer := if u8 p 1 = 0xFF then Layer.reset
      else ⟨some (u8 p 1), u8 p 2, u8 p 3, if u8 p 4 = 0xFF then none else some (u8 p 4), LayerCfg.zero⟩
    t = ({ u with disp := { u.disp with layers := u.disp.layers.set (u8 p 0) l } }).ended n q) ∧
  Effect .layerSet 0x0201 [] (fun u n q m t =>
    let k := u8 m.payload 0
    t = ({ u with slices := t.slices } : State) ∧ t.entrySt n q = some .done ∧
    (t.slice n).stagedAs (.layer k (layerCfgOf m.payload)) = true ∧
    (t.slice n).staged.filter (fun i => i.key != (0, k, 0)) = (u.slice n).staged.filter (fun i => i.key != (0, k, 0))) ∧
  Effect .commit 0x0202 [] (fun u n q m t =>
    let g := m.group.toNat
    let mask := u8 m.payload 0
    let ms := u.commitMembers n g mask
    t = ((({ u with disp := { u.disp with commits := u.disp.commits ++ [⟨n, q, (u.slice n).named g mask, ms, [], 0, 0, false,
      (ms.filter u.vblank).map (fun o => (o, u.frameNo o)), []⟩] } } : State)).markEntry n q .openIssued).modSlice n (fun x => x.without g mask) ∧
    (t.slice n).named g mask = []) ∧
  Effect .stageDiscard 0x0203 [] (fun u n q m t =>
    let g := m.group.toNat
    let mask := u8 m.payload 0
    t.entrySt n q = some .done ∧ (t.slice n).named g mask = [] ∧ t = { u with slices := t.slices, disp := t.disp } ∧
    ((u.slice n).named g mask = [] → t.disp = u.disp)) ∧
  Effect .writeback 0x0204 [] (fun u n q m t =>
    let p := m.payload
    t = ({ u with slices := t.slices } : State) ∧ t.entrySt n q = some .done ∧
    (t.slice n).stagedAs (.writeback (u8 p 0) (u8 p 1 % 2 == 1) (u16 p 2)) = true) ∧
  Effect .colourLoad 0x0304 [] (fun u n q m t =>
    let p := m.payload
    let o := u8 p 0
    t.entrySt n q = some .done ∧ (t.slice n).stagedAs (.colour o (u8 p 1)) = true ∧
    (∀ i < u16 p 4, (if u8 p 1 = 0 then (t.ou o).colour.mIn.getD i 0 else Lut.entry (t.ou o).colour.lIn (u16 p 2 + i)) = u32 p (8 + 4 * i)) ∧
    t = { u with slices := t.slices, disp := { u.disp with outs := t.disp.outs } } ∧
    (t.ou o).colour.mAct = (u.ou o).colour.mAct ∧ (t.ou o).colour.lAct = (u.ou o).colour.lAct) ∧
  Effect .scalerLoad 0x0305 [] (fun u n q m t =>
    let p := m.payload
    let k := u8 p 0
    let a := u8 p 1
    let taps := fun i => (List.range (if a = 0 then 8 else 6)).map (fun j => i16 p (8 + 2 * (i * (if a = 0 then 8 else 6) + j)))
    let bank := fun (held : Bool) (z : ScalerSt) => if held then (if a = 0 then z.hIn else z.vIn) else if a = 0 then z.hAct else z.vAct
    t = { u with slices := t.slices, disp := { u.disp with scalers := t.disp.scalers } } ∧
    (∀ i < u8 p 3, CoefBank.taps (bank (u.scalerHolder k).isSome (t.scl k)) (a == 1) (u8 p 2 + i) = taps i) ∧
    if (u.scalerHolder k).isSome then t.entrySt n q = some .done ∧
      (t.slice n).stagedAs (.scaler ((u.scalerHolder k).elim 0 (fun l => (u.lay l).output)) k a) = true
    else t.entrySt n q = some .openIssued ∧ (t.scl k).busy = true)

/-- R112-R115, R118, R292, R293, R300-R305: outputs. -/
def Obligations.BilletsOutputs : Prop :=
  Effect .outConfig 0x0300 [] (fun u n q m t =>
    let p := m.payload
    let o := u8 p 0
    t.entrySt n q = some .done ∧ (t.ou o).linkCfg = true ∧
    t.reg (R.SCN_OUT_LNK_CFG o) = u8 p 1 + 2 ^ 3 * u8 p 2 + 2 ^ 8 * u8 p 3 + 2 ^ 16 * u16 p 4 + 2 ^ 28 * (u16 p 6 % 8) ∧
    t.reg (R.SCN_OUT_PSEQ0 o) = u16 p 8 + 2 ^ 16 * u16 p 0xA ∧ t.reg (R.SCN_OUT_PSEQ1 o) = u16 p 0xC + 2 ^ 16 * u16 p 0xE ∧
    RegsBut [R.SCN_OUT_LNK_CFG o, R.SCN_OUT_PSEQ0 o, R.SCN_OUT_PSEQ1 o] u t ∧
    t = { u with slices := t.slices, regs := t.regs, cfg := t.cfg, disp := { u.disp with outs := t.disp.outs } }) ∧
  Effect .setTimingLoad 0x0301 [(2, 0)] (fun u n q m t =>
    let p := m.payload
    let o := u8 p 0
    if missesDeadline m.deadline (u.regs.get (R.CMP_OUT_FRAME o)) then RegsBut [] u t ∧ t.disp = u.disp ∧ t.entrySt n q = some .done
    else SlotDone u t n q (u.regs.get (R.CMP_OUT_FRAME o)).toNat ∧ t.timingSet o (u8 p 1) = timingOf p ∧
      RegsBut (timingKeys o (u8 p 1)) u t ∧ (t.ou o).set = (if (u.ou o).enabled then (u.ou o).set else some (u8 p 1)) ∧
      (t.ou o).gen = (u.ou o).gen) ∧
  Effect .setTimingSwitch 0x0301 [(2, 1)] (fun u n q m t =>
    let p := m.payload
    let o := u8 p 0
    if missesDeadline m.deadline (u.switchFrame o) then RegsBut [] u t ∧ t.disp = u.disp ∧ t.entrySt n q = some .done
    else t.entrySt n q = some .openIssued ∧ t.timingSet o (u8 p 1) = timingOf p ∧ RegsBut (timingKeys o (u8 p 1)) u t ∧
      t.ou o = { u.ou o with next := some (u8 p 1), select := false, seq := some q }) ∧
  Effect .setTimingReprogram 0x0301 [(2, 2)] (fun u n q m t =>
    let p := m.payload
    let o := u8 p 0
    if missesDeadline m.deadline (u.frameNo o + 2) then RegsBut [] u t ∧ t.disp = u.disp ∧ t.entrySt n q = some .done
    else t.entrySt n q = some .openIssued ∧ RegsBut [] u t ∧
      t.ou o = { u.ou o with next := some (u8 p 1), gen := .reprogCut, seq := some q }) ∧
  Effect .outEnable 0x0302 [(1, 1)] (fun u n q m t =>
    let o := u8 m.payload 0
    if (u.ou o).enabled then
      SlotDone u t n q ((u.regs.get (R.CMP_OUT_FRAME o)).toNat + 2 ^ 32 * ((u.ou o).link.lanes + 2 ^ 8 * (u.ou o).link.rate)) ∧ SlicesOnly u t
    else t.entrySt n q = some .openIssued ∧ (t.ou o).enabled = true ∧ (t.ou o).seq = some q ∧ t.fld (R.CMP_OUT_PASS o) 16 16 = 0 ∧
      ((o ≠ 0 ∨ u.limpBoot = false) → (t.ou o).gen = .panelOn ∧ t.reg (R.SCN_OUT_GL_TRIM o) = 0 ∧ t.flag (R.SCN_OUT_STAT o) 6 = false)) ∧
  Effect .outDisable 0x0302 [(1, 0)] (fun u n q m t =>
    let o := u8 m.payload 0
    let x : OutSt := { u.ou o with enabled := false, seq := some q, gen := .stopBl, bl := false }
    if (u.ou o).enabled then t = ({ u with disp := { u.disp with outs := u.disp.outs.set o x } }).markEntry n q .openIssued
    else SlotDone u t n q 0 ∧ SlicesOnly u t) ∧
  Effect .anvAlloc 0x0303 [] (fun u n q m t =>
    let p := m.payload
    let o := u8 p 0
    let w := u16 p 2
    if w = 0 then t.entrySt n q = some .done ∧ (t.ou o).gmap = [] ∧ t.reg (R.SCN_OUT_ALLOC o) = 0 ∧ t.reg (R.SCN_OUT_GEOM o) = 0
    else 2 * granulesOf w (u16 p 4) ≤ u.freeFor o →
      t.entrySt n q = some .openIssued ∧ (t.ou o).zeroSeq = some q ∧ t.reg (R.SCN_OUT_ALLOC o) = w + 2 ^ 16 * u16 p 4 ∧
      t.reg (R.SCN_OUT_GEOM o) = (strideOf w + 2 ^ 16 * granulesOf w (u16 p 4)) % 2 ^ 32 ∧ (∀ g ∈ (t.ou o).gmap, t.disp.owner.getD g 0 = o)) ∧
  Effect .backlight 0x0306 [] (fun u n q m t =>
    let p := m.payload
    let o := u8 p 0
    t.entrySt n q = some .done ∧ t.fld (R.SCN_OUT_BL_DUTY o) 16 16 = u16 p 2 ∧ t.fld (R.SCN_OUT_BL_DUTY o) 0 16 = u.fld (R.SCN_OUT_BL_DUTY o) 0 16 ∧
    RegsBut [R.SCN_OUT_BL_DUTY o] u t ∧ t.ou o = { u.ou o with ramp := some ⟨u.fld (R.SCN_OUT_BL_DUTY o) 0 16, u16 p 2, u16 p 4⟩ })

/-- R119-R124, R256, R263, R271, R278-R280: Hardy regions and planes, HARDY_COMMIT, HARDY_ACK, and the limp-home display. -/
def Obligations.BilletsHardy : Prop :=
  Effect .hardyRegion 0x0400 [] (fun u n q m t =>
    let p := m.payload
    let o := u8 p 0
    t = { u with slices := t.slices, disp := { u.disp with hardy := t.disp.hardy } } ∧ t.entrySt n q = some .done ∧
    t.hd o = { u.hd o with pend := (t.hd o).pend } ∧ (∀ k < 8, k ≠ o → t.hd k = u.hd k) ∧
    ∀ r < 16, (t.hd o).pend.getD r HRegion.reset =
      if r = u8 p 1 then ⟨u8 p 2, u8 p 3, u16 p 4, u16 p 6, u16 p 8, u16 p 0xA⟩ else (u.hd o).pend.getD r HRegion.reset) ∧
  Effect .hardyWrite 0x0401 [] (fun u n q m t =>
    let p := m.payload
    let o := u8 p 0
    t = { u with slices := t.slices, disp := { u.disp with anvil := t.disp.anvil } } ∧ t.entrySt n q = some .done ∧
    (∀ a, (∀ i < u32 p 8, u.hardyAddr o (u.hd o).pendBuf (u32 p 4 + i) ≠ a) → t.disp.anvil.get none a = u.disp.anvil.get none a) ∧
    ∀ i < u32 p 8, (∀ j < u32 p 8, i < j → u.hardyAddr o (u.hd o).pendBuf (u32 p 4 + j) ≠ u.hardyAddr o (u.hd o).pendBuf (u32 p 4 + i)) →
      t.disp.anvil.get none (u.hardyAddr o (u.hd o).pendBuf (u32 p 4 + i)) = p.getD (12 + i) 0) ∧
  Effect .hardyCopy 0x0402 [] (fun u n q _ t => t = u.markEntry n q .openIssued) ∧
  Effect .hardyCommit 0x0403 [] (fun u n q m t =>
    let o := u8 m.payload 0
    t = ({ u with regs := t.regs, disp := { u.disp with hardy := t.disp.hardy } } : State).markEntry n q .openIssued ∧
    t.hd o = { u.hd o with commit := some (n, q, .forming) } ∧ (∀ k < 8, k ≠ o → t.hd k = u.hd k) ∧
    t.flag (R.HRD_OUT_STAT o) 18 = true ∧ RegsBut [R.HRD_OUT_STAT o] u t) ∧
  Effect .hardyAck 0x0404 [] (fun u n q m t =>
    let o := u8 m.payload 0
    t.entrySt n q = some .done ∧ ∀ r < 16,
      ((u16 m.payload 2).testBit r = false → t.hv o r = u.hv o r) ∧
      ((u16 m.payload 2).testBit r = true → (u.hd o).last ≠ none → (u.hv o r).recent.head?.map Prod.fst = (u.hd o).last →
        let bad := ((u.hv o r).recent.head?.map Prod.snd).getD false
        t.hv o r = { u.hv o r with
          latched := bad && decide (((u.hd o).regs.getD r HRegion.reset).threshold ≤ 1), count := b2n bad })) ∧
  Effect .limpLoad 0x0405 [] (fun u n q m t =>
    let p := m.payload
    let off := u32 p 4
    let l := t.disp.limp
    t.entrySt n q = some .done ∧ l.latched = false ∧ l.count = 0 ∧ t.flag R.HRD_STAT 10 = false ∧ t.flag R.HRD_STAT 13 = false ∧
    RegsBut [R.HRD_STAT] u t ∧
    if u.disp.limp.shown then
      l.image = u.disp.limp.image ∧ l.palette = u.disp.limp.palette ∧ l.loads = u.disp.limp.loads ++ [(u8 p 0, off, p.drop 8)]
    else if u8 p 0 = 0 then l.palette = u.disp.limp.palette ∧
      ∀ a, l.image.get none a = if off ≤ a ∧ a < off + (p.length - 8) then p.getD (8 + a - off) 0 else u.disp.limp.image.get none a
    else l.image = u.disp.limp.image ∧ ∀ a < 64, (l.palette.flatMap (leBytes 4)).getD a 0 =
      if off ≤ a ∧ a < off + (p.length - 8) then p.getD (8 + a - off) 0 else (u.disp.limp.palette.flatMap (leBytes 4)).getD a 0) ∧
  Effect .limpCtrlForce 0x0406 [(0, 1)] (fun u n q _ t =>
    let l := u.disp.limp
    t.disp.limp.forced = true ∧
    (l.forced = true ∨ l.shown = true → SlotDoneLo u t n q (u.frameNo 0).toNat ∧ t.disp.limp = { l with forced := true }) ∧
    (l.forced = false → l.shown = false → (u.ou 0).gen ≠ .off → (u.ou 0).gen ≠ .stopPanel →
      t.entrySt n q = some .openIssued ∧
      t.disp.limp = { l with forced := true, trigger := some (l.trigger.getD u.time), seqs := l.seqs ++ [(n, q)] })) ∧
  Effect .limpCtrlRelease 0x0406 [(0, 2)] (fun u n q _ t => LimpReleased u n q t) ∧
  Effect .limpCtrlReactive 0x0406 [(0, 0)] (fun u n q _ t => LimpReleased u n q t)

/-- R125, R126: raster and compute jobs stay OPEN.ISSUED while their tiles and workgroups run. -/
def Obligations.BilletsJobs : Prop :=
  Effect .jobRaster 0x0500 [] (fun u n q m t => ∀ v ∈ u.surf n (u16 m.payload 0xC),
    t = (({ u with cru := { u.cru with
      old := u.cru.old.filter (fun x => x.slice != n), jobs := u.cru.jobs ++ [⟨n, q, m.payload, 0, 0, some (RasterSt.start m.payload v.width v.height)⟩] } } : State)).markEntry
      n q .openIssued) ∧
  Effect .jobCompute 0x0501 [] (fun u n q m t =>
    t = (({ u with cru := { u.cru with jobs := u.cru.jobs ++ [⟨n, q, m.payload, 0, 0, none⟩] } } : State)).markEntry n q .openIssued)

/-- R128-R134, R545-R549, R557: routes, gains, streams, filters, chimes and assignment. -/
def Obligations.BilletsAudio : Prop :=
  Effect .audRoute 0x0600 [] (fun u n q m t =>
    let p := m.payload
    let k := 16 * u8 p 0 + u8 p 1
    let old := u.aud.cross k
    let len := if u16 p 4 = 0 then u.routeRamp else rampSamples (u16 p 4)
    let goal := if u16 p 2 = 0x8000 then none else some (sgn 16 (u16 p 2))
    t = { u with slices := t.slices, aud := { u.aud with xp := t.aud.xp }, fresh := t.fresh, out := t.out, ports := t.ports } ∧
    (old.now = none → goal = none → t.aud.cross k = Gain.off ∧ t.entrySt n q = some .done) ∧
    (old.now ≠ none ∨ goal ≠ none → t.entrySt n q = some .openIssued ∧
      (t.aud.cross k).ramp = some ⟨old.now.getD offDb, if old.now.isSome then offDb else goal.getD offDb, len, 0,
        old.now.isSome, if old.now.isSome then goal.map (fun g => (g, len)) else none, some (n, q)⟩)) ∧
  Effect .audGain 0x0601 [] (fun u n q m t =>
    let p := m.payload
    let i := u8 p 1
    let old := if u8 p 0 = 0 then u.aud.inGain.getD i Gain.unity else (u.aud.out i).gain
    let new := if u8 p 0 = 0 then t.aud.inGain.getD i Gain.unity else (t.aud.out i).gain
    let goal := if u16 p 2 = 0x8000 then none else some (sgn 16 (u16 p 2))
    if old.now = none ∧ goal = none then new = Gain.off ∧ t.entrySt n q = some .done
    else new = { old with ramp := some ⟨old.now.getD offDb, goal.getD offDb, 48 * u16 p 4, 0, goal.isNone, none, some (n, q)⟩ } ∧
      t.entrySt n q = some .openIssued) ∧
  Effect .audStreamOpen 0x0602 [(0, 1)] (fun u n q m t =>
    let p := m.payload
    t = (({ u with aud := { u.aud with streams := u.aud.streams ++
      [⟨n, u8 p 1, u8 p 2, u8 p 3, u32 p 4, u64 p 8, u64 p 0x10, 0, 0, some (n, q)⟩] } } : State)).markEntry n q .openIssued) ∧
  Effect .audStreamClose 0x0602 [(0, 2)] (fun u n q m t => SlotDoneAny u t n q ∧
    t.aud = { u.aud with streams := u.aud.streams.filter (fun g => g.first != u8 m.payload 1) } ∧
    ∀ g ∈ u.aud.streams, g.first = u8 m.payload 1 → ∀ e ∈ g.src, u.openAt e.1 e.2 → t.entrySt e.1 e.2 = some .done) ∧
  Effect .audEq 0x0603 [] (fun u n q m t =>
    let p := m.payload
    let o := u8 p 0
    let f := u8 p 1
    t = (({ u with aud := t.aud } : State)).ended n q ∧ t.aud = { u.aud with outs := t.aud.outs } ∧
    t.aud.out o = { u.aud.out o with eq := (t.aud.out o).eq } ∧ (∀ k < 16, k ≠ o → t.aud.out k = u.aud.out k) ∧
    ∀ k < 8, (t.aud.out o).eq.getD k Biquad.pass = if k = f then
      { (u.aud.out o).eq.getD k Biquad.pass with
        b0 := sgn 32 (u32 p 4), b1 := sgn 32 (u32 p 8), b2 := sgn 32 (u32 p 12), a1 := sgn 32 (u32 p 16), a2 := sgn 32 (u32 p 20) }
      else (u.aud.out o).eq.getD k Biquad.pass) ∧
  Effect .audDyn 0x0604 [] (fun u n q m t =>
    let p := m.payload
    let o := u8 p 0
    t = (({ u with aud := { u.aud with outs := t.aud.outs } } : State)).ended n q ∧
    t.aud.out o = { u.aud.out o with limit := i16 p 2, attackUs := u16 p 4, releaseMs := u16 p 6, delay := u16 p 8 } ∧
    ∀ k < 16, k ≠ o → t.aud.out k = u.aud.out k) ∧
  Effect .chimePlay 0x0605 [] (fun u n q m t =>
    let p := m.payload
    let c : Chime := ⟨u8 p 0, u8 p 1 == 1, false, u16 p 2, i16 p 4, u8 p 6, 0, 0, false, some (n, q), u.aud.chimeNo⟩
    ∀ k < 4, (u.player k).cur = none → (∀ j < k, (u.player j).cur ≠ none) →
      t = (({ u with aud := { u.aud with players := t.aud.players, chimeNo := u.aud.chimeNo + 1 } } : State)).markEntry n q .openIssued ∧
      t.player k = ⟨some c, none⟩ ∧ ∀ j < 4, j ≠ k → t.player j = u.player j) ∧
  Effect .chimeStop 0x0606 [] (fun u n q m t =>
    let stop := fun (c : Chime) => if c.src = some (n, BitVec.ofNat 32 (u32 m.payload 0)) then { c with stop := true } else c
    t = (({ u with aud := { u.aud with players := t.aud.players } } : State)).ended n q ∧
    ∀ k < 4, t.player k = ⟨(u.player k).cur.map stop, (u.player k).next.map stop⟩) ∧
  Effect .audAssign 0x0607 [] (fun u n q m t =>
    let p := m.payload
    let i := u8 p 1
    t = (({ u with aud := { u.aud with inOwner := t.aud.inOwner, outs := t.aud.outs } } : State)).ended n q ∧
    (∀ k < 32, t.aud.inOwner.getD k 0 = if u8 p 0 = 0 ∧ k = i then u8 p 2 else u.aud.inOwner.getD k 0) ∧
    ∀ k < 16, t.aud.out k = if u8 p 0 = 1 ∧ k = i then { u.aud.out k with owner := u8 p 2 } else u.aud.out k)

/-- R135-R140, R505, R510, R522, R533, R535: touch groups, reports, bindings, and haptic channels. -/
def Obligations.BilletsTouch : Prop :=
  Effect .tchGroup 0x0700 [] (fun u n q m t =>
    let p := m.payload
    let g := u8 p 0
    t = (({ u with touch := t.touch } : State)).ended n q ∧ (∀ k < 8, k ≠ g → t.tg k = u.tg k) ∧
    t.tg g = { u.tg g with
      configured := true, slice := u8 p 1, haptic := if u8 p 2 = 0xFF then none else some (u8 p 2), th := u16 p 0x10, rel := u16 p 0x12
      neg := u16 p 0x14, stuckS := if u16 p 0x16 = 0 then 30 else u16 p 0x16, debounce := u8 p 0x18, ctls := List.replicate 12 TouchCtl.reset
      els := (t.tg g).els, reports := if (u.tg g).slice = u8 p 1 then (u.tg g).reports else none
      fifo := if (u.tg g).slice = u8 p 1 then (u.tg g).fifo else [] } ∧
    ∀ k < 12, (t.tg g).el k = { TouchEl.reset with role := u8 p (4 + k) }) ∧
  Effect .tchEnable 0x0701 [(1, 1)] (fun u n q m t =>
    let g := u8 m.payload 0
    if (u.tg g).enabled ∧ (u.tg g).enabling = none then
      SlotDone u t n q (maskOf ((List.range 12).filter (fun e => ((u.tg g).el e).suspect))) ∧ SlicesOnly u t
    else t = (({ u with touch := t.touch } : State)).markEntry n q .openIssued ∧ (∀ k < 8, k ≠ g → t.tg k = u.tg k) ∧
      (t.tg g).enabled = true ∧ (t.tg g).enabling = some (n, q) ∧ (t.tg g).scans = 0 ∧ (t.tg g).ctls = List.replicate 12 TouchCtl.reset ∧
      ∀ k < 12, (t.tg g).el k = if ((u.tg g).el k).role % 4 = 0 then (u.tg g).el k else
        { (u.tg g).el k with
          acq := some [], atEnable := true, suspect := false, isOpen := false, short := false, negRun := 0, openRun := 0, shortRun := 0 }) ∧
  Effect .tchDisable 0x0701 [(1, 0)] (fun u n q m t =>
    let g := u8 m.payload 0
    SlotDoneAny u t n q ∧ (t.tg g).enabled = false ∧ (t.tg g).enabling = none ∧ (t.tg g).ctls = List.replicate 12 TouchCtl.reset ∧
    (∀ k < 12, ((t.tg g).el k).acq = none ∧ ((t.tg g).el k).base = ((u.tg g).el k).base) ∧ ∀ k < 8, k ≠ g → t.tg k = u.tg k) ∧
  Effect .tchReports 0x0702 [] (fun u n q m t =>
    let p := m.payload
    let g := u8 p 0
    t = (({ u with touch := t.touch } : State)).ended n q ∧ (∀ k < 8, k ≠ g → t.tg k = u.tg k) ∧
    t.tg g = { u.tg g with reports := some (n, u32 p 4, u64 p 8) }) ∧
  Effect .hapConfig 0x0703 [] (fun u n q m t =>
    let p := m.payload
    let k := u8 p 0
    let h := u.hap k
    t.entrySt n q = some .done ∧ t.reg (banked R.HAP_DRV k) = u16 p 2 + 2 ^ 16 * u16 p 4 ∧ t.fld (banked R.HAP_TIM k) 0 12 = u16 p 6 ∧
    RegsBut [banked R.HAP_DRV k, banked R.HAP_TIM k, banked R.HAP_STAT k, banked R.HAP_FREQ k] u t ∧
    (∀ j < 8, j ≠ k → t.hap j = u.hap j) ∧
    (u8 p 1 = 1 → h.st = .off → t.hap k = { Hap.reset with st := .idle } ∧ t.hapT k = (50000000 + u16 p 2 / 2) / u16 p 2 ∧
      t.flag (banked R.HAP_STAT k) 4 = false ∧ t.flag (banked R.HAP_STAT k) 5 = false) ∧
    (u8 p 1 = 1 → h.st ≠ .off → t.hap k = { h with stopping := false }) ∧
    (u8 p 1 = 0 → t.hap k = (if h.st = .idle ∨ h.st = .fault ∨ h.st = .off then { h with next := none, st := .off }
      else { h with next := none, stopping := true }))) ∧
  Effect .hapPlay 0x0704 [] (fun u n q m t =>
    let p := m.payload
    let k := u8 p 0
    let trig : HapTrig := ⟨u8 p 1, u8 p 2, some (n, q)⟩
    let h := u.hap k
    (h.st = .idle → h.stopping = false →
      t = (({ u with haps := t.haps } : State)).markEntry n q .openIssued ∧ t.hap k = { h with st := .boot, cur := some trig }) ∧
    (h.st ≠ .off → h.st ≠ .fault → h.st ≠ .idle → h.stopping = false →
      t.entrySt n q = some .openIssued ∧ t.hap k = { h with next := some trig } ∧
      ∀ o ∈ h.next, ∀ e ∈ o.src, u.openAt e.1 e.2 → e ≠ (n, q) → t.entrySt e.1 e.2 = some .done)) ∧
  Effect .hapBind 0x0705 [] (fun u n q m t =>
    let p := m.payload
    let g := u8 p 0
    t = (({ u with touch := t.touch } : State)).ended n q ∧ (∀ k < 8, k ≠ g → t.tg k = u.tg k) ∧
    t.tg g = { u.tg g with binds := (u.tg g).binds.filter (fun x => x.el != u8 p 1) ++
      (if u8 p 2 = 0xFF then [] else [⟨u8 p 1, u8 p 2, u8 p 3⟩]) })

/-- R141-R144, R577, R578: AVTP listeners and talkers, and gate lists. -/
def Obligations.BilletsNetwork : Prop :=
  Effect .avtpListen 0x0800 [] (fun u n q m t =>
    let p := m.payload
    t = (({ u with net := { u.net with avtp := u.net.avtp ++
      [⟨u64 p 0, n, true, u8 p 11, u8 p 8, u8 p 9, u8 p 10, 0, 0, 0, 0, 0, []⟩] } } : State)).ended n q) ∧
  Effect .avtpTalk 0x0801 [] (fun u n q m t =>
    let p := m.payload
    let rsv := (64000 * (66 + 6 * u8 p 0x11 * (fmtWidth (u8 p 0x12) / 8)) + 99999) / 100000
    t.entrySt n q = some .done ∧ RegsBut [R.NET_P_RSV (u8 p 0x13)] u t ∧
    t.net = { u.net with avtp := u.net.avtp ++ [⟨u64 p 0, n, false, u8 p 0x13, u8 p 0x10, u8 p 0x11, u8 p 0x12, u32 p 0x14, rd p 8 6, u16 p 0xE,
      rsv, u.pcpClass (u16 p 0xE / 2 ^ 13), []⟩] } ∧
    t.rsvSum (u8 p 0x13) (u.pcpClass (u16 p 0xE / 2 ^ 13)) = u.rsvSum (u8 p 0x13) (u.pcpClass (u16 p 0xE / 2 ^ 13)) + rsv) ∧
  Effect .avtpClose 0x0802 [] (fun u n q m t =>
    t.entrySt n q = some .done ∧
    (u.avtpOf (u64 m.payload 0) = none → t = u.ended n q) ∧
    ∀ v ∈ u.avtpOf (u64 m.payload 0), t.net = { u.net with avtp := u.net.avtp.filter (fun x => x.streamId != u64 m.payload 0) } ∧
      RegsBut [R.NET_P_RSV v.port] u t ∧ t.avtpOf (u64 m.payload 0) = none) ∧
  Effect .netGate 0x0803 [] (fun u n q m t =>
    let p := m.payload
    t = (({ u with net := { u.net with gates := t.net.gates } } : State)).ended n q ∧
    ∀ k < 4, t.net.gates.getD k ⟨none, none⟩ = if k = u8 p 0 then
      { u.net.gates.getD k ⟨none, none⟩ with loaded := some ⟨u64 p 8, u32 p 4,
        (List.range (u8 p 1)).map (fun i => ⟨u8 p (0x14 + 8 * i), u32 p (0x10 + 8 * i)⟩)⟩ }
      else u.net.gates.getD k ⟨none, none⟩)

/-- R146, R147, R666, R667, R669: the Bellows ladder. -/
def Obligations.BilletsPower : Prop :=
  Effect .pwrStateRun 0x0A00 [(0, 0)] (fun u n q _ t => t.power.target = 0 ∧
    (u.power.st = 0 → SlotDoneLo u t n q 0 ∧ t.power = { u.power with target := 0 })) ∧
  Effect .pwrStateHold 0x0A00 [(0, 1)] (fun u n q _ t => SlotDoneLo u t n q 1 ∧ t.power.st = 1 ∧ t.power.target = 1 ∧
    t.power.since = u.time ∧ t.regs = u.regs ∧ t.disp = u.disp) ∧
  Effect .pwrStateDamp 0x0A00 [(0, 2)] (fun u n q _ t => t.power.target = 2 ∧
    ((∃ o < u.nOut, (u.ou o).enabled = true) →
      t = (({ u with power := { u.power with target := 2, step := 2, entering := true } } : State)).markEntry n q .openIssued) ∧
    ((∀ o < u.nOut, (u.ou o).enabled = false) → SlotDoneLo u t n q 2 ∧ t.power.st = 2 ∧ t.power.step = 0)) ∧
  Effect .pwrStateBank 0x0A00 [(0, 3)] (fun u n q _ t => SlotDoneLo u t n q 3 ∧ t.power.st = 3 ∧ t.power.target = 3 ∧ MainOff t ∧
    t.slag = u.slag) ∧
  Effect .pwrStateEmber 0x0A00 [(0, 4)] (fun u n q _ t => SlotDoneLo u t n q 4 ∧ t.power.st = 4 ∧ t.power.target = 4 ∧ MainOff t ∧
    t.slag = u.slag) ∧
  Effect .pwrStateAsh 0x0A00 [(0, 5)] (fun _ n _ _ t => n = 0 ∧ t.power.st = 5 ∧ MainOff t ∧ t.slag = Slag.reset ∧
    t.slices = List.replicate 16 Slice.reset) ∧
  Effect .pwrWake 0x0A01 [] (fun u n q m t =>
    t = (({ u with power := { u.power with sources := u32 m.payload 0, alarm := u64 m.payload 8 } } : State)).ended n q)

/-- R148, R150-R152, R602, R605, R629: diagnostics. -/
def Obligations.BilletsDiagnostics : Prop :=
  Effect .slagRead 0x0B00 [] (fun u n q m t => SlicesOnly u t ∧ SlotDone u t n q (match u16 m.payload 0 with
    | 0 => u.slag.first.elim 0 SlagEntry.word
    | k + 1 => (u.slag.log[k]?).elim 0 SlagEntry.word)) ∧
  Effect .crcRun 0x0B02 [] (fun u n q m t => t.entrySt n q = some .openIssued ∧
    t.flag (R.CRC_U_CTRL (u8 m.payload 0)) 3 = true ∧ RegsBut [R.CRC_U_CTRL (u8 m.payload 0)] u t) ∧
  Effect .selftestTouch 0x0B03 [(0, 0)] (fun u n q _ t => t = u.markEntry n q .openIssued) ∧
  Effect .selftestHaptic 0x0B03 [(0, 1)] (fun u n q _ t => t = u.markEntry n q .openIssued) ∧
  Effect .selftestCheckUnit 0x0B03 [(0, 2)] (fun u n q _ t => t = u.markEntry n q .openIssued) ∧
  Effect .faultInject 0x0B04 [] (fun u n q m t =>
    let c := u32 m.payload 0
    SlotDoneAny u t n q ∧ (u.boot.hearthDown = false →
      t.slag.sticky = u.slag.sticky ||| 2 ^ c ∧
      ((∀ o ∈ u.slag.log.head?, o.unit ≠ u32 m.payload 4 % 256) → t.slag.total = min 255 (u.slag.total + 1) ∧
        ∀ e ∈ t.slag.log.head?, e.cls = c ∧ e.injected = true ∧ e.unit = u32 m.payload 4 % 256 ∧
          e.code = u32 m.payload 4 / 256 % 256 ∧ e.time = u.ms % 2 ^ 32)))

/-- R145, R275, R432-R434: PAIR_WELD sends the handshake, PAIR_XCHECK sets the full-output comparison. -/
def Obligations.BilletsPair : Prop :=
  Effect .pairWeld 0x0900 [] (fun u n q m t => n = 0 ∧
    (u.pair.hello = none →
      t.entrySt n q = some .openIssued ∧ t.pair.weld = some (q, u8 m.payload 0) ∧ t.phase = 1 ∧ t.pair.role = .solo)) ∧
  Effect .pairXcheck 0x0903 [] (fun u n q m t => t.entrySt n q = some .done ∧
    (∀ o < u.nOut, t.flag (R.HRD_OUT_XCHK o) 16 = (u8 m.payload 0 == 1)) ∧
    RegsBut ((List.range u.nOut).map (fun o => R.HRD_OUT_XCHK o)) u t)
/-! ## The mirrored pair -/

/-- R428-R431: frames, acknowledgement and retransmission, training and loss of the link, latency, heartbeat presence. -/
def Obligations.PairLink : Prop :=
  (∀ (s : State) (h : UlxHdr) (n : Fin 8) (k : Fin 16) (w f : Word) (x : Half) (g : Fin 256) (b : Bool) (m : Hello) (r : Option Reply)
      (c : CompleteMsg) (e : PairEvent) (p : StPart) (u : CutMsg) (j : BilletMsg) (l : Option (Fin 64)) (y : Reply), s.safe = true →
    s.flag R.ULX_STAT 2 = true → (h.good = false ∨ h.lseq ≠ s.pair.rseq + 1) →
    ∀ i ∈ [Instr.hello h m, .tkoRequest h n f, .tkoGrant h n f, .tkoRefusal h n, .tkoRelease h n, .cutoffFrame h u, .jack h k w f x,
      .hardyFrame h n f g w b, .journal h k j l y, .replyFrame h k r w w w, .complete h c, .event h e, .stateFrame h p],
      Ends i s (Counts R.ULX_LINK 0 16 s)) ∧
  (∀ (s : State) (h : UlxHdr), s.safe = true → s.flag R.ULX_STAT 2 = true → s.pair.waiting = [] → h.good = true → h.lseq = s.pair.rseq →
    Ends (.idleFrame h) s (fun t =>
      t = { s with pair := { s.pair with unacked := s.pair.unacked.filter (fun u => 0 < sdiff u.1 h.lack) } })) ∧
  (∀ (s : State) (h : UlxHdr), s.safe = true → s.flag R.ULX_STAT 2 = true → (h.good = false ∨ h.lseq ≠ s.pair.rseq) →
    Ends (.idleFrame h) s (fun t => Counts R.ULX_LINK 0 16 s t)) ∧
  (∀ (s : State), s.safe = true → s.flag R.ULX_STAT 2 = true →
    Ends (.ulxRetransmit) s (fun t => t = { s with out := (s.pair.unacked.map (fun u => OutEv.ulx u.2)).reverse ++ s.out })) ∧
  (∀ (s : State) (lat : Half), s.safe = true → s.fuses.pair = true → s.flag R.ULX_CTRL 0 = true → s.pair.waiting = [] →
    Ends (.ulxTrained lat) s (fun t =>
      t = { s with
        regs := t.regs, pair := { s.pair with downAt := none }, out := (s.pair.unacked.map (fun u => OutEv.ulx u.2)).reverse ++ s.out } ∧
      RegsBut [R.ULX_STAT, R.ULX_LAT] s t ∧ FieldSet R.ULX_STAT 2 1 1 s t ∧ FieldSet R.ULX_LAT 0 16 lat.toNat s t)) ∧
  (∀ (s : State), s.safe = true → s.flag R.ULX_STAT 2 = true →
    Ends (.ulxLinkDown) s (fun t => t = { s with regs := t.regs, pair := { s.pair with downAt := some s.time } } ∧
      RegsBut [R.ULX_STAT, R.ULX_LINK] s t ∧ FieldSet R.ULX_STAT 2 1 0 s t ∧
      FieldSet R.ULX_LINK 16 16 (min 65535 (s.fld R.ULX_LINK 16 16 + 1)) s t)) ∧
  (∀ (s : State) (lat : Half), s.safe = true → s.flag R.ULX_STAT 2 = true →
    Ends (.ulxLatencyMeasure lat) s (fun t => RegsOnly [R.ULX_LAT] s t ∧ FieldSet R.ULX_LAT 0 16 lat.toNat s t)) ∧
  (∀ (s : State) (tko : Bool), s.safe = true → s.fuses.pair = true →
    Ends (.hbPresent tko) s (fun t => t = { s with regs := t.regs, pair := { s.pair with lostAt := none } } ∧ RegsBut [R.ULX_STAT] s t ∧
      FieldSet R.ULX_STAT 3 2 (1 + 2 * b2n tko) s t))

/-- R432-R437: the handshake decides the roles or ends the weld with its reason; DRAIN, FREEZE, the bulk state, and the weld. -/
def Obligations.PairWelding : Prop :=
  (∀ (s : State) (h : UlxHdr) (m : Hello), s.safe = true → s.InOrder h → s.phase ≤ 1 → s.pair.weld = none →
    Ends (.hello h m) s (fun t => t = { s with pair := { (s.received h).pair with hello := some m } })) ∧
  (∀ (s : State) (h : UlxHdr) (m : Hello) (q : Word) (p : Nat), s.InOrder h → s.phase = 1 → s.pair.weld = some (q, p) → s.Owes 0 q →
    let x := s.helloMsg p
    let differ : Bool := x.tier != m.tier || x.log2n != m.log2n || x.dramMiB != m.dramMiB || x.ecc != m.ecc || x.stepping != m.stepping
    let reason := if x.rank == m.rank then 6 else if differ then 3 else if weldRole x m = none then 2 else 0
    Ends (.hello h m) s (fun t =>
      (reason ≠ 0 → SlotIs s t 0 q S_DONE (2 ^ 32 * reason) ∧ t.phase = 0 ∧ t.pair.weld = none ∧ Logs s t 17 false) ∧
      (reason = 0 → weldRole x m = some true → t.phase = 2 ∧ t.pair.toActive = true ∧ t.pair.weld = some (q, p) ∧
        t.reg R.ULX_COPY = s.copyMiB % 2 ^ 32 ∧ t.slices = s.slices) ∧
      (reason = 0 → weldRole x m = some false → SlotIs s t 0 q S_DONE 2 ∧ t.phase = 2 ∧ t.pair.toActive = false ∧
        (∀ k < 16, (t.slice k).ringEn = false ∧ (t.slice k).journal = [] ∧ (t.slice k).surfaces = []) ∧
        ∀ o < 8, (t.ou o).enabled = false))) ∧
  (∀ (s : State) (q : Word) (p : Nat), s.phase = 1 → s.pair.weld = some (q, p) → s.Owes 0 q →
    Ends (.weldTimeout) s (fun t => SlotIs s t 0 q S_DONE (2 ^ 32) ∧ t.phase = 0 ∧ t.pair.weld = none ∧ t.pair.role = .solo ∧
      Logs s t 17 false)) ∧
  (∀ (s : State), s.safe = true → s.phase = 2 → s.pair.toActive = true →
    Ends (.weldDrain) s (fun t => RegsOnly [R.ULX_STAT] s t ∧ FieldSet R.ULX_STAT 6 3 3 s t)) ∧
  (∀ (s : State), s.safe = true → s.phase = 3 → s.pair.toActive = true → s.workIssued = false →
    Ends (.weldFreeze) s (fun t => RegsOnly [R.ULX_STAT, R.ULX_COPY] s t ∧ FieldSet R.ULX_STAT 6 3 4 s t ∧ t.reg R.ULX_COPY = 0)) ∧
  (∀ (s : State) (h : UlxHdr) (l : List (Nat × Word)), s.InOrder h → s.phase = 2 → s.pair.toActive = false → s.safe = true →
    (l.map Prod.fst).Nodup →
    Ends (.stateFrame h (.config l)) s (fun t => t = { s.received h with regs := t.regs } ∧
      (∀ e ∈ l, isConfigReg e.1 = true → e.1 ≠ R.ULX_CFG → t.regs.get e.1 = e.2) ∧
      RegsBut ((l.map Prod.fst).filter (fun k => isConfigReg k && k != R.ULX_CFG)) s t)) ∧
  (∀ (s : State) (h : UlxHdr) (n : Nat) (x : Slice), s.InOrder h → s.phase = 2 → s.pair.toActive = false → s.safe = true → n < 16 →
    Ends (.stateFrame h (.slice n x)) s (fun t =>
      let y := s.slice n
      t = { s.received h with slices := t.slices } ∧ (∀ k < 16, k ≠ n → t.slice k = s.slice k) ∧
      t.slice n = { x with
        binding := y.binding, ringEn := y.ringEn, sqBase := y.sqBase, rqBase := y.rqBase, db := y.db, rqHead := y.rqHead
        inHand := .none, udpOut := [] })) ∧
  (∀ (s : State) (h : UlxHdr) (l : List Layer) (c : List PCommit) (k : List ScalerSt), s.safe = true →
    s.InOrder h → s.phase = 2 → s.pair.toActive = false →
    Ends (.stateFrame h (.compose l c k)) s (fun t =>
      t = { s.received h with disp := { s.disp with layers := l, commits := c, scalers := k } })) ∧
  (∀ (s : State) (h : UlxHdr) (i : Mem) (p : List Nat), s.safe = true → s.InOrder h → s.phase = 2 → s.pair.toActive = false →
    Ends (.stateFrame h (.limp i p)) s (fun t =>
      t = { s.received h with disp := { s.disp with limp := { s.disp.limp with image := i, palette := p } } })) ∧
  (∀ (s : State) (h : UlxHdr) (l : List Word), s.safe = true → s.InOrder h → s.phase = 2 → s.pair.toActive = false →
    Ends (.stateFrame h (.frames l)) s (fun t => t = { s with pair := { (s.received h).pair with frames := l } })) ∧
  (∀ (s : State) (h : UlxHdr) (x : List TouchGroup) (a : Audio) (g : List GateState) (v : List AvtpStream), s.safe = true →
    s.InOrder h → s.phase = 2 → s.pair.toActive = false →
    Ends (.stateFrame h (.hmi x a g v)) s (fun t =>
      t = { s.received h with touch := x, aud := a, net := { s.net with gates := g, avtp := v } })) ∧
  (∀ (s : State) (q : Word) (p : Nat), s.phase = 4 → s.pair.toActive = true → s.pair.weld = some (q, p) → s.Owes 0 q →
    Ends (.weldDone) s (fun t => SlotIs s t 0 q S_DONE 1 ∧ t.pair.role = .active ∧ t.fld R.ULX_STAT 0 2 = 1 ∧ t.phase = 5 ∧
      t.fld R.ULX_HOLD 0 16 = 2 ^ s.nOut - 1 ∧ t.reg R.ULX_FWD = 0 ∧ t.pair.weld = none)) ∧
  (∀ (s : State), s.phase = 2 → s.pair.toActive = false → s.safe = true → s.pair.frames.length = 8 →
    Ends (.weldDone) s (fun t => t.pair.role = .standby ∧ t.fld R.ULX_STAT 0 2 = 2 ∧ t.phase = 5 ∧
      t.fld R.ULX_HOLD 0 16 = 2 ^ 8 * (2 ^ s.nOut - 1) ∧ t.reg R.ULX_FWD = 0 ∧
      ∀ o < 8, t.frameNo o = s.pair.frames.getD o 0))

/-- R438-R441, R446, R454, R455, R593: what the two devices of a pair forward to each other; PAIR_UNWELD and PAIR_SWITCH. -/
def Obligations.PairForwarding : Prop :=
  (∀ (s : State) (h : UlxHdr) (n : Fin 16) (m : BilletMsg) (k : Option (Fin 64)) (r : Reply), s.safe = true → s.InOrder h →
    s.pair.role = .standby → (opOf m.opcode).any (fun d => !d.imm) = true →
    ((s.slice n.val).journal.all (fun e => e.seq != m.seq)) = true →
    Ends (.journal h n m k r) s (fun t => t.entrySt n.val m.seq = some .openWait ∧
      ((t.slice n.val).entry m.seq).map (fun e => (e.body, e.slot, e.reply, e.check)) = some (m, k.map Fin.val, r, m.check) ∧
      (t.slice n.val).nextSeq = m.seq + 1 ∧ Sends t (.jack n.val m.seq m.check) ∧
      t.reg R.ULX_FWD = (s.reg R.ULX_FWD + 1) % 2 ^ 32 ∧
      ∀ i ∈ k, (((t.slice n.val).slots.getD i.val Slot.empty).st, ((t.slice n.val).slots.getD i.val Slot.empty).seq) = (.pending, m.seq))) ∧
  (∀ (s : State) (h : UlxHdr) (n : Fin 16) (q c : Word) (ns : Half), s.safe = true → s.InOrder h → s.pair.role = .active →
    (s.slice n.val).inHand = .staged q → ((s.slice n.val).entry q).any (fun e => e.check == c && (opOf e.body.opcode).any (!·.imm)) = true →
    s.net.billetQ = [] →
    Ends (.jack h n q c ns) s (fun t => t.entrySt n.val q = some .openWait ∧ (t.slice n.val).nextSeq = q + 1 ∧
      (t.slice n.val).inHand = .none ∧ t.fld R.ULX_LAT 16 16 = max (s.fld R.ULX_LAT 16 16) ns.toNat ∧
      ((s.slice n.val).binding.isPcie = true → (t.slice n.val).rqTail = (s.slice n.val).rqTail + 1))) ∧
  (∀ (s : State) (h : UlxHdr) (n : Fin 16) (r : Option Reply) (tail head db : Word), s.safe = true → s.InOrder h → s.pair.role = .standby →
    (s.slice n.val).binding.isPcie = true →
    Ends (.replyFrame h n r tail head db) s (fun t =>
      (t.slice n.val).rqTail = tail ∧ (t.slice n.val).sqHead = head ∧ (t.slice n.val).db = db ∧ t.out = s.out ∧ t.regs = s.regs)) ∧
  (∀ (s : State) (h : UlxHdr) (n : Fin 16) (q : Word) (st : Half) (v : DWord), s.safe = true → s.InOrder h → s.pair.role = .standby →
    s.openAt n.val q → (((s.slice n.val).entry q).bind (·.slot)).any (· < 64) = true → st.toNat = S_DONE →
    Ends (.complete h (.slot n.val q st v)) s (fun t =>
      if ((s.slice n.val).entry q).any (·.here.isSome) then SlotIs s t n.val q S_DONE v.toNat ∧ t.entrySt n.val q = some .done
      else t = { s with pair := { (s.received h).pair with completions := s.pair.completions ++ [(n.val, q, st, v)] } })) ∧
  (∀ (s : State) (h : UlxHdr) (q : QuenchReq) (o : Nat), s.safe = true → s.InOrder h → s.pair.role = .standby → q.slice < 16 →
    Ends (.complete h (.quench q (some o))) s (fun t => t = { s.received h with slices := t.slices } ∧
      t.slice q.slice = { s.slice q.slice with qstat := { (s.slice q.slice).qstat with done := true, outcome := o } })) ∧
  (∀ (s : State) (h : UlxHdr) (ns : Nat) (b : Bool), s.safe = true → s.InOrder h → s.pair.role = .standby →
    Ends (.event h (.gptp ns b)) s (fun t =>
      t = { s with net := { s.net with time := ns }, pair := { (s.received h).pair with ptp := b } })) ∧
  (∀ (s : State) (h : UlxHdr) (p : AudioPins), s.safe = true → s.InOrder h → s.pair.role = .standby →
    Ends (.event h (.samples p)) s (fun t => t = { s.received h with aud := { s.aud with fwd := s.aud.fwd ++ [p] } })) ∧
  (∀ (s : State) (h : UlxHdr) (c : CutMsg), s.safe = true → s.InOrder h → s.pair.role = .standby → s.pair.cutOk.length = 8 →
    s.pair.cutFrame.length = 8 → c.out < s.nOut → 0 < sdiff c.frame (s.frameNo c.out) →
    Ends (.cutoffFrame h c) s (fun t => t.pair.cuts = s.pair.cuts ++ [c] ∧ t.pair.cutFrame.getD c.out 0 = c.frame ∧
      t.pair.cutOk.getD c.out 0 = min 8 (s.pair.cutOk.getD c.out 0 + 1) ∧ t.fld R.ULX_HOLD 24 8 = c.ready % 256 ∧
      t = { s with regs := t.regs, pair := t.pair } ∧ RegsBut [R.ULX_HOLD] s t)) ∧
  (∀ (s : State) (n : Fin 8), s.pair.role = .standby → (s.ou n.val).fabDue = true → s.safe = true → s.pair.cutOk.length = 8 →
    Ends (.cutoffTimeout n) s (fun t => t.pair.cutOk.getD n.val 0 = 0 ∧ (t.ou n.val).fabDue = false ∧ Logs s t 17 false)) ∧
  (∀ (s : State) (b : Billet), s.safe = true → s.pair.role = .active → s.takes b.slice.val (billetMsg b 0x0901 []) = true →
    Ends (.pairUnweld b) s (fun t => t.entrySt 0 b.hdr.seq = some .staged ∧ (t.slice 0).inHand = .staged b.hdr.seq ∧ t.pair.role = .active ∧
      t.reg R.ULX_FWD = (s.reg R.ULX_FWD + 1) % 2 ^ 32) ∧
    ∀ (v : State), v.safe = true → v.pair.role = .active → v.pair.completions = [] → v.mayIssue 0 b.hdr.seq = true →
      ((v.slice 0).nextIssue).map (·.body) = some (billetMsg b 0x0901 []) →
      Ends (.effectIssue 0) v (fun t => t.entrySt 0 b.hdr.seq = some .done ∧ t.pair.role = .solo ∧ t.fld R.ULX_STAT 0 2 = 0 ∧ t.phase = 0 ∧
        t.flag R.ULX_STAT 10 = true ∧ ∀ o < v.nOut, v.flag R.ULX_HOLD (8 + o) = true → v.scanning o = true →
          t.pair.take.contains (o, none) = true)) ∧
  (∀ (s : State) (b : Billet), s.safe = true → s.pair.role = .active → s.takes b.slice.val (billetMsg b 0x0902 []) = true →
    Ends (.pairSwitch b) s (fun t => t.entrySt 0 b.hdr.seq = some .staged ∧ (t.slice 0).inHand = .staged b.hdr.seq ∧ t.pair.role = .active ∧
      t.reg R.ULX_FWD = (s.reg R.ULX_FWD + 1) % 2 ^ 32) ∧
    ∀ (v : State), v.safe = true → v.pair.role = .active → v.mayIssue 0 b.hdr.seq = true →
      ((v.slice 0).nextIssue).map (·.body) = some (billetMsg b 0x0902 []) →
      (∃ o < v.nOut, v.flag R.ULX_HOLD o = true ∧ v.scanning o = true) →
      Ends (.effectIssue 0) v (fun t => t.entrySt 0 b.hdr.seq = some .openIssued ∧ t.pair.switch = some b.hdr.seq ∧ t.pair.role = .active ∧
        t.pair.give = ((List.range v.nOut).filter (fun o => v.flag R.ULX_HOLD o && v.scanning o)).map (fun o => (o, v.cutIn50 o))))

/-- R273, R342, R449-R455: takeover of outputs, heartbeat loss, and severance. -/
def Obligations.PairTakeover : Prop :=
  (∀ (s : State) (h : UlxHdr) (n : Fin 8) (f : Word), s.safe = true → s.InOrder h →
    let ok := (enabledRegions (s.hd n.val).regs).all (fun r => (s.hv n.val r).recent.contains (f, false))
    Ends (.tkoRequest h n f) s (fun t =>
      if s.takeReady n.val ∧ ok = true ∧ s.pair.ask.all (fun a => a.1 != n.val) = true then
        Sends t (.tkoGrant n.val (s.cutIn50 n.val)) ∧ t.pair.cause = 2 ∧
        t.pair.take = s.pair.take.filter (fun x => x.1 != n.val) ++ [(n.val, some (s.cutIn50 n.val))]
      else Sends t (.tkoRefusal n.val) ∧ t.pair.take = s.pair.take)) ∧
  (∀ (s : State) (h : UlxHdr) (n : Fin 8) (c : Word), s.safe = true → s.InOrder h → s.pair.ask.any (fun a => a.1 == n.val) = true →
    Ends (.tkoGrant h n c) s (fun t => t = { s with pair := { (s.received h).pair with
      ask := s.pair.ask.filter (fun a => a.1 != n.val), give := s.pair.give ++ [(n.val, c)] } })) ∧
  (∀ (s : State) (h : UlxHdr) (n : Fin 8), s.safe = true → s.InOrder h → s.pair.ask.any (fun a => a.1 == n.val) = true →
    Ends (.tkoRefusal h n) s (fun t => t.pair.ask = s.pair.ask.filter (fun a => a.1 != n.val) ∧ Logs s t 5 true ∧ t.regs = s.regs)) ∧
  (∀ (s : State) (n : Fin 8), s.safe = true → s.pair.ask.any (fun a => a.1 == n.val) = true →
    Ends (.tkoAnswerTimeout n) s (fun t => t.pair.ask = s.pair.ask.filter (fun a => a.1 != n.val) ∧ Logs s t 5 true ∧ t.regs = s.regs)) ∧
  (∀ (s : State) (h : UlxHdr) (n : Fin 8), s.safe = true → s.InOrder h →
    Ends (.tkoRelease h n) s (fun t => t = { s.received h with regs := t.regs } ∧ RegsBut [R.ULX_HOLD] s t ∧
      FieldSet R.ULX_HOLD (8 + n.val) 1 0 s t)) ∧
  (∀ (s : State) (h : UlxHdr) (n : Fin 8) (f : Word) (r : Fin 256) (c : Word) (ok : Bool), s.safe = true → s.InOrder h → s.pair.role ≠ .solo →
    (s.hd n.val).last ≠ some f →
    Ends (.hardyFrame h n f r c ok) s (fun t => t = { s with pair := { (s.received h).pair with
      results := (n.val, f, r.val, c, ok) :: s.pair.results.filter (fun p => !(p.1 == n.val && p.2.2.1 == r.val)) } })) ∧
  (∀ (s : State) (tko : Bool), s.safe = true → s.fuses.pair = true → s.flag R.ULX_STAT 3 = true →
    Ends (.hbLost tko) s (fun t => (s.pair.role = .solo ∨ tko = true → t.flag R.ULX_STAT 3 = false ∧ t.flag R.ULX_STAT 4 = tko ∧
        t = { s with regs := t.regs, pair := { s.pair with lostAt := if s.pair.role = .solo then s.pair.lostAt else some s.time } }) ∧
      (s.pair.role = .standby → tko = false → t.pair.role = .active ∧ t.fld R.ULX_STAT 0 2 = 1 ∧ Logs s t 17 false) ∧
      (s.pair.role = .active → tko = false → s.net.billetQ = [] → s.noStaged = true → t.pair.role = .solo ∧ t.phase = 0 ∧ Logs s t 17 false))) ∧
  (∀ (s : State) (tko : Bool), s.safe = true → s.pair.lostAt ≠ none →
    Ends (.tkoConfirm tko) s (fun t =>
      (tko = true → t.flag R.ULX_STAT 9 = true ∧ t.flag R.ULX_STAT 4 = true ∧ t.pair = { s.pair with lostAt := none } ∧ Logs s t 17 true) ∧
      (tko = false → s.pair.role = .standby → t.pair.role = .active ∧ t.fld R.ULX_STAT 0 2 = 1) ∧
      (tko = false → s.pair.role = .active → s.net.billetQ = [] → s.noStaged = true → t.pair.role = .solo))) ∧
  (∀ (s : State), s.safe = true → s.fuses.pair = true → s.flag R.ULX_STAT 2 = false → s.pair.role ≠ .solo → s.net.billetQ = [] → s.noStaged = true →
    Ends (.ulxSever) s (fun t => t.pair.role = .solo ∧ t.fld R.ULX_STAT 0 2 = 0 ∧ t.phase = 0 ∧ t.flag R.ULX_STAT 10 = true ∧ Logs s t 17 false ∧
      (s.pair.role = .standby → ∀ k < 16, (t.slice k).ringEn = false))) ∧
  (∀ (s : State) (n : Fin 8) (c : Option Word), s.safe = true → (s.pair.take.find? (fun x => x.1 == n.val)) = some (n.val, c) →
    c.all (fun w => decide (0 ≤ sdiff (s.frameNo n.val) w)) = true → s.scanning n.val = true →
    (s.pair.role = .solo ∨ s.pair.cause = 1 ∨ s.flag R.ULX_HOLD (8 + n.val) = false) → s.pair.switch = none →
    Ends (.takeOutput n) s (fun t => t.flag R.ULX_HOLD n.val = true ∧ t.flag R.ULX_HOLD (8 + n.val) = false ∧
      t.pair.take = s.pair.take.filter (fun x => x.1 != n.val) ∧ t.pair.role = s.pair.role ∧
      (s.holds n.val = false → t.holds n.val = true)))
/-! ## Slices -/

/-- R40-R53, R57, R63, R68, R70, R71: a fetched billet is answered: the header checks in their order, and acceptance. -/
def Obligations.BilletFetched : Prop :=
  (∀ (s : State) (n : Fin 16) (raw : List Byte), s.safe = true → s.Fetches n.val →
    let m := rawBillet raw
    let x := s.slice n.val
    let ahead := sdiff m.seq x.nextSeq
    let old := if ahead < -256 then none else x.entry m.seq
    Ends (.billetFetch n raw) s (fun t =>
      if 4064 < m.length.toNat then Rejected s t n.val m 0x8002 m.length.toNat
      else if m.check ≠ billetCrc m n.val then Rejected s t n.val m 0x8001 0
      else if m.flags.toNat / 8 ≠ 0 then Rejected s t n.val m 0x8003 0x0C
      else if m.group ≠ 0 ∧ (opOf m.opcode).all (!·.takesG) = true then Rejected s t n.val m 0x8003 0x0E
      else if m.deadline ≠ 0 ∧ (opOf m.opcode).all (!·.takesD) = true then Rejected s t n.val m 0x8003 0x10
      else if m.res14 ≠ 0 then Rejected s t n.val m 0x8003 0x14
      else if m.res18 ≠ 0 then Rejected s t n.val m 0x8003 0x18
      else if 0 < ahead then Rejected s t n.val m 0x8004 x.nextSeq.toNat
      else if ahead < 0 then
        (old.isNone = true → Rejected s t n.val m 0x8005 x.nextSeq.toNat) ∧
        ∀ e ∈ old, if e.check = m.check then Answered s t n.val { e.reply with dup := true } ∧ (t.slice n.val).journal = x.journal
          else Rejected s t n.val m 0x8006 0
      else (m.flags.getLsbD 2 = false ∨ x.openCount = 0) → (opOf m.opcode).isNone = true → Rejected s t n.val m 0x8007 0)) ∧
  (∀ (s : State) (n : Fin 16) (raw : List Byte), s.safe = true → s.Fetches n.val → ((s.slice n.val).entry (rawBillet raw).seq).isNone = true →
    (s.judgeBillet n.val (rawBillet raw) (32 + (rawBillet raw).length.toNat) false).open = true →
    Ends (.billetFetch n raw) s (fun t => Accepted s t n.val (rawBillet raw) ∧
      Answered s t n.val (((t.slice n.val).entry (rawBillet raw).seq).elim ⟨0, 0, 0, false, false, 0, 0⟩ (·.reply)) ∧
      ((t.slice n.val).entry (rawBillet raw).seq).all (fun e => e.reply.status == 1 && e.reply.seq == (rawBillet raw).seq &&
        e.reply.tag == (rawBillet raw).tag && e.reply.slot == e.slot.isSome && e.slot.all (fun k => e.reply.result.toNat == k)) = true)) ∧
  (∀ (s : State) (n : Fin 16) (m : BilletMsg) (len : Nat), s.safe = true → s.pair.role = .solo → s.knabyRuns = true → s.net.billetQ = [] →
    (s.slice n.val).inHand = .fence m len → (s.slice n.val).openCount = 0 → ((s.slice n.val).entry m.seq).isNone = true →
    (s.judgeBillet n.val m len false).open = true →
    Ends (.fenceWaitEnd n) s (fun t => Accepted s t n.val m)) ∧
  (∀ (s : State) (n : Fin 16) (m : BilletMsg) (len : Nat), s.safe = true → s.pair.role = .solo → s.knabyRuns = true → s.net.billetQ = [] →
    (s.slice n.val).inHand = .window m len → ((s.slice n.val).entry m.seq).isNone = true →
    (s.judgeBillet n.val m len false).open = true →
    Ends (.windowWaitEnd n) s (fun t => Accepted s t n.val m ∧ ((t.slice n.val).entry (m.seq - 256)).isNone = true)) ∧
  (∀ (s : State) (n : Fin 16) (m : BilletMsg) (len : Nat), s.safe = true → (s.slice n.val).inHand = .fence m len → (s.slice n.val).openCount ≠ 0 →
    Ends (.fenceWaitEnd n) s (fun t => t = s))

/-- R45, R47, R50, R51, R63-R65, R69, R170, R574: datagrams of billets and replies, and the window of a slice. -/
def Obligations.SliceWindow : Prop :=
  (∀ (s : State) (n : Fin 16) (d : UdpIn), s.safe = true → s.pair.role = .solo → s.netUp = true → s.knabyRuns = true → s.net.billetQ = [] →
    d.fragment = false → d.sum ≠ .bad → 32 ≤ d.payload.length → s.sliceOf d.src = some n.val → s.drcPhase ≠ 2 → s.power.st = 0 →
    s.power.step = 0 → (s.slice n.val).inHand = .none →
    ((s.slice n.val).entry (rawBillet d.payload).seq).isNone = true →
    Ends (.billetDatagram d) s (fun t =>
      (d.payload.length ≠ 32 + (rawBillet d.payload).length.toNat → ((t.slice n.val).udpOut.getLast?).map
        (fun r => (r.seq, r.status, r.result)) = some ((rawBillet d.payload).seq, 0x8002, BitVec.ofNat 32 d.payload.length)) ∧
      ((s.judgeBillet n.val (rawBillet d.payload) d.payload.length false).open = true → Accepted s t n.val (rawBillet d.payload) ∧
        ((t.slice n.val).udpOut.getLast?).map (fun r => (r.seq, r.status)) = some ((rawBillet d.payload).seq, 1)))) ∧
  (∀ (s : State) (d : UdpIn), s.safe = true → s.netUp = true →
    let k := if s.pair.role = .standby then 4 else if d.fragment then 0 else if d.sum = .bad then 1 else if d.payload.length < 32 then 2
      else if (s.sliceOf d.src).isNone then 3 else if 256 ≤ s.net.billetQ.length then 5 else 6
    k ≠ 6 → Ends (.billetDatagram d) s (fun t => Counts (R.NET_DROP k) 0 32 s t)) ∧
  (∀ (s : State) (n : Fin 16) (id : NetId), s.safe = true → s.pair.role ≠ .standby → (s.slice n.val).binding = .eth id →
    (s.slice n.val).udpOut ≠ [] →
    Ends (.replyDatagram n) s (fun t =>
      t.out = .udp false id (((s.slice n.val).udpOut.take 64).flatMap Reply.bytes) :: s.out ∧
      t.slice n.val = { s.slice n.val with udpOut := (s.slice n.val).udpOut.drop 64 } ∧ t = { s with out := t.out, slices := t.slices })) ∧
  (∀ (s : State) (n : Fin 16) (a : Access), s.safe = true → s.reaches n.val a →
    let x := s.slice n.val
    let new := (a.data - x.sqHead).toNat
    Ends (.slcDbWrite n a) s (fun t => t = { s with slices := t.slices, power := t.power, pair := t.pair, out := t.out } ∧
      t.slice n.val = (if 256 < new ∨ new < (x.db - x.sqHead).toNat then { x with dbErr := true } else { x with db := a.data }))) ∧
  (∀ (s : State) (n : Fin 16) (a : Access), s.safe = true → s.reaches n.val a →
    Ends (.slcRqHeadWrite n a) s (fun t => t = { s with slices := t.slices } ∧ t.slice n.val = { s.slice n.val with rqHead := a.data })) ∧
  (∀ (s : State) (n : Fin 16) (k : Fin 64) (a : Access), s.safe = true → s.reaches n.val a →
    let x := (s.slice n.val).slot k.val
    Ends (.slotValueRead n k a) s (fun t => t = { s with slices := t.slices, out := t.out } ∧
      t.out = .readData (if x.st = .done then BitVec.ofNat 32 x.value.toNat else 0) :: s.out ∧
      (t.slice n.val).slot k.val = (if x.st = .done then { x with readCount := min 255 (x.readCount + 1) } else x))) ∧
  (∀ (s : State) (n : Fin 16) (hi : Bool) (a : Access), s.safe = true → s.reaches n.val a →
    let x := s.slice n.val
    let named := fun (k : Nat) => if hi then 32 ≤ k && a.data.toNat.testBit (k - 32) else k < 32 && a.data.toNat.testBit k
    Ends (.slotReleaseWrite n hi a) s (fun t => t = { s with slices := t.slices } ∧
      (∀ k < 64, (t.slice n.val).slot k = if named k ∧ (x.slot k).st = .done then Slot.empty else x.slot k) ∧
      (t.slice n.val).relPend = (x.relPend || (List.range 64).any (fun k => named k && (x.slot k).st == .pending)))) ∧
  (∀ (s : State) (n : Fin 16) (a : Access), s.safe = true → s.served = true → (s.winMaster n.val a.req).isNone = true → a.be ≠ 0 →
    ∀ i ∈ [Instr.slcDbWrite n a, .slcRqHeadWrite n a, .slotReleaseWrite n false a],
      Ends i s (fun t => t.slices = s.slices ∧ t.flag R.SLG_ACC 4 = true))

/-- R68, R73, R82, R101-R104, R120, R150, R373, R465, R516, R538, R605: an effect is issued, and hardware reports its end. -/
def Obligations.EffectsIssueAndEnd : Prop :=
  (∀ (s : State) (n : Fin 16) (e : JEntry), s.safe = true → (s.slice n.val).nextIssue = some e → (opOf e.body.opcode).all (fun d => !s.issueReady n.val e d) = true →
    Ends (.effectIssue n) s (fun t => t = s)) ∧
  (∀ (s : State) (n : Fin 16) (e : JEntry), s.Owes n.val e.seq → (s.slice n.val).nextIssue = some e →
    (s.slice n.val).entry e.seq = some e → e.body.opcode.toNat = 0x0B00 → s.mayIssue n.val e.seq = true →
    Ends (.effectIssue n) s (fun t => SlotIs s t n.val e.seq S_DONE (s.slag.entryWord (u16 e.body.payload 0)) ∧
      t.entrySt n.val e.seq = some .done)) ∧
  (∀ (s : State) (n : Fin 16) (q : Word) (r : EffResult) (e : JEntry), s.Owes n.val q → s.knabyRuns = true →
    (s.slice n.val).entry q = some e → e.st = .openIssued → r.status.toNat = S_DONE →
    let p := e.body.payload
    let wide := fun (v : Surface) => u16 p 8 * bpp v.format
    Ends (.effectComplete n q r) s (fun t =>
      (e.body.opcode = 0x0102 → ∀ v ∈ s.surf n.val (u16 p 0), SlotIs s t n.val q S_DONE (wide v * u16 p 0xA) ∧
        t.surf n.val (u16 p 0) = some (v.writeRect (u16 p 4) (u16 p 6) (u16 p 8) (u16 p 0xA) r.data)) ∧
      (e.body.opcode = 0x0104 → ∀ v ∈ s.surf n.val (u16 p 0), SlotIs s t n.val q S_DONE (wide v * u16 p 0xA) ∧
        t.surf n.val (u16 p 0) = some v) ∧
      (e.body.opcode = 0x0105 → ∀ v ∈ s.surf n.val (u16 p 0), SlotIs s t n.val q S_DONE 0 ∧
        t.surf n.val (u16 p 0) = some (v.writeRect (u16 p 4) (u16 p 6) (u16 p 8) (u16 p 0xA)
          (List.replicate (u16 p 8 * u16 p 0xA) (leBytes (bpp v.format) (u32 p 0xC))).flatten)) ∧
      (e.body.opcode = 0x0106 → ∀ v ∈ s.surf n.val (u16 p 0), ∀ w ∈ s.surf n.val (u16 p 2), SlotIs s t n.val q S_DONE 0 ∧
        t.surf n.val (u16 p 2) = some (w.writeRect (u16 p 8) (u16 p 0xA) (u16 p 0xC) (u16 p 0xE)
          (v.readRect (u16 p 4) (u16 p 6) (u16 p 0xC) (u16 p 0xE)))) ∧
      (e.body.opcode = 0x0402 → ∀ v ∈ s.surf n.val (u16 p 0), SlotIs s t n.val q S_DONE (u32 p 0xC) ∧
        t.disp.anvil = (s.hardyWrite (u8 p 2) (s.hd (u8 p 2)).pendBuf (u32 p 8) (v.read (u32 p 4) (u32 p 0xC))).disp.anvil) ∧
      (e.body.opcode = 0x0B02 → ∀ v ∈ s.surf n.val (u16 p 2), t.flag (R.CRC_U_CTRL (u8 p 0)) 3 = false ∧
        SlotDoneLo s t n.val q (((s.setFlag (R.CRC_U_CTRL (u8 p 0)) 3 false).crcRunSurface (u8 p 0) (u32 p 4) (bit (u32 p 0xC) 0)
          (v.read (u32 p 4) (u32 p 8))).2)) ∧
      (e.body.opcode = 0x0B03 → u8 p 0 = 2 → SlotDoneLo s t n.val q (min 4 (u8 r.data 0)) ∧
        (u8 r.data 0 ≠ 0 → t.flag R.CRC_STAT (u8 p 1) = true ∧ Logs s t 22 false)))) ∧
  (∀ (s : State) (n : Fin 16) (q : Word) (r : EffResult) (e : JEntry), s.Owes n.val q → s.knabyRuns = true →
    (s.slice n.val).entry q = some e → e.st = .openIssued → r.status.toNat ≠ S_DONE →
    [0x0102, 0x0104, 0x0105].contains e.body.opcode.toNat = true → (s.surf n.val (u16 e.body.payload 0)).isSome = true →
    Ends (.effectComplete n q r) s (fun t => t.entrySt n.val q = some .done ∧ t.surf n.val (u16 e.body.payload 0) = s.surf n.val (u16 e.body.payload 0) ∧
      (((s.slice n.val).entry q).bind (·.slot)).any (fun k => ((t.slice n.val).slot k).status == BitVec.ofNat 16 0x8105) = true ∧
      Logs s t (if e.body.opcode = 0x0102 then 19 else 2) false))
/-! ## Quench -/

/-- R153-R160: the doorbell, what each scope stops, its outcome, and the QUENCH datagram. -/
def Obligations.QuenchScopes : Prop :=
  (∀ (s : State) (n : Fin 16) (arg : Word) (a : Access), s.safe = true → s.Quenches n.val a → s.journalWf n.val = true → a.data.toNat / 256 % 256 = 0 →
    let hit := fun (e : JEntry) => [0x0500, 0x0501].contains e.body.opcode.toNat && (arg == 0xFFFFFFFF || e.seq == arg)
    (s.slice n.val).journal.all (fun e => !e.isOpen || !hit e || (e.slot.isSome && e.applied.isNone)) = true →
    Ends (.quenchJob n arg a) s (fun t => Quenched s t n.val hit ∧
      QuenchDone s t n.val arg a (if (s.slice n.val).journal.any (fun e => e.isOpen && hit e) then 0 else 1))) ∧
  (∀ (s : State) (n : Fin 16) (arg : Word) (a : Access), s.safe = true → s.Quenches n.val a → s.journalWf n.val = true → a.data.toNat / 256 % 256 = 0 →
    let hit := fun (e : JEntry) => isDma e.body && (arg == 0xFFFFFFFF || e.seq == arg)
    (s.slice n.val).journal.all (fun e => !e.isOpen || !hit e || (e.slot.isSome && e.applied.isNone)) = true →
    Ends (.quenchDma n arg a) s (fun t => Quenched s t n.val hit ∧
      QuenchDone s t n.val arg a (if (s.slice n.val).journal.any (fun e => e.isOpen && hit e) then 0 else 1))) ∧
  (∀ (s : State) (n : Fin 16) (arg : Word) (a : Access), s.safe = true → s.Quenches n.val a →
    let target := a.data.toNat / 256 % 256
    let gone := fun (g : GuestStream) => if arg = 0xFFFFFFFF then g.slice == n.val else decide (g.first ≤ target ∧ target < g.first + g.channels)
    let denied := n.val != 0 && arg != 0xFFFFFFFF && decide (target < 32) && s.aud.inOwner.getD target 0 != n.val
    let bad := decide (31 < target) || (arg != 0 && arg != 0xFFFFFFFF)
    Ends (.quenchAudio n arg a) s (fun t =>
      (denied = true → QuenchDone s t n.val arg a 2 ∧ QuenchOnly s t n.val) ∧
      (denied = false → bad = true → QuenchDone s t n.val arg a 3 ∧ QuenchOnly s t n.val) ∧
      (denied = false → bad = false → QuenchDone s t n.val arg a (if s.aud.streams.any gone then 0 else 1) ∧
        t.aud = { s.aud with streams := s.aud.streams.filter (fun g => !gone g) }))) ∧
  (∀ (s : State) (n : Fin 16) (arg : Word) (a : Access), s.safe = true → s.Quenches n.val a →
    let o := a.data.toNat / 256 % 256
    Ends (.quenchComposition n arg a) s (fun t =>
      if s.nOut ≤ o ∧ o < 8 then QuenchDone s t n.val arg a 4 ∧ QuenchOnly s t n.val
      else if n.val ≠ 0 then QuenchDone s t n.val arg a 2 ∧ QuenchOnly s t n.val
      else if 7 < o ∨ arg ≠ 0 then QuenchDone s t n.val arg a 3 ∧ QuenchOnly s t n.val
      else if (s.ou o).pass = .running then QuenchDone s t n.val arg a 0 ∧ (t.ou o).pass = .abandoned 20 ∧
        t.reg R.CMP_MISSES = (s.reg R.CMP_MISSES + 1) % 2 ^ 32
      else QuenchDone s t n.val arg a 1 ∧ t.disp.outs = s.disp.outs)) ∧
  (∀ (s : State) (n : Fin 16) (arg : Word) (a : Access), s.safe = true → s.Quenches n.val a →
    let k := a.data.toNat / 256 % 256
    Ends (.quenchSlice n arg a) s (fun t =>
      if n.val ≠ 0 ∧ k ≠ n.val then QuenchDone s t n.val arg a 2 ∧ QuenchOnly s t n.val
      else if s.nSlices ≤ k ∨ arg ≠ 0 then QuenchDone s t n.val arg a 3 ∧ QuenchOnly s t n.val
      else (t.slice k).ringEn = false ∧ (t.slice k).db = (s.slice k).sqHead ∧ (t.slice k).sqHead = (s.slice k).sqHead ∧
        (t.slice k).inHand = .none ∧ (s.journalWf k = true → (s.slice k).journal.all (fun e => !e.isOpen ||
            (e.slot.isSome && e.applied.isNone && e.body.opcode != 0x0605)) = true → s.noStaged = true →
          Quenched s t k (fun _ => true) ∧
          QuenchDone s t n.val arg a (if (s.slice k).journal.any (fun e => e.isOpen) then 0 else 1)))) ∧
  (∀ (s : State) (n : Fin 16) (arg : Word) (a : Access), s.safe = true → s.Quenches n.val a →
    Ends (.quenchDevice n arg a) s (fun t =>
      if n.val ≠ 0 then QuenchDone s t n.val arg a 2 ∧ QuenchOnly s t n.val
      else if a.data.toNat / 256 % 256 ≠ 0 ∨ arg ≠ 0 then QuenchDone s t n.val arg a 3 ∧ QuenchOnly s t n.val
      else (∀ k < s.nSlices, (t.slice k).ringEn = false ∧ (t.slice k).db = (s.slice k).sqHead ∧ (t.slice k).inHand = .none) ∧
        t.aud.streams = [] ∧ (∀ o < 8, (t.ou o).pass ≠ .running) ∧ ∀ h < 8, (t.hap h).next = none ∧ (t.hap h).st ≠ .play ∧ (t.hap h).st ≠ .boot)) ∧
  (∀ (s : State) (n : Fin 16) (arg : Word) (a : Access), s.safe = true → s.reaches n.val a → (s.slice n.val).qstat.busy = true →
    ∀ i ∈ [Instr.quenchJob n arg a, .quenchDma n arg a, .quenchAudio n arg a, .quenchComposition n arg a, .quenchSlice n arg a, .quenchDevice n arg a],
      Ends i s (fun t => (t.slice n.val).qstat = { (s.slice n.val).qstat with dropped := true } ∧ QuenchOnly s t n.val)) ∧
  (∀ (s : State) (d : UdpIn) (n : Fin 16), s.safe = true → s.pair.role = .solo → s.netUp = true → s.knabyRuns = true →
    s.net.billetQ = [] → s.net.quenchQ = [] → d.fragment = false → d.sum ≠ .bad → 32 ≤ d.payload.length → s.sliceOf d.src = some n.val →
    s.power.st = 0 → s.power.step = 0 →
    let m := rawBillet d.payload
    let reply := fun (st r : Nat) => OutEv.udp true d.src
      (Reply.bytes ⟨m.seq, m.tag, 0xF00, false, false, BitVec.ofNat 16 st, BitVec.ofNat 32 r⟩)
    Ends (.quench d) s (fun t =>
      (d.payload.length ≠ 32 → t.out = reply 0x8002 d.payload.length :: s.out) ∧
      (d.payload.length = 32 → m.length = 0 → m.check ≠ billetCrc m n.val → t.out = reply 0x8001 0 :: s.out) ∧
      (d.payload.length = 32 → m = { m with opcode := 0x0F00, length := 0, flags := 2, group := 0, deadline := 0, res14 := 0, res18 := 0 } →
        m.check = billetCrc m n.val → (s.slice n.val).journal = [] → t.out = reply 1 1 :: s.out)))
/-! ## Composition and scan-out -/

/-- R196, R207-R223, R237, R246, R299-R303: binding, cut-offs, passes, and copies of banks. -/
def Obligations.CompositionRows : Prop :=
  (∀ (s : State) (n : Fin 16) (q : Word) (c : PCommit), s.safe = true → s.pair.role = .solo → s.boot.warmStep = 0 →
    s.disp.commits.find? (fun c => c.slice == n.val && c.seq == q) = some c → c.bound = [] → c.members ≠ [] →
    c.members.all (fun m => !s.blocked c m) = true →
    ((s.slice n.val).entry q).all (fun e => !missesDeadline e.body.deadline (s.frameNo (c.members.headD 0) + 2)) = true →
    Ends (.commitBind n q) s (fun t =>
      ((t.disp.commits.find? (fun c => c.slice == n.val && c.seq == q)).map (·.bound)) = some (c.members.map (fun m => (m, s.frameNo m + 1))) ∧
      t.disp.bindNo = s.disp.bindNo + 1 ∧ t.disp.layers = s.disp.layers ∧ t.slices = s.slices)) ∧
  (∀ (s : State) (n : Fin 16) (q : Word) (c : PCommit), s.Owes n.val q → s.boot.warmStep = 0 →
    s.disp.commits.find? (fun c => c.slice == n.val && c.seq == q) = some c → c.slice = n.val → c.seq = q → c.bound = [] → c.members ≠ [] →
    c.members.all (fun m => !s.blocked c m) = true →
    ((s.slice n.val).entry q).any (fun e => missesDeadline e.body.deadline (s.frameNo (c.members.headD 0) + 2)) = true →
    Ends (.commitBind n q) s (fun t => t.entrySt n.val q = some .done ∧
      (((s.slice n.val).entry q).bind (·.slot)).any (fun k => ((t.slice n.val).slot k).status == BitVec.ofNat 16 0x8101) = true ∧
      (t.disp.commits.find? (fun c => c.slice == n.val && c.seq == q)).isNone = true)) ∧
  (∀ (s : State) (n : Fin 8) (e : BitVec 28), s.safe = true → s.pair.role = .solo → n.val < s.nOut → s.scanning n.val = true →
    (s.ou n.val).gen = .run → (n.val ≠ 0 ∨ s.limpBoot = false) → s.pair.give = [] →
    let o := s.ou n.val
    let f := s.frameNo n.val + 1
    Ends (.cutOff n e) s (fun t => t.frameNo n.val = f ∧ (t.ou n.val).cutAt = s.time ∧
      t.regs.get (R.CMP_OUT_FRAME n.val) = (if s.boot.warmStep = 0 then f else s.regs.get (R.CMP_OUT_FRAME n.val)) ∧
      (o.pass = .complete → t.fld (R.SCN_OUT_STAT n.val) 4 1 = (s.front n.val + 1) % 2 ∧ t.fld (R.CMP_OUT_STAT n.val) 0 16 = s.fld (R.CMP_OUT_STAT n.val) 0 16) ∧
      (o.pass ≠ .complete → t.fld (R.SCN_OUT_STAT n.val) 4 1 = s.front n.val ∧
        t.fld (R.CMP_OUT_STAT n.val) 0 16 = (s.fld (R.CMP_OUT_STAT n.val) 0 16 + 1) % 2 ^ 16) ∧
      (o.pass = .running → t.flag (R.CMP_OUT_STAT n.val) 17 = true ∧ t.reg R.CMP_MISSES = (s.reg R.CMP_MISSES + 1) % 2 ^ 32) ∧
      (t.ou n.val).pass = (if s.composes then .running else .idle) ∧
      (s.glSource n.val ≠ 0 → t.reg (R.SCN_OUT_GL_ERR n.val) = unsgn 32 (e.toInt * 10)) ∧
      (s.glSource n.val = 0 → t.reg (R.SCN_OUT_GL_ERR n.val) = s.reg (R.SCN_OUT_GL_ERR n.val)))) ∧
  (∀ (s : State) (n : Fin 8) (e : BitVec 28) (k : Nat) (q : Word), s.Owes 0 q → n.val < s.nOut → s.scanning n.val = true →
    (s.ou n.val).gen = .run → (n.val ≠ 0 ∨ s.limpBoot = false) → s.pair.give = [] → s.disp.commits = [] → (s.hd n.val).commit = none →
    (s.ou n.val).select = true → (s.ou n.val).next = some k → (s.ou n.val).seq = some q → (n.val ≠ 0 ∨ s.disp.limp.seqs = []) →
    Ends (.cutOff n e) s (fun t => (t.ou n.val).set = some k ∧ (t.ou n.val).next = none ∧ (t.ou n.val).seq = none ∧
      SlotIs s t 0 q S_DONE (s.frameNo n.val + 1).toNat ∧ t.reg (R.SCN_OUT_GL_BASE_LO n.val) = s.net.time % 2 ^ 32)) ∧
  (∀ (s : State) (n : Fin 8) (e : BitVec 28) (c : PCommit) (k : Nat) (l : LayerCfg), s.Owes c.slice c.seq → n.val < s.nOut →
    s.scanning n.val = true → (s.ou n.val).gen = .run → (n.val ≠ 0 ∨ s.limpBoot = false) → s.pair.give = [] → s.boot.warmStep = 0 →
    s.disp.commits = [c] → c.members = [n.val] → c.bound = [(n.val, s.frameNo n.val + 1)] → c.items = [.layer k l] → k < 64 →
    (s.lay k).output = n.val → (s.hd n.val).commit = none → (s.ou n.val).select = false → (n.val ≠ 0 ∨ s.disp.limp.seqs = []) → c.late = false →
    Ends (.cutOff n e) s (fun t => (t.lay k).com = l ∧ t.disp.commits = [] ∧
      SlotIs s t c.slice c.seq S_DONE ((s.frameNo n.val + 2).toNat + 2 ^ 32 * (2 ^ n.val + 2 ^ 8 * c.held)) ∧
      t.fld (R.CMP_OUT_COMMITS n.val) 16 16 = (s.fld (R.CMP_OUT_COMMITS n.val) 16 16 + 1) % 2 ^ 16)) ∧
  (∀ (s : State) (n : Fin 8) (us : Nat), s.safe = true → (s.ou n.val).pass = .running → (s.ou n.val).wbPass = none →
    Ends (.passComplete n us [] [] 0 0 true) s (fun t => (t.ou n.val).pass = .complete ∧
      t.fld (R.CMP_OUT_PASS n.val) 0 16 = min 65535 us ∧
      t.fld (R.CMP_OUT_PASS n.val) 16 16 = max (s.fld (R.CMP_OUT_PASS n.val) 16 16) (min 65535 us) ∧
      t.disp.anvil = (raster 0 0 (s.active n.val).1 (s.active n.val).2).foldl (fun m q => m.write none (s.bufAddr n.val (1 - s.front n.val) q.1 q.2)
        (leBytes 4 (s.composePx n.val (s.frameNo n.val + 1).toNat [] q.1 q.2).word)) s.disp.anvil)) ∧
  (∀ (s : State) (n : Fin 8) (us : Nat) (tile parity : BitVec 4), s.safe = true → (s.ou n.val).pass = .running →
    Ends (.passComplete n us [] [] tile parity false) s (fun t => (t.ou n.val).pass = .abandoned 19 ∧
      t.reg R.CMP_ENG_FAIL = s.reg R.CMP_ENG_FAIL ||| tile.toNat ||| parity.toNat ∧
      t.reg R.CMP_MISSES = (s.reg R.CMP_MISSES + 1) % 2 ^ 32 ∧ t.fld R.CMP_ID 4 4 = t.engines ∧ t.reg R.CMP_LIMIT = 3168 * t.engines ∧
      (tile ≠ 0 → Logs s t 7 false) ∧ (parity ≠ 0 → Logs s t 3 false))) ∧
  (∀ (s : State) (k : Fin 8), s.safe = true → (s.scl k.val).busy = true → s.slices.all (fun x => x.sets.isEmpty) = true → s.disp.commits = [] →
    Ends (.scalerCopyDone k) s (fun t =>
      t.scl k.val = { s.scl k.val with busy := false, hIn := (s.scl k.val).hAct, vIn := (s.scl k.val).vAct })) ∧
  (∀ (s : State) (n : Fin 8), s.safe = true → (s.ou n.val).colour.busy = true → s.slices.all (fun x => x.sets.isEmpty) = true → s.disp.commits = [] →
    Ends (.colourCopyDone n) s (fun t => t = { s with disp := { s.disp with outs := t.disp.outs } } ∧
      t.ou n.val = { s.ou n.val with colour := { (s.ou n.val).colour with
        busy := false, mIn := (s.ou n.val).colour.mAct, lIn := (s.ou n.val).colour.lAct } }))

/-- R256, R261-R275, R278, R293, R297: Hardy results and verdicts, copies, zero-fill, and BAR2 writes. -/
def Obligations.HardyRows : Prop :=
  (∀ (s : State) (n : Fin 8) (r : Fin 256) (f crc : Word), s.safe = true → s.scanning n.val = true → s.boot.hearthDown = false →
    (n.val ≠ 0 ∨ r.val ≠ 16) →
    let old := (s.hd n.val).last.any (fun g => decide (sdiff f g ≤ 0))
    Ends (.hardyResult n r f crc) s (fun t =>
      if old then Counts (R.HRD_OUT_STAT n.val) 24 8 s t
      else t.hd n.val = { s.hd n.val with results := (s.hd n.val).results ++ [(f, r.val, crc)] } ∧
        t = { s with disp := { s.disp with hardy := t.disp.hardy } })) ∧
  (∀ (s : State) (n : Fin 8) (f : Word) (r : Nat), s.safe = true → s.pair.role = .solo → s.boot.hearthDown = false → n.val ≠ 0 →
    s.scanning n.val = true → (s.hd n.val).susp = false → (s.hd n.val).last.all (fun g => decide (0 < sdiff f g)) = true →
    (s.hd n.val).old = none → (s.hd n.val).spoilt = [] → s.slices.all (fun x => x.inHand == .none) = true → r < 16 →
    bit s.boot.checkerBad n.val = false →
    let g := (s.hd n.val).regs.getD r HRegion.reset
    let v := s.hv n.val r
    let m := (s.hd n.val).result f r
    let bad := v.expErr || m != some (s.expected n.val r g f)
    Ends (.hardyVerdict n f 0) s (fun t => t.regs.get (R.HRD_OUT_VERDICT n.val) = f ∧ (t.hd n.val).last = some f ∧
      (g.on = false → t.hv n.val r = v) ∧
      (g.on = true → (t.hv n.val r).isMatch = !bad ∧ (t.hv n.val r).missing = m.isNone ∧ (t.hv n.val r).meas = m.getD 0) ∧
      (g.on = true → bad = false → (t.hv n.val r).count = 0 ∧ (t.hv n.val r).latched = v.latched) ∧
      (g.on = true → bad = true → v.latched = false → v.count + 1 < g.threshold →
        (t.hv n.val r).count = v.count + 1 ∧ (t.hv n.val r).latched = false) ∧
      (g.on = true → bad = true → v.latched = false → g.threshold ≤ v.count + 1 →
        (t.hv n.val r).count = g.threshold ∧ (t.hv n.val r).latched = true ∧ t.slag.sticky.testBit 5 = true ∧
        (g.reaction ≠ 0 → t.slag.cause.testBit 5 = true)))) ∧
  (∀ (s : State) (n : Fin 8) (b : Bool) (k : Nat) (q : Word), s.safe = true → s.pair.role = .solo → (s.hd n.val).commit = some (k, q, .forming) →
    ((s.ou n.val).enabled = true ∨ s.scanning n.val = true) →
    Ends (.hardyExpectedDone n b) s (fun t => t.hd n.val = { s.hd n.val with commit := some (k, q, .ready) } ∧
      t = { s with disp := { s.disp with hardy := t.disp.hardy } })) ∧
  (∀ (s : State) (n : Fin 8) (b : Bool) (k : Nat) (q : Word), s.Owes k q → (s.hd n.val).commit = some (k, q, .forming) →
    (s.ou n.val).enabled = false → s.scanning n.val = false →
    ((s.slice k).entry q).all (fun e => !missesDeadline e.body.deadline (s.frameNo n.val)) = true →
    Ends (.hardyExpectedDone n b) s (fun t => (t.hd n.val).live1 = !(s.hd n.val).live1 ∧ (t.hd n.val).regs = (s.hd n.val).pend ∧
      (t.hd n.val).commit = some (k, q, .copying) ∧ t.regs.get (R.HRD_OUT_LIVE n.val) = s.frameNo n.val ∧ t.flag (R.HRD_OUT_STAT n.val) 17 = true ∧
      SlotIs s t k q S_DONE ((s.frameNo n.val).toNat + 2 ^ 32 * maskOf (enabledRegions (s.hd n.val).pend)))) ∧
  (∀ (s : State) (n : Fin 8) (k : Nat) (q : Word), s.safe = true → (s.hd n.val).commit = some (k, q, .copying) →
    Ends (.hardyCopybackDone n) s (fun t => t.hd n.val = { s.hd n.val with pend := (s.hd n.val).regs, commit := none } ∧
      t.flag (R.HRD_OUT_STAT n.val) 17 = false ∧ t.flag (R.HRD_OUT_STAT n.val) 18 = false ∧
      t = { s with regs := t.regs, disp := { s.disp with hardy := t.disp.hardy, anvil := t.disp.anvil } } ∧
      t.disp.anvil = [0, 1].foldl (fun m k => copyGranule m ((s.hd n.val).granules.getD (2 * (s.hd n.val).live + k) 0)
        ((s.hd n.val).granules.getD (2 * (s.hd n.val).pendBuf + k) 0)) s.disp.anvil)) ∧
  (∀ (s : State) (n : Fin 8), s.safe = true → s.pair.role ≠ .solo →
    Ends (.xcheckTimeout n) s (fun t => Counts (R.HRD_OUT_XCHK n.val) 17 7 s t)) ∧
  (∀ (s : State) (n : Fin 8) (q : Word), s.safe = true → s.pair.role = .solo → (s.ou n.val).zeroSeq = some q → s.openAt 0 q →
    ((s.slice 0).entry q).all (·.slot.isNone) = true →
    Ends (.anvZeroFillDone n) s (fun t => (t.ou n.val).zeroSeq = none ∧ t.entrySt 0 q = some .done ∧
      t = { s with slices := t.slices, disp := { s.disp with outs := t.disp.outs } })) ∧
  (∀ (s : State) (p : Fin 2) (addr : BitVec 29) (bytes : List Byte), s.safe = true → s.served = true → (s.sysMaster (.port p)).isSome = true → bytes ≠ [] →
    addr.toNat / granuleBytes / 64 < s.nDies →
    let w := s.owner (addr.toNat / granuleBytes)
    let free := s.pair.role == .solo && (w == 0xFF || (decide (w < 8) && !(s.ou w).enabled && (s.ou w).gen == .off))
    Ends (.bar2Write p addr bytes false) s (fun t =>
      (0x40 ≤ w → w < 0x48 → t.reg R.HRD_FOREIGN = min (2 ^ 32 - 1) (s.reg R.HRD_FOREIGN + 1) ∧ t.disp = s.disp ∧ Logs s t 5 false) ∧
      ((w < 0x40 ∨ 0x48 ≤ w) → free = false → Counts R.ANV_BAR2_REF 0 32 s t) ∧
      (free = true → t = { s with disp := { s.disp with anvil := s.disp.anvil.write none addr.toNat bytes } })))
/-- R278, R290, R302-R305, R311-R317, R708: panel sequencing, backlight PWM, the Anvil's errors, scrubbing and relocation. -/
def Obligations.PanelAndAnvilRows : Prop :=
  (∀ (s : State) (n : Fin 8), s.safe = true → s.pair.role ≠ .standby → (s.ou n.val).next.isSome = true → (s.ou n.val).gen = .run →
    s.lineNo n.val + 4 ≤ ((s.scanTim n.val).map (·.vact)).getD 0 →
    Ends (.switchSelect n) s (fun t => t.ou n.val = { s.ou n.val with select := true } ∧ (∀ k < 8, k ≠ n.val → t.ou k = s.ou k))) ∧
  (∀ (s : State) (n : Fin 8), s.safe = true → (s.ou n.val).gen = .panelOn →
    Ends (.panelOnDelayEnd n) s (fun t => t.ou n.val = { s.ou n.val with gen := .pll } ∧ t.regs = s.regs)) ∧
  (∀ (s : State) (n : Fin 8), s.safe = true → ((s.ou n.val).gen = .pll ∨ (s.ou n.val).gen = .reprogPll) → (n.val ≠ 0 ∨ s.limpBoot = false) →
    Ends (.pllLock n) s (fun t => (t.ou n.val).gen = (if (s.ou n.val).gen = .pll then .link else .reprogLink) ∧ t.lnk n.val = 1 ∧
      (t.ou n.val).pass = (if s.composes then .running else .idle))) ∧
  (∀ (s : State) (n : Fin 8) (bad : List (Nat × Nat)) (fast psr psr2 : Bool) (gran : Nat) (q : Word), s.Owes 0 q → (s.ou n.val).gen = .link →
    (n.val ≠ 0 ∨ s.limpBoot = false) → (s.ou n.val).seq = some q → s.pair.give = [] → s.disp.commits = [] → (s.hd n.val).commit = none →
    (n.val ≠ 0 ∨ s.disp.limp.seqs = []) → (s.ou n.val).select = false →
    Ends (.linkStartDone n bad fast psr psr2 gran) s (fun t => (t.ou n.val).gen = .run ∧ (t.ou n.val).seq = none ∧
      t.frameNo n.val = s.frameNo n.val + 1 ∧ t.lnk n.val = (if (s.linkResult n.val bad).isSome then 2 else 3) ∧
      (∀ r ∈ s.linkResult n.val bad, (t.ou n.val).link.lanes = r.1 ∧
        (t.ou n.val).link.rate = (if cfgLink (s.linkCfg n.val) < 2 then rateCode r.2 else r.2)) ∧
      SlotIs s t 0 q S_DONE ((s.frameNo n.val + 1).toNat + 2 ^ 32 * t.linkValue n.val))) ∧
  (∀ (s : State) (n : Fin 8), s.safe = true → (s.ou n.val).enabled = true → (s.ou n.val).gen = .run →
    Ends (.backlightOnDelayEnd n) s (fun t => t.ou n.val = { s.ou n.val with bl := true } ∧ t.regs = s.regs)) ∧
  (∀ (s : State) (n : Fin 8), s.safe = true → (s.ou n.val).gen = .stopBl →
    Ends (.backlightOffDelayEnd n) s (fun t => t.ou n.val = { s.ou n.val with gen := .stopCut } ∧ t.regs = s.regs)) ∧
  (∀ (s : State) (n : Fin 8) (q : Word), s.Owes 0 q → (s.ou n.val).gen = .stopPanel → (s.ou n.val).seq = some q →
    (n.val ≠ 0 ∨ s.disp.limp.trigger = none) →
    Ends (.panelOffDelayEnd n) s (fun t => t.ou n.val = { s.ou n.val with gen := .off, seq := none } ∧ SlotIs s t 0 q S_DONE 0)) ∧
  (∀ (s : State) (n : Fin 8) (us : Nat) (r : Ramp), s.safe = true → (s.ou n.val).ramp = some r → r.start < 65536 → r.target < 65536 → 0 < r.ms →
    Ends (.blPwmPeriod n us) s (fun t => RegsBut [R.SCN_OUT_BL_DUTY n.val] s t ∧
      (1000 * r.ms ≤ us → t.duty n.val = r.target ∧ (t.ou n.val).ramp = none) ∧
      (us < 1000 * r.ms → (t.ou n.val).ramp = some r ∧
        (r.start ≤ r.target → t.duty n.val = r.start + ((r.target - r.start) * us + (1000 * r.ms - 1)) / (1000 * r.ms)) ∧
        (r.target < r.start → t.duty n.val = r.start - ((r.start - r.target) * us + (1000 * r.ms - 1)) / (1000 * r.ms))))) ∧
  (∀ (s : State) (n : Fin 8), s.safe = true → s.scanning n.val = true →
    Ends (.scanoutUnderrun n) s (fun t => t.flag (R.SCN_OUT_STAT n.val) 7 = true ∧ RegsBut [R.SCN_OUT_STAT n.val] s t ∧ Logs s t 9 false)) ∧
  (∀ (s : State) (n : Fin 8) (off : BitVec 26), s.safe = true → s.scanning n.val = true →
    Ends (.scanoutReadError n false off) s (fun t => t.flag (R.SCN_OUT_STAT n.val) 8 = true ∧
      t.reg (R.SCN_OUT_UE n.val) = min (2 ^ 32 - 1) (s.reg (R.SCN_OUT_UE n.val) + 2) ∧
      t.reg R.ANV_UE_COUNT = min (2 ^ 32 - 1) (s.reg R.ANV_UE_COUNT + 1) ∧ t.reg R.ANV_UE_ADDR % 8 = 0 ∧ t.disp = s.disp ∧ Logs s t 9 false)) ∧
  (∀ (s : State) (n : Fin 8) (off : BitVec 26), s.safe = true → s.scanning n.val = true →
    Ends (.scanoutReadError n true off) s (fun t => t.reg R.ANV_UE_COUNT = min (2 ^ 32 - 1) (s.reg R.ANV_UE_COUNT + 1) ∧ Logs s t 2 false ∧
      t.disp.anvil = s.disp.anvil ∧ ∀ r < 16, ∀ p ∈ planePixels (s.planeOf n.val (s.hd n.val).live) (off.toNat / 8 * 8),
        ((s.hd n.val).regs.getD r HRegion.reset).on = true →
        ((s.hd n.val).regs.getD r HRegion.reset).x ≤ p.1 → p.1 < ((s.hd n.val).regs.getD r HRegion.reset).x + ((s.hd n.val).regs.getD r HRegion.reset).w →
        ((s.hd n.val).regs.getD r HRegion.reset).y ≤ p.2 → p.2 < ((s.hd n.val).regs.getD r HRegion.reset).y + ((s.hd n.val).regs.getD r HRegion.reset).h →
        (t.hd n.val).spoilt.contains (s.frameNo n.val, r) = true)) ∧
  (∀ (s : State) (fixed : List (BitVec 21 × Bool)), s.safe = true → s.flag R.ANV_SCRUB_CFG 31 = true → s.power.st ≤ 1 → s.dieOk (s.disp.scrubAt / 64) = true →
    Ends (.anvScrubGranule fixed []) s (fun t => t.disp.scrubAt = (s.nextScrub s.disp.scrubAt).1 ∧
      t.reg R.ANV_CE_COUNT = min (2 ^ 32 - 1) (s.reg R.ANV_CE_COUNT + fixed.length) ∧
      t.fld R.ANV_STAT 16 16 = (s.fld R.ANV_STAT 16 16 + b2n (s.nextScrub s.disp.scrubAt).2) % 2 ^ 16 ∧ t.disp.anvil = s.disp.anvil)) ∧
  (∀ (s : State) (c : Fin 24), s.safe = true → c.val / 8 < s.nDies → s.dieOk (c.val / 8) = true →
    Ends (.anvDieFail c) s (fun t => t.flag R.ANV_CHAN_FAIL c.val = true ∧ t.dieOk (c.val / 8) = false ∧ Logs s t 9 false ∧
      ∀ g < 192, t.owner g = if g / 64 = c.val / 8 ∧ s.owner g = 0xFF then 0xFE else s.owner g)) ∧
  (∀ (s : State) (n : Fin 8), s.safe = true → n.val < s.nOut → (s.hd n.val).move = none → s.onBadDie (s.hd n.val).granules ≠ [] →
    s.scanning n.val = true →
    let got := s.pickGranules 4
    Ends (.anvHardyRelocated n) s (fun t =>
      if got.length < 4 then RegsOnly [R.ANV_STAT] s t ∧ FieldSet R.ANV_STAT 4 1 1 s t
      else t.hd n.val = { s.hd n.val with move := some got } ∧ (∀ g ∈ got, t.owner g = 0x40 + n.val) ∧
        t.disp.anvil = ((s.hd n.val).granules.zip got).foldl (fun m p => copyGranule m p.1 p.2) s.disp.anvil))

/-- R328-R337: hot plug, retraining, self-refresh, tearing effect, AUX transactions and DSI packets. -/
def Obligations.LinkRows : Prop :=
  (∀ (s : State) (n : Fin 8), s.safe = true → n.val < s.nOut →
    Ends (.hpdUnplug n) s (fun t => t.flag (R.SCN_OUT_LNK_STAT n.val) 3 = false ∧ t.flag (R.SCN_OUT_LNK_STAT n.val) 14 = true ∧
      (t.ou n.val).link.trained = false ∧ (t.ou n.val).gen = (s.ou n.val).gen ∧
      (((s.lnk n.val = 1 ∨ s.lnk n.val = 2 ∨ s.lnk n.val = 4) ∧ cfgLink (s.linkCfg n.val) < 2) →
        t.lnk n.val = 3 ∧ t.flag (R.SCN_OUT_LNK_STAT n.val) 12 = true ∧ Logs s t 16 false) ∧
      (¬ ((s.lnk n.val = 1 ∨ s.lnk n.val = 2 ∨ s.lnk n.val = 4) ∧ cfgLink (s.linkCfg n.val) < 2) → t.lnk n.val = s.lnk n.val ∧ t.slag = s.slag))) ∧
  (∀ (s : State) (n : Fin 8), s.safe = true → n.val < s.nOut →
    Ends (.hpdReplug n) s (fun t => RegsOnly [R.SCN_OUT_LNK_STAT n.val] s t ∧ t.flag (R.SCN_OUT_LNK_STAT n.val) 3 = true ∧
      t.lnk n.val = (if s.lnk n.val = 3 ∧ s.scanning n.val = true ∧ cfgLink (s.linkCfg n.val) < 2 ∧ s.lnkOpt n.val 1 1 = 1 then 1 else s.lnk n.val))) ∧
  (∀ (s : State) (n : Fin 8) (lost : Bool), s.safe = true → n.val < s.nOut →
    Ends (.hpdIrq n lost) s (fun t => RegsOnly [R.SCN_OUT_LNK_STAT n.val] s t ∧ t.flag (R.SCN_OUT_LNK_STAT n.val) 13 = true ∧
      t.lnk n.val = (if lost = true ∧ (s.lnk n.val = 2 ∨ s.lnk n.val = 4) ∧ cfgLink (s.linkCfg n.val) < 2 then 1 else s.lnk n.val))) ∧
  (∀ (s : State) (n : Fin 8), s.safe = true → s.lnk n.val = 3 → s.scanning n.val = true → s.lnkOpt n.val 1 1 = 1 →
    Ends (.linkRetry n) s (fun t => RegsOnly [R.SCN_OUT_LNK_STAT n.val] s t ∧ t.lnk n.val = 1 ∧
      t.fld (R.SCN_OUT_LNK_STAT n.val) 16 16 = (s.fld (R.SCN_OUT_LNK_STAT n.val) 16 16 + 1) % 2 ^ 16)) ∧
  (∀ (s : State) (n : Fin 8), s.safe = true → s.scanning n.val = true → s.lnk n.val = 2 → s.psrOn n.val = true →
    max 1 (s.lnkOpt n.val 8 4) ≤ (s.ou n.val).link.equal →
    Ends (.psrEntry n) s (fun t => RegsOnly [R.SCN_OUT_LNK_STAT n.val] s t ∧ t.lnk n.val = 4 ∧
      t.flag (R.SCN_OUT_LNK_STAT n.val) 10 = s.psr2On n.val)) ∧
  (∀ (s : State) (n : Fin 8), s.safe = true → (s.lnk n.val = 4 ∨ (s.lnk n.val = 2 ∧ cfgLink (s.linkCfg n.val) = 3)) →
    s.lnkOpt n.val 16 8 ≠ 0 → s.lnkOpt n.val 16 8 ≤ (s.ou n.val).link.since →
    Ends (.psrRefresh n) s (fun t => t.ou n.val = { s.ou n.val with link := { (s.ou n.val).link with lastCrc := none } } ∧ t.regs = s.regs)) ∧
  (∀ (s : State) (n : Fin 8), s.safe = true →
    Ends (.teReport n) s (fun t => t.ou n.val = { s.ou n.val with link := { (s.ou n.val).link with noTe := 0 } } ∧ t.regs = s.regs)) ∧
  (∀ (s : State) (n : Fin 8), s.safe = true → cfgLink (s.linkCfg n.val) = 3 → s.scanning n.val = true → (s.ou n.val).link.noTe < 3 →
    Ends (.teLost n) s (fun t => t.ou n.val = { s.ou n.val with link := { (s.ou n.val).link with noTe := 3 } } ∧
      t.flag (R.SCN_OUT_LNK_STAT n.val) 15 = true ∧ RegsBut [R.SCN_OUT_LNK_STAT n.val] s t ∧ Logs s t 13 false)) ∧
  (∀ (s : State) (n : Fin 8) (a : Access), s.regReach a (R.SCN_OUT_AUX_CMD n.val) → s.fld (R.SCN_OUT_AUX_STAT n.val) 0 2 ≠ 1 →
    s.fld (R.SCN_OUT_AUX_STAT n.val) 0 2 ≠ 2 →
    let c := a.data.toNat
    let barred := c % 16 == 8 && (List.range (c / 2 ^ 24 % 16 + 1)).any (fun i =>
      let x := c / 16 % 2 ^ 20 + i
      decide (0x100 ≤ x ∧ x ≤ 0x1FF) || x == 0x600 || x == 0x170)
    Ends (.auxGo n a) s (fun t => t.reg (R.SCN_OUT_AUX_CMD n.val) = c % 2 ^ 28 ∧
      RegsBut [R.SCN_OUT_AUX_CMD n.val, R.SCN_OUT_AUX_STAT n.val, R.SLG_ACC, R.SLG_ACC_ADDR] s t ∧
      (s.drives n.val = false → t.reg (R.SCN_OUT_AUX_STAT n.val) = 3 + 2 ^ 8) ∧
      (s.drives n.val = true → barred = true → t.reg (R.SCN_OUT_AUX_STAT n.val) = 3 + 2 ^ 7) ∧
      (s.drives n.val = true → barred = false → t.reg (R.SCN_OUT_AUX_STAT n.val) = if s.lnk n.val = 1 then 1 else 2))) ∧
  (∀ (s : State) (n : Fin 8) (code : Fin 16) (data : List Byte), s.safe = true →
    (s.fld (R.SCN_OUT_AUX_STAT n.val) 0 2 = 1 ∨ s.fld (R.SCN_OUT_AUX_STAT n.val) 0 2 = 2) → data.length ≤ 16 →
    let c := s.reg (R.SCN_OUT_AUX_CMD n.val)
    let len := c / 2 ^ 24 % 16 + 1
    let defer := (code.val == 2 || code.val == 8) && decide ((s.ou n.val).link.defers < 7)
    let got := if c % 2 = 1 then min len data.length else if code.val = 0 then len else 0
    Ends (.auxReply n code data) s (fun t =>
      (defer = true → t.fld (R.SCN_OUT_AUX_STAT n.val) 0 2 = 2 ∧ (t.ou n.val).link.defers = (s.ou n.val).link.defers + 1 ∧
        RegsBut [R.SCN_OUT_AUX_STAT n.val] s t) ∧
      (defer = false → t.reg (R.SCN_OUT_AUX_STAT n.val) = 3 + 4 * code.val + 2 ^ 9 * got ∧
        (c % 2 = 1 → ∀ k < got, t.reg (R.SCN_OUT_AUX_DATA n.val (k / 4)) / 2 ^ (8 * (k % 4)) % 256 = (data.getD k 0).toNat)))) ∧
  (∀ (s : State) (n : Fin 8), s.safe = true → (s.fld (R.SCN_OUT_AUX_STAT n.val) 0 2 = 1 ∨ s.fld (R.SCN_OUT_AUX_STAT n.val) 0 2 = 2) →
    Ends (.auxTimeout n) s (fun t => RegsOnly [R.SCN_OUT_AUX_STAT n.val] s t ∧ t.reg (R.SCN_OUT_AUX_STAT n.val) = 3 + 2 ^ 6)) ∧
  (∀ (s : State) (n : Fin 4) (a : Access), s.regReach a (R.SCN_OUT_DSI_HDR n.val) → s.fld (R.SCN_OUT_DSI_STAT n.val) 0 2 ≠ 1 →
    Ends (.dsiGo n a) s (fun t => t.reg (R.SCN_OUT_DSI_HDR n.val) = a.data.toNat % 2 ^ 6 + 2 ^ 8 * (a.data.toNat / 2 ^ 8 % 2 ^ 18) ∧
      t.reg (R.SCN_OUT_DSI_STAT n.val) = (if s.drives n.val then 1 else 2 ^ 25) ∧
      RegsBut [R.SCN_OUT_DSI_HDR n.val, R.SCN_OUT_DSI_STAT n.val, R.SLG_ACC, R.SLG_ACC_ADDR] s t)) ∧
  (∀ (s : State) (n : Fin 4) (fits ackErr : Bool) (resp : Option (Fin 64 × BitVec 16 × List Byte)), s.safe = true →
    s.fld (R.SCN_OUT_DSI_STAT n.val) 0 2 = 1 → s.scanning n.val = true → s.drives n.val = true →
    let late := 2 ^ 26 * b2n (s.flag (R.SCN_OUT_DSI_STAT n.val) 26) + 2 ^ 24 * b2n ackErr
    Ends (.dsiPacketSend n fits resp ackErr) s (fun t =>
      (fits = false → (t.ou n.val).link.dsiWait = (s.ou n.val).link.dsiWait + 1 ∧ t.fld (R.SCN_OUT_DSI_STAT n.val) 0 2 = 1 ∧
        t.flag (R.SCN_OUT_DSI_STAT n.val) 26 = (s.flag (R.SCN_OUT_DSI_STAT n.val) 26 || decide (16 ≤ (s.ou n.val).link.dsiWait + 1))) ∧
      (fits = true → (s.flag (R.SCN_OUT_DSI_HDR n.val) 24 = false ∨ resp = none) → t.reg (R.SCN_OUT_DSI_STAT n.val) = 2 + late) ∧
      (fits = true → s.flag (R.SCN_OUT_DSI_HDR n.val) 24 = true → ∀ r ∈ resp, t.reg (R.SCN_OUT_DSI_STAT n.val) =
          3 + 4 * r.1.val + 2 ^ 8 * r.2.1.toNat + late ∧
        ∀ k < 16, 4 * k < r.2.2.length → t.reg (R.SCN_OUT_DSI_PAY n.val k) = leNat ((r.2.2.drop (4 * k)).take 4))))
/-! ## Raster jobs, dispatch and quanta -/

/-- R350-R353: NOP, VIEWPORT, SCISSOR, RASTER, DEPTH, STENCIL, BLEND, SHADERS and VERTICES; an undefined OP and the end of the stream. -/
def Obligations.RasterStateCommands : Prop :=
  (∀ x ∈ rasRows, x.Holds) ∧
  (∀ (s : State) (j : CruJob) (r : RasterSt) (c : List Byte), s.rasAt j r c (u8 c 0) → 0x0B < u8 c 0 →
    Ends .rasCmdNop s (fun t => RasFaulted s t j r 1)) ∧
  (∀ (s : State) (j : CruJob) (r : RasterSt), s.safe = true → s.rasterJob = some (j, r) → r.draw = none → u32 j.pl 4 + u32 j.pl 8 ≤ r.pos →
    Ends .rasCmdNop s (fun t => RasFaulted s t j r 4))

/-- R127, R351, R354, R369, R370: DRAW, CLEAR and END. -/
def Obligations.RasterDrawClearEnd : Prop :=
  (∀ (s : State) (j : CruJob) (r : RasterSt) (c : List Byte) (h : Shaders), s.rasAt j r c 0x0A → u8 c 3 = 0 → u8 c 1 ≤ 2 →
    u8 c 2 ≤ 2 → r.sh = some h → (u8 c 2 = 0 → u32 c 4 + u32 c 8 ≤ r.vCount) →
    (u8 c 2 ≠ 0 → u32 c 0xC + 2 * u8 c 2 * u32 c 8 ≤ s.cmdSize j ∧ (s.jobSurf j 0).any (fun u =>
      (List.range (u32 c 8)).all (fun i => decide (leNat (u.read (u32 c 0xC + 2 * u8 c 2 * i) (2 * u8 c 2)) < r.vCount))) = true) →
    r.prims + (if u8 c 1 = 0 then u32 c 8 / 3 else u32 c 8 - 2) < 2 ^ 32 →
    Ends .rasDraw s (fun t =>
      (u32 c 8 < 3 → RasBecame s t j { r with pos := r.pos + 16 }) ∧
      (3 ≤ u32 c 8 → RasBecame s t j { r with
        draw := some ⟨u8 c 1, u8 c 2, u32 c 4, u32 c 8, u32 c 0xC, 0, [], 0, [], []⟩ }))) ∧
  (∀ (s : State) (j : CruJob) (r : RasterSt) (c : List Byte), s.rasAt j r c 0x0A → u8 c 3 = 0 → u8 c 1 ≤ 2 → u8 c 2 = 0 →
    Ends .rasDraw s (fun t =>
      (r.sh = none → RasFaulted s t j r 5) ∧
      (r.sh ≠ none → r.vCount < u32 c 4 + u32 c 8 → RasFaulted s t j r 6) ∧
      (r.sh ≠ none → u32 c 4 + u32 c 8 ≤ r.vCount → 2 ^ 32 ≤ r.prims + (if u8 c 1 = 0 then u32 c 8 / 3 else u32 c 8 - 2) →
        RasFaulted s t j r 7))) ∧
  (∀ (s : State) (j : CruJob) (r : RasterSt) (c : List Byte) (u : Surface), s.rasAt j r c 0x0B → u8 c 2 = 0 → u8 c 3 = 0 → u8 c 1 < 4 →
    r.targets.length = 5 → s.surf j.slice (r.tgt (u8 c 1)).handle = some u →
    (r.tgt (u8 c 1)).handle ≠ 0 → s.job j.slice j.seq = some j → j.ras = some r →
    u16 c 4 = 0 → u16 c 6 = 0 → u.width ≤ u16 c 8 → u.height ≤ u16 c 0xA → u.width ≤ 8192 → u.height ≤ 8192 →
    0 < u.width → 0 < u.height → (r.tgt (u8 c 1)).flags = [] →
    Ends .rasClear s (fun t =>
      let g := ((t.rasOf j).getD r).tgt (u8 c 1)
      RasBecame s t j { r with pos := r.pos + 16, targets := modAt r.targets (u8 c 1) (fun _ => g) } ∧
      g = { r.tgt (u8 c 1) with value := BitVec.ofNat 32 (u32 c 0xC), flags := g.flags, touched := g.touched } ∧
      (∀ x < u.width, ∀ y < u.height, g.flags.contains (1024 * (y / 16) + x / 16) = true ∧
        g.touched.contains (1024 * (y / 16) + x / 16) = false))) ∧
  (∀ (s : State) (j : CruJob) (r : RasterSt) (c : List Byte), s.rasAt j r c 0x0B → u8 c 2 = 0 → u8 c 3 = 0 →
    Ends .rasClear s (fun t =>
      (4 < u8 c 1 → RasFaulted s t j r 2) ∧
      (u8 c 1 < 4 → (r.tgt (u8 c 1)).handle = 0 → RasFaulted s t j r 5))) ∧
  (∀ (s : State) (j : CruJob) (r : RasterSt) (c : List Byte), s.rasAt j r c 1 → s.Owes j.slice j.seq →
    (List.range 15).all (fun k => u8 c (k + 1) == 0) = true →
    Ends .rasEnd s (fun t => t.job j.slice j.seq = none ∧ (∀ b ∈ t.cru.bundles, ¬ (b.slice = j.slice ∧ b.seq = j.seq)) ∧
      t.entrySt j.slice j.seq = some .done ∧ SlotIs s t j.slice j.seq S_DONE ((j.quanta + 1) % 2 ^ 32) ∧
      (t.slice j.slice).surfaces = ((s.flushTargets j.slice r).slice j.slice).surfaces))

/-- R21, R381-R384, R390, R393, R397: the boundary of a quantum, the dispatch of workgroups and shading bundles, a stalled core. -/
def Obligations.DispatchAndQuanta : Prop :=
  (∀ (s : State), s.safe = true → s.cruRuns = true → s.cru.turn < s.nSlices → s.cru.jobs.all (fun j =>
      j.slice != s.cru.turn || u32 j.pl (if j.ras.isSome then 0x1C else 0x14) == 0 ||
      decide (j.quanta + 1 < u32 j.pl (if j.ras.isSome then 0x1C else 0x14))) = true →
    let n := s.cru.turn
    let ran := s.cru.used || s.cru.jobs.any (fun j => j.slice == n)
    Ends (.quantumBoundary 0 0) s (fun t =>
      t = { s.modSlice n (fun x => { x with quanta := if ran then x.quanta + 1 else x.quanta }) with
        cru := { s.cru with turn := (n + 1) % s.nSlices, used := false, saves := t.cru.saves
                            jobs := s.cru.jobs.map (fun j => if j.slice = n then { j with quanta := j.quanta + 1 } else j) } } ∧
      t.cru.saves.filter (fun e => e.1 != n) = s.cru.saves.filter (fun e => e.1 != n) ∧
      ∀ c < s.nCores, s.cru.failed.getLsbD c = false →
        t.cru.saves.any (fun e => e.1 == n && e.2.1 == c && (e.2.2.take 8 == leBytes 1 n ++ leBytes 1 1 ++
          leBytes 2 (s.cru.bundles.filter (fun b => b.slice == n && b.core == c)).length ++
          leBytes 2 (s.cru.wgs.filter (fun g => g.slice == n && g.core == c)).length ++ leBytes 2 0)) = true)) ∧
  (∀ (s : State) (j : CruJob), s.cruRuns = true → s.Owes j.slice j.seq → s.cru.turn = j.slice → s.cru.jobs = [j] →
    u32 j.pl (if j.ras.isSome then 0x1C else 0x14) ≠ 0 → u32 j.pl (if j.ras.isSome then 0x1C else 0x14) ≤ j.quanta + 1 →
    Ends (.quantumBoundary 0 0) s (fun t => t.cru.jobs = [] ∧ t.entrySt j.slice j.seq = some .done ∧
      (((s.slice j.slice).entry j.seq).bind (·.slot)).any (fun k =>
        ((t.slice j.slice).slot k).status == BitVec.ofNat 16 0x8103) = true)) ∧
  (∀ (s : State) (bad : BitVec 48), s.safe = true → s.cruRuns = true → s.cru.jobs = [] → s.cru.turn < s.nSlices →
    Ends (.quantumBoundary bad 0) s (fun t =>
      (∀ c < 48, t.cru.failed.getLsbD c = (s.cru.failed.getLsbD c || (bad.getLsbD c && decide (c < s.nCores)))) ∧
      t.cru.turn = (s.cru.turn + 1) % s.nSlices ∧ t.cru.bundles = s.cru.bundles ∧
      (∀ c < s.nCores, bad.getLsbD c = true → s.cru.failed.getLsbD c = false → Logs s t 8 false))) ∧
  (∀ (s : State) (c : Fin 48) (b : Bundle) (j : CruJob), s.safe = true → s.pick c.val = some b → c.val < s.nCores → s.cru.failed.getLsbD c.val = false →
    s.cru.jobs = [j] → j.slice = b.slice → j.seq = b.seq → j.ras = none → b ∈ s.cru.bundles → b.core = c.val →
    Ends (.issueStall c) s (fun t => t.cru.failed = s.cru.failed ||| BitVec.ofNat 48 (2 ^ c.val) ∧ Logs s t 8 false ∧
      t.cru.jobs = [{ j with next := 0 }] ∧ (∀ x ∈ t.cru.bundles, ¬ (x.slice = j.slice ∧ x.seq = j.seq)) ∧
      (∀ g ∈ t.cru.wgs, ¬ (g.slice = j.slice ∧ g.seq = j.seq)))) ∧
  (∀ (s : State) (j : CruJob) (regs c o : Nat), s.safe = true → s.cruRuns = true → s.shadingWaits = false → s.waitingJob = some j → s.job j.slice j.seq = some j →
    s.cru.old = [] → s.header j (u32 j.pl 4) 0 8 = some regs → c < s.nCores → s.cru.failed.getLsbD c = false →
    (∀ d < s.nCores, s.cru.failed.getLsbD d = false →
      (s.bundlesFit j.slice d (ceilDiv (u16 j.pl 0xE) 16) regs = true ∧ (s.scratchUsed j.slice d).length < 64 ∧
        (s.scratchFit (s.scratchUsed j.slice d) (u16 j.pl 0x10)).isSome = true) → c ≤ d) →
    s.bundlesFit j.slice c (ceilDiv (u16 j.pl 0xE) 16) regs = true → (s.scratchUsed j.slice c).length < 64 →
    s.scratchFit (s.scratchUsed j.slice c) (u16 j.pl 0x10) = some o →
    let x := j.next % u16 j.pl 8
    let y := j.next / u16 j.pl 8 % u16 j.pl 0xA
    let z := j.next / (u16 j.pl 8 * u16 j.pl 0xA)
    let k := ceilDiv (u16 j.pl 0xE) 16
    Ends .workgroupDispatch s (fun t =>
      t = { s with fresh := t.fresh, cru := { s.cru with wgs := t.cru.wgs, bundles := t.cru.bundles, jobs := t.cru.jobs } } ∧
      (t.job j.slice j.seq).map (·.next) = some (j.next + 1) ∧
      t.cru.wgs.take s.cru.wgs.length = s.cru.wgs ∧ t.cru.wgs.drop s.cru.wgs.length =
        [⟨j.slice, j.seq, j.next, x, y, z, c, o, u16 j.pl 0x10, s.fresh, [], 0, 0, false⟩] ∧
      t.cru.bundles.take s.cru.bundles.length = s.cru.bundles ∧ (s.newBundles t).length = k ∧
      ((s.newBundles t).zipIdx.all (fun e => e.1.core == c && e.1.regs == regs &&
        e.1.startsAs j 0 j.next e.2 (u32 j.pl 4) (min 16 (u16 j.pl 0xE - 16 * e.2)) (fun l =>
          [BitVec.ofNat 32 (16 * e.2 + l), BitVec.ofNat 32 x, BitVec.ofNat 32 y, BitVec.ofNat 32 z]))) = true)) ∧
  (∀ (s : State) (j : CruJob), s.cruRuns = true → s.shadingWaits = false → s.waitingJob = some j → s.Owes j.slice j.seq →
    Ends .workgroupDispatch s (fun t =>
      (s.header j (u32 j.pl 4) 0 8 = none → t.job j.slice j.seq = none ∧
        SlotIs s t j.slice j.seq 0x8104 (0x30 + 3 * 2 ^ 8 + u32 j.pl 4 * 2 ^ 32)) ∧
      (∀ regs ∈ s.header j (u32 j.pl 4) 0 8, 64 < ceilDiv (u16 j.pl 0xE) 16 ∨ 32768 / s.nSlices < 16 * regs * ceilDiv (u16 j.pl 0xE) 16 →
        t.job j.slice j.seq = none ∧ SlotIs s t j.slice j.seq 0x8104 (0x31 + 3 * 2 ^ 8 + u32 j.pl 4 * 2 ^ 32)))) ∧
  (∀ (s : State) (j : CruJob) (r : RasterSt) (h : Shaders) (d : Draw) (regs c : Nat), s.safe = true → s.rasterJob = some (j, r) → r.sh = some h →
    r.draw = some d → d.quads = [] → d.next < d.count → s.header j h.vs 1 (4 + h.vary) = some regs →
    16 * regs + 16 * (s.header j h.fs 2 (max (4 + h.vary) (if h.flags.testBit 0 then 17 else 16))).getD 0 ≤ 32768 / s.nSlices →
    s.healthyCores.find? (fun c => s.bundlesFit j.slice c 1 regs) = some c →
    Ends .shadingDispatch s (fun t =>
      t = { s with fresh := t.fresh, cru := { s.cru with bundles := t.cru.bundles, jobs := t.cru.jobs } } ∧
      t.cru.bundles.take s.cru.bundles.length = s.cru.bundles ∧ (s.newBundles t).length = 1 ∧
      (s.newBundles t).all (fun b => b.core == c && b.startsAs j 1 0 d.next h.vs (min 16 (d.count - d.next)) (fun l =>
        [BitVec.ofNat 32 (if d.index = 0 then d.first + d.next + l else
            ((s.jobSurf j 0).map (fun u => leNat (u.read (d.ioff + 2 * d.index * (d.next + l)) (2 * d.index)))).getD 0),
         r.vOff, r.vStride, h.const])) = true ∧
      t.cru.jobs = s.cru.jobs.map (fun x => if x.slice = j.slice ∧ x.seq = j.seq then
        { x with ras := some { r with draw := some { d with next := d.next + min 16 (d.count - d.next) } } } else x))) ∧
  (∀ (s : State) (j : CruJob) (r : RasterSt) (h : Shaders) (d : Draw) (q : List Frag) (qs : List (List Frag)) (f : Frag) (regs c : Nat), s.safe = true →
    s.rasterJob = some (j, r) → r.sh = some h → r.draw = some d → d.quads = q :: qs → q.head? = some f → q.length ≤ 16 →
    s.header j h.fs 2 (max (4 + h.vary) (if h.flags.testBit 0 then 17 else 16)) = some regs →
    (let half := s.healthyCores.filter (fun c => c % 2 == (f.x / 16 + f.y / 16) % 2)
     (if half = [] then s.healthyCores else half).find? (fun c => s.bundlesFit j.slice c 1 regs) = some c) →
    Ends .shadingDispatch s (fun t =>
      t = { s with fresh := t.fresh, cru := { s.cru with bundles := t.cru.bundles, jobs := t.cru.jobs } } ∧
      t.cru.bundles.take s.cru.bundles.length = s.cru.bundles ∧ (s.newBundles t).length = 1 ∧
      (s.newBundles t).all (fun b => b.core == c && b.px == q && b.startsAs j 2 0 0 h.fs q.length (fun l =>
        let g := q.getD l f
        [BitVec.ofNat 32 g.x, BitVec.ofNat 32 g.y, BitVec.ofNat 32 g.z, h.const] ++ g.vary.map (BitVec.ofNat 32))) = true ∧
      t.cru.jobs = s.cru.jobs.map (fun x => if x.slice = j.slice ∧ x.seq = j.seq then
        { x with ras := some { r with draw := some { d with quads := qs } } } else x)))
/-! ## Memory -/

/-- R465, R468-R470, R472, R474, R475, R478-R483, R488, R490: requests, credits, scheduling, self-refresh, refresh, retraining, scrub. -/
def Obligations.DramRows : Prop :=
  (∀ (s : State) (q : DramReq) (now : Nat), s.safe = true → q.chan.val < s.nDrc → s.fwPasses q = false →
    Ends (.dramRequest q now) s (fun t => t.reg R.DRC_FW_REF = min (2 ^ 32 - 1) (s.reg R.DRC_FW_REF + 1) ∧ t.dram = s.dram ∧
      RegsBut [R.DRC_FW_REF] s t ∧ Logs s t 10 false ∧ (q.write = false → t.out.head? = some .dramPoison))) ∧
  (∀ (s : State) (q : DramReq) (now : Nat), s.safe = true → q.chan.val < s.nDrc → s.fwPasses q = true → s.drcAwake → 3 ≤ q.port.val →
    s.dram.waiting.all (fun w => w.chan != q.chan) = true →
    Ends (.dramRequest q now) s (fun t =>
      if s.dram.credits.getD q.port.val 0 = 0 then t = { s with dram := { s.dram with waiting := s.dram.waiting ++ [q] } }
      else t = { s with dram := { s.dram with credits := t.dram.credits, rows := t.dram.rows } } ∧
        t.dram.credits.getD q.port.val 0 + 1 = s.dram.credits.getD q.port.val 0 ∧
        (∀ p < 21, p ≠ q.port.val → t.dram.credits.getD p 0 = s.dram.credits.getD p 0) ∧
        t.openRow q.chan.val q.bank.val = some q.row)) ∧
  (∀ (s : State) (q : DramReq) (now : Nat), s.safe = true → q.chan.val < s.nDrc → s.fwPasses q = true → s.drcAwake →
    (s.dram.waiting ++ [q]).any (fun w => w.chan == q.chan && w.port.val != 20 && decide (0 < s.dram.credits.getD w.port.val 0)) = true →
    Ends (.dramRequest q now) s (fun t => ∃ p ∈ s.dram.waiting ++ [q], t.dram.waiting = (s.dram.waiting ++ [q]).erase p ∧
      p.chan = q.chan ∧ p.port.val ≠ 20 ∧ 0 < s.dram.credits.getD p.port.val 0 ∧
      ∀ w ∈ s.dram.waiting ++ [q], w.chan = q.chan → w.port.val ≠ 20 → 0 < s.dram.credits.getD w.port.val 0 →
        s.urgency w now ≤ s.urgency p now ∧
        (s.urgency w now = s.urgency p now → s.openRow w.chan.val w.bank.val = some w.row → s.openRow p.chan.val p.bank.val = some p.row))) ∧
  (∀ (s : State) (q : DramReq) (now : Nat), s.safe = true → q.chan.val < s.nDrc → s.fwPasses q = true → s.flag R.DRC_STAT 1 = false →
    s.flag R.DRC_STAT 2 = true →
    Ends (.dramRequest q now) s (fun t => t.flag R.DRC_STAT 2 = false ∧ t.flag R.DRC_STAT 1 = false ∧
      t.fld R.DRC_SR_STAT 16 16 = (s.fld R.DRC_SR_STAT 16 16 + 1) % 2 ^ 16)) ∧
  (∀ (s : State) (q : DramReq) (now : Nat), s.safe = true → q.chan.val < s.nDrc → s.fwPasses q = true → s.flag R.DRC_STAT 1 = true →
    s.flag R.DRC_STAT 2 = false →
    Ends (.dramRequest q now) s (fun t => t = { s with dram := { s.dram with waiting := s.dram.waiting ++ [q] } })) ∧
  (∀ (s : State), s.safe = true → s.flag R.DRC_CFG 14 = false →
    let cap := s.fld R.DRC_CFG 0 13 * (32 * s.nDrc) / 640
    let g := cap - s.fld R.DRC_RSV0 0 16 - s.fld R.DRC_RSV0 16 16 - s.fld R.DRC_RSV1 0 16 - s.fld R.DRC_RSV1 16 16
    Ends .accountingWindow s (fun t => t = { s with dram := { s.dram with credits := t.dram.credits } } ∧
      t.dram.credits = [s.fld R.DRC_RSV0 0 16, s.fld R.DRC_RSV0 16 16, s.fld R.DRC_RSV1 0 16, s.fld R.DRC_RSV1 16 16] ++
        (List.range 16).map (fun k => if k < s.nSlices then g / s.nSlices else 0) ++ [125])) ∧
  (∀ (s : State) (done : Bool), s.safe = true → s.drcAwake → s.flag R.DRC_SR_CFG 16 = true → s.dram.waiting = [] →
    Ends (.srIdleExpire done) s (fun t => RegsOnly [R.DRC_STAT, R.DRC_SR_STAT] s t ∧ t.flag R.DRC_STAT 1 = done ∧
      t.flag R.DRC_STAT 2 = !done ∧ t.fld R.DRC_SR_STAT 0 16 = (s.fld R.DRC_SR_STAT 0 16 + b2n done) % 2 ^ 16)) ∧
  (∀ (s : State), s.safe = true → s.flag R.DRC_STAT 1 = true → s.dram.waiting = [] → s.dram.deferred = [] →
    Ends .srExit s (fun t => RegsOnly [R.DRC_STAT] s t ∧ FieldSet R.DRC_STAT 1 1 0 s t)) ∧
  (∀ (s : State) (ch rate : Fin 4) (c : Nat), s.safe = true → ch.val < s.nDrc → s.dram.mr4.length = 4 → s.dram.temp.length = 4 →
    Ends (.mr4Poll ch rate c) s (fun t => t.dram.mr4.getD ch.val 9 = rate.val ∧ t.dram.temp.getD ch.val 0 = c ∧
      t.dram = { s.dram with mr4 := t.dram.mr4, temp := t.dram.temp } ∧ (rate.val = 3 → Logs s t 10 false) ∧
      (rate.val ≠ 3 → t = { s with dram := t.dram }))) ∧
  (∀ (s : State) (ch : Fin 4) (bank : Fin 32) (now : Nat), s.safe = true → ch.val < s.nDrc →
    let urgent := s.dram.waiting.any (fun q => q.chan == ch && q.bank == bank && decide (2 ≤ s.urgency q now))
    Ends (.refreshDue ch bank now) s (fun t => t = { s with dram := { s.dram with postponed := t.dram.postponed, rows := t.dram.rows } } ∧
      (urgent = true → s.dram.postponedOf ch.val bank.val < 8 →
        t.dram.postponedOf ch.val bank.val = s.dram.postponedOf ch.val bank.val + 1 ∧ t.dram.rows = s.dram.rows) ∧
      (urgent = false ∨ 8 ≤ s.dram.postponedOf ch.val bank.val →
        t.dram.postponedOf ch.val bank.val = 0 ∧ t.openRow ch.val bank.val = none))) ∧
  (∀ (s : State) (ch : Fin 4) (ps : Nat) (neg : Bool), s.safe = true → ch.val < s.nDrc → s.flag R.DRC_RT_CFG 24 = true → ch.val < s.dram.drift.length →
    Ends (.drcRetrain ch ps neg) s (fun t =>
      (s.drcAwake → s.fld R.DRC_RT_CFG 16 8 < ps →
        t.dram.drift.getD ch.val 0 = s.dram.drift.getD ch.val 0 + (if neg then -(ps : Int) else ps) ∧
        t.fld R.DRC_STAT 16 16 = (s.fld R.DRC_STAT 16 16 + 1) % 2 ^ 16 ∧ RegsBut [R.DRC_STAT] s t) ∧
      (s.drcAwake → ps ≤ s.fld R.DRC_RT_CFG 16 8 → t = s) ∧
      ((s.flag R.DRC_STAT 1 = true ∨ s.flag R.DRC_STAT 2 = true) →
        t = { s with dram := { s.dram with deferred := s.dram.deferred ++ [(ch.val, ps, neg)] } }))) ∧
  (∀ (s : State) (ch : Fin 4) (r : EccResult) (addr : DWord), s.safe = true → ch.val < s.nDrc → s.flag R.DRC_CFG 14 = true →
    Ends (.dramScrubRead ch r addr) s (fun t =>
      (r = .clean → t = s) ∧
      (r = .dataBit ∨ r = .checkBit → t.reg R.DRC_ECC_CE = min (2 ^ 32 - 1) (s.reg R.DRC_ECC_CE + 1) ∧ RegsBut [R.DRC_ECC_CE] s t ∧
        Logs s t (if r = .dataBit then 1 else 0) false) ∧
      (r = .uncorrectable → t.reg R.DRC_ECC_UE = min (2 ^ 32 - 1) (s.reg R.DRC_ECC_UE + 1) ∧
        t.reg R.DRC_ECC_ADDR_LO + 2 ^ 32 * t.reg R.DRC_ECC_ADDR_HI = addr.toNat ∧ Logs s t 2 false))) ∧
  (∀ (s : State) (a : Access) (m : Nat), s.regReach a R.DRC_CTRL → s.sysMaster a.req = some m → a.data.toNat < 16 →
    let cur := s.fld R.DRC_STAT 3 3
    let p := a.data.toNat / 2 % 8
    let ok := [(1, 2, 1), (1, 5, 1), (2, 3, 1), (2, 3, 2), (5, 3, 1), (5, 3, 2), (3, 4, 1), (3, 4, 2), (4, 3, 1), (4, 3, 2)].contains (cur, p, m)
    Ends (.drcPhaseWrite a) s (fun t => t.flag R.DRC_CTRL 0 = a.data.toNat.testBit 0 ∧
      (ok = true → t.fld R.DRC_STAT 3 3 = p ∧ t.fld R.DRC_CTRL 1 3 = p ∧ RegsBut [R.DRC_CTRL, R.DRC_STAT] s t) ∧
      (p = cur → t.fld R.DRC_STAT 3 3 = cur ∧ RegsBut [R.DRC_CTRL, R.DRC_STAT] s t) ∧
      (ok = false → p ≠ cur → t.fld R.DRC_STAT 3 3 = cur ∧ t.flag R.SLG_ACC 1 = true)))

/-- R487, R496-R502: Temper helpers, the background memory test, and the raw debug access to Hearth RAM. -/
def Obligations.TemperAndMemoryTestRows : Prop :=
  TemperRow .temperIdle 0 ∧ TemperRow .temperWrite 1 ∧ TemperRow .temperReadCmp 2 ∧ TemperRow .temperMpcRd 3 ∧
  TemperRow .temperCbt 4 ∧ TemperRow .temperLevel 5 ∧
  (∀ (s : State) (fails : Half) (bits : Word), s.safe = true → s.flag R.DRC_T_STAT 0 = true →
    Ends (.temperOpDone fails bits) s (fun t => t.reg R.DRC_T_STAT = 2 ^ 16 * fails.toNat ∧ RegsOnly [R.DRC_T_STAT, R.DRC_T_FAIL] s t ∧
      (s.fld R.DRC_T_CTRL 0 3 = 5 → FieldSet R.DRC_T_FAIL 0 4 (bits.toNat % 16) s t) ∧
      (s.fld R.DRC_T_CTRL 0 3 ≠ 5 → t.reg R.DRC_T_FAIL = (s.reg R.DRC_T_FAIL ||| bits.toNat)))) ∧
  (∀ (s : State) (mem : Fin 3) (core : Fin 48) (bank : Fin 8), s.safe = true → s.flag R.HRT_MT_CFG (16 + mem.val) = true → (mem.val ≠ 1 ∨ core.val < s.nCores) →
    s.memtest.length = 3 →
    let p := s.testPos mem.val
    let last := decide (p.bank + 1 ≥ (windowsOf mem.val).1 ∧ p.window + 1 ≥ (windowsOf mem.val).2)
    Ends (.memtestWindow mem core bank .pass) s (fun t => t.testIs mem.val (windowAfter mem.val p) ∧
      (∀ k < 3, k ≠ mem.val → t.testPos k = s.testPos k) ∧
      t.fld R.HRT_MT_PASS (8 * mem.val) 8 = (s.fld R.HRT_MT_PASS (8 * mem.val) 8 + b2n last) % 256 ∧
      (mem.val = 0 → t.flag R.HRT_MT_STAT 0 = false) ∧ RegsBut [R.HRT_MT_PASS, R.HRT_MT_STAT] s t)) ∧
  (∀ (s : State) (mem : Fin 3) (core : Fin 48) (bank : Fin 8), s.safe = true → s.flag R.HRT_MT_CFG (16 + mem.val) = true → (mem.val ≠ 1 ∨ core.val < s.nCores) →
    s.memtest.length = 3 →
    let p := s.testPos mem.val
    Ends (.memtestWindow mem core bank .fail) s (fun t => t.testIs mem.val (windowAfter mem.val p) ∧ t.flag R.HRT_MT_STAT (1 + mem.val) = true ∧
      t.fld R.HRT_MT_STAT 24 8 = min 255 (s.fld R.HRT_MT_STAT 24 8 + 1) ∧ Logs s t 12 (mem.val == 0) ∧
      t.fld R.HRT_MT_FAIL 0 2 = mem.val ∧ t.fld R.HRT_MT_FAIL 2 6 = (if mem.val = 1 then core.val else 0) ∧
      (p.bank < 8 → t.fld R.HRT_MT_FAIL 8 6 = (if mem.val = 0 then 0 else if mem.val = 1 then p.bank else 8 * p.bank + bank.val)) ∧
      (p.window < 2 ^ 16 → p.bank < 8 → t.fld R.HRT_MT_FAIL 16 16 = p.window))) ∧
  (∀ (s : State) (mem : Fin 3) (core : Fin 48) (bank : Fin 8), s.safe = true → s.flag R.HRT_MT_CFG (16 + mem.val) = true → (mem.val ≠ 1 ∨ core.val < s.nCores) →
    s.memtest.length = 3 →
    let p := s.testPos mem.val
    Ends (.memtestWindow mem core bank .preempt) s (fun t =>
      t.fld R.HRT_MT_STAT 8 8 = min 255 (s.fld R.HRT_MT_STAT 8 8 + 1) ∧
      (p.preempts < 15 → t.testIs mem.val { p with borrowed := false, preempts := p.preempts + 1 } ∧
        t.fld R.HRT_MT_STAT 16 8 = s.fld R.HRT_MT_STAT 16 8) ∧
      (15 ≤ p.preempts → t.testIs mem.val (windowAfter mem.val p) ∧
        t.fld R.HRT_MT_STAT 16 8 = min 255 (s.fld R.HRT_MT_STAT 16 8 + 1)))) ∧
  (∀ (s : State) (mem : Fin 3) (core : Fin 48) (bank : Fin 8), s.safe = true → s.flag R.HRT_MT_CFG (16 + mem.val) = true → (mem.val ≠ 1 ∨ core.val < s.nCores) →
    s.memtest.length = 3 →
    Ends (.memtestWindow mem core bank .running) s (fun t => t.testIs mem.val { s.testPos mem.val with borrowed := true } ∧
      (mem.val = 0 → t.flag R.HRT_MT_STAT 0 = true) ∧ RegsBut [R.HRT_MT_STAT] s t)) ∧
  (∀ (s : State) (mem : Fin 3), s.safe = true → s.memtest.length = 3 → (s.testPos mem.val).borrowed = true → (s.testPos mem.val).preempts < 15 →
    Ends (.memtestBorrowTimeout mem) s (fun t => t.fld R.HRT_MT_STAT 8 8 = min 255 (s.fld R.HRT_MT_STAT 8 8 + 1) ∧
      t.testIs mem.val { s.testPos mem.val with borrowed := false, preempts := (s.testPos mem.val).preempts + 1 })) ∧
  (∀ (s : State) (w : Fin 32768) (wr : Bool) (p : PortA), s.safe = true →
    Ends (.jtagRawAccess w wr p) s (fun t =>
      (p = .write → t.flag R.HRT_DPR_STAT 24 = true ∧ t.fld R.HRT_DPR_STAT 12 12 = min 4095 (s.fld R.HRT_DPR_STAT 12 12 + 1) ∧
        RegsBut [R.HRT_DPR_STAT] s t) ∧
      (p ≠ .write → wr = false → t.regs = s.regs ∧ t.slag = s.slag) ∧
      (p = .read → wr = true → t.fld R.HRT_DPR_STAT 0 12 = min 4095 (s.fld R.HRT_DPR_STAT 0 12 + 1)) ∧
      (p ≠ .write → wr = true → Logs s t 23 false) ∧
      (wr = false → t.out.head?.any (fun o => match o with | .readData _ => true | _ => false) = true)))
/-! ## Touch and haptics -/

/-- R507, R508, R510-R515, R517-R521: scans, presses and releases, baselines, the follower, faults, and the scan rate. -/
def Obligations.TouchRows : Prop :=
  (∀ (s : State) (g : Fin 8) (raws : List Half), s.safe = true → s.scanned g.val → raws.length = 12 →
    let opt := s.reg (banked R.TCH_GRP_OPT g.val)
    let min := opt / 2 ^ 16
    Ends (.touchScan g raws) s (fun t => (t.tg g.val).scans = (s.tg g.val).scans + 1 ∧
      (∀ e < 12, let x := (s.tg g.val).el e; let y := (t.tg g.val).el e; let r := (raws.getD e 0).toNat
        (x.kind = 0 ∨ x.faulty = true → y = x) ∧
        (x.kind ≠ 0 → x.faulty = false → y.raw = r ∧ y.delta = (r : Int) - x.base ∧ y.base = x.base ∧
          y.openRun = (if r < min then x.openRun + 1 else 0) ∧ y.shortRun = (if r = 0xFFFF then x.shortRun + 1 else 0) ∧
          y.negRun = (if x.acq = none ∧ min ≤ r ∧ (r : Int) - x.base < -((s.tg g.val).neg : Int) then x.negRun + 1 else 0) ∧
          (∀ l ∈ x.acq, y.acq = some (if l.length < 16 then l ++ [r] else l)))) ∧
      (∀ c < 12, s.keyAt g.val c → ((s.tg g.val).el c).acq = none →
        let d := ((t.tg g.val).el c).delta
        let wins := fun k => decide (((t.tg g.val).el k).kind = 1 ∧ k ≠ c ∧ (d < ((t.tg g.val).el k).delta ∨ (d = ((t.tg g.val).el k).delta ∧ k < c)))
        let sup := !((s.tg g.val).ctl c).pressed &&
          ((opt % 4 == 1 && (List.range 12).any (fun k => (k + 1 == c || k == c + 1) && wins k)) ||
           (opt % 4 == 2 && (List.range 12).any (fun k => wins k || (((s.tg g.val).el k).kind == 1 && ((s.tg g.val).ctl k).pressed))))
        ((t.tg g.val).ctl c).pressRun = (if sup = false ∧ ((s.tg g.val).th : Int) ≤ d then ((s.tg g.val).ctl c).pressRun + 1 else 0) ∧
        ((t.tg g.val).ctl c).relRun = (if sup = true ∨ d < ((s.tg g.val).rel : Int) then ((s.tg g.val).ctl c).relRun + 1 else 0)) ∧
      ((∃ e < 12, ((s.tg g.val).el e).kind ≠ 0 ∧ ((s.tg g.val).el e).faulty = false ∧ ((s.tg g.val).el e).acq = none ∧
        ((s.tg g.val).th : Int) ≤ ((t.tg g.val).el e).delta) → t.fld R.TCH_GSTAT 0 3 = 0) ∧
      RegsBut [R.TCH_GSTAT, banked R.TCH_SLG g.val] s t)) ∧
  (∀ (s : State) (g : Fin 8) (c : Fin 12), s.safe = true → s.scanned g.val → s.keyAt g.val c.val → ((s.tg g.val).ctl c.val).pressed = false →
    (s.tg g.val).debounce ≤ ((s.tg g.val).ctl c.val).pressRun → (s.tg g.val).haptic = none →
    Ends (.touchPress g c) s (fun t => ((t.tg g.val).ctl c.val).pressed = true ∧ (t.tg g.val).els = (s.tg g.val).els ∧
      reported s t g.val (s.touchReport g.val c.val 1 0 0 ((s.tg g.val).el c.val).delta) = true ∧
      (s.flag (banked R.TCH_GRP_OPT g.val) 2 = false → t.power = s.power))) ∧
  (∀ (s : State) (g ch : Fin 8) (c : Fin 12) (e edge : Nat), s.safe = true → s.scanned g.val → s.keyAt g.val c.val →
    ((s.tg g.val).ctl c.val).pressed = false → (s.tg g.val).debounce ≤ ((s.tg g.val).ctl c.val).pressRun →
    (s.tg g.val).haptic = some ch.val → (s.tg g.val).binds = [⟨c.val, e, edge⟩] → edge % 2 = 1 →
    (s.hap ch.val).st = .idle → (s.hap ch.val).stopping = false →
    Ends (.touchPress g c) s (fun t => HapBecame s t ch.val { s.hap ch.val with st := .boot, cur := some ⟨e, 255, none⟩ } ∧
      ((t.tg g.val).ctl c.val).pressed = true ∧
      reported s t g.val (s.touchReport g.val c.val 1 4 0 ((s.tg g.val).el c.val).delta) = true)) ∧
  (∀ (s : State) (g : Fin 8) (c : Fin 12), s.safe = true → s.scanned g.val → s.keyAt g.val c.val → ((s.tg g.val).ctl c.val).pressed = true →
    (s.tg g.val).debounce ≤ ((s.tg g.val).ctl c.val).relRun → (s.tg g.val).haptic = none →
    Ends (.touchRelease g c) s (fun t => (t.tg g.val).ctl c.val = TouchCtl.reset ∧ (t.tg g.val).els = (s.tg g.val).els ∧
      reported s t g.val (s.touchReport g.val c.val 2 0 0 ((s.tg g.val).el c.val).delta) = true)) ∧
  (∀ (s : State) (g : Fin 8) (e : Fin 12) (l : List Nat), s.safe = true → s.scanned g.val → (s.tg g.val).enabling = none →
    ((s.tg g.val).el e.val).acq = some l → l.length = 16 → (∀ k < 12, k ≠ e.val → ((s.tg g.val).el k).acq = none) →
    let base := (l.foldl (· + ·) 0 + 8) / 16
    let x := (s.tg g.val).el e.val
    let ref := s.fld (R.TCH_REF ((12 * g.val + e.val) / 2)) (16 * ((12 * g.val + e.val) % 2)) 16
    let sus := decide (ref ≠ 0 ∧ ref + (s.tg g.val).th < base ∧ (x.atEnable = true ∨ x.suspect = true))
    Ends (.touchBaselineDone g) s (fun t =>
      (t.tg g.val).els = (s.tg g.val).els.set e.val { x with acq := none, atEnable := false, base := base, suspect := sus, delta := (x.raw : Int) - base } ∧
      reported s t g.val (s.touchReport g.val e.val 4 (2 * b2n sus) base ((x.raw : Int) - base)) = true)) ∧
  (∀ (s : State) (g : Fin 8) (n : Nat) (q : Word), s.scanned g.val → (s.tg g.val).enabling = some (n, q) → s.Owes n q → 16 ≤ (s.tg g.val).scans →
    (∀ k < 12, ((s.tg g.val).el k).acq = none) →
    Ends (.touchBaselineDone g) s (fun t => (t.tg g.val).enabling = none ∧ t.entrySt n q = some .done ∧
      SlotIs s t n q S_DONE ((List.range 12).foldl (fun m k => m + 2 ^ k * b2n ((s.tg g.val).el k).suspect) 0))) ∧
  (∀ (s : State) (g : Fin 8), s.safe = true → s.scanned g.val → max 1 (s.fld (banked R.TCH_GRP_OPT g.val) 8 8) ≤ (s.tg g.val).follow →
    (s.tg g.val).anyPressed = false → (∀ k < 12, ((s.tg g.val).el k).acq = none) →
    Ends (.touchFollow g) s (fun t => (t.tg g.val).follow = 0 ∧ t = { s with touch := t.touch } ∧
      ∀ e < 12, let x := (s.tg g.val).el e
        (t.tg g.val).el e = if x.kind ≠ 0 ∧ x.faulty = false ∧ -((s.tg g.val).neg : Int) < x.delta ∧ x.delta < ((s.tg g.val).th : Int)
          then { x with base := if x.base < x.raw then x.base + 1 else if x.raw < x.base then x.base - 1 else x.base } else x)) ∧
  (∀ (s : State) (g : Fin 8), s.safe = true → s.scanned g.val → (s.tg g.val).anyPressed = true → max 1 (s.fld (banked R.TCH_GRP_OPT g.val) 8 8) ≤ (s.tg g.val).follow →
    Ends (.touchFollow g) s (fun t => (t.tg g.val).els = (s.tg g.val).els ∧ t = { s with touch := t.touch })) ∧
  (∀ (s : State) (g : Fin 8) (e : Fin 12), s.safe = true → s.scanned g.val → 8 ≤ ((s.tg g.val).el e.val).negRun →
    Ends (.touchNegReacq g e) s (fun t => FieldSet (banked R.TCH_SLG g.val) 4 1 1 s t ∧ RegsBut [banked R.TCH_SLG g.val] s t ∧
      (t.tg g.val).els = (s.tg g.val).els.set e.val { (s.tg g.val).el e.val with acq := some [], atEnable := false, negRun := 0 })) ∧
  (∀ (s : State) (g : Fin 8) (c : Fin 12), s.safe = true → s.scanned g.val → s.keyAt g.val c.val → ((s.tg g.val).ctl c.val).pressed = true →
    ((s.tg g.val).ctl c.val).relRun < (s.tg g.val).debounce → (s.tg g.val).haptic = none →
    Ends (.touchStuck g c) s (fun t => ((t.tg g.val).ctl c.val).pressed = false ∧ t.flag (banked R.TCH_SLG g.val) 0 = true ∧ Logs s t 21 false ∧
      ((t.tg g.val).el c.val).acq = some [] ∧
      reported s t g.val (s.touchReport g.val c.val 2 1 0 ((s.tg g.val).el c.val).delta) = true)) ∧
  (∀ (s : State) (g : Fin 8) (e : Fin 12), s.safe = true → s.scanned g.val → s.keyAt g.val e.val →
    (8 ≤ ((s.tg g.val).el e.val).openRun ∨ 8 ≤ ((s.tg g.val).el e.val).shortRun) →
    let short := decide (8 ≤ ((s.tg g.val).el e.val).shortRun)
    let was := ((s.tg g.val).ctl e.val).pressed
    Ends (.touchElectrodeFault g e) s (fun t => ((t.tg g.val).el e.val).faulty = true ∧ ((t.tg g.val).el e.val).short = short ∧
      t.flag (banked R.TCH_SLG g.val) (if short then 2 else 1) = true ∧ Logs s t 21 false ∧ ((t.tg g.val).ctl e.val).pressed = false ∧
      reported s t g.val (s.touchReport g.val e.val (if was then 2 else 5) (if was then 0x10 else 0) 0 ((s.tg g.val).el e.val).delta) = true)) ∧
  (∀ (s : State), s.safe = true → s.power.st = 0 → s.fld R.TCH_GSTAT 0 3 < 4 → s.fld R.TCH_RATE (8 * s.fld R.TCH_GSTAT 0 3) 8 ≠ 0 →
    (∀ g < s.nOut, (s.tg g).enabled = true → (s.tg g).els.all (fun x => x.kind == 0 || decide (x.delta < (s.tg g).th)) = true) →
    Ends .touchRateStep s (fun t => RegsOnly [R.TCH_GSTAT] s t ∧ FieldSet R.TCH_GSTAT 0 3 (s.fld R.TCH_GSTAT 0 3 + 1) s t))

/-- R528-R535, R537: rest check, sense windows, segments, gaps and braking of a haptic channel, and its faults. -/
def Obligations.HapticRows : Prop :=
  (∀ (s : State) (n : Fin 8) (x : BitVec 12) (h : HapTrig), s.safe = true → s.pair.role = .solo → (s.hap n.val).st = .boot →
    (s.hap n.val).cur = some h → x ≠ 0 → x ≠ 4095 →
    let off := decide ((x.toNat : Int) - 2048 < -256 ∨ 256 < (x.toNat : Int) - 2048)
    Ends (.hapBootDone n x) s (fun t => HapBecame s t n.val { s.hap n.val with
        st := .play, segs := effectSegs h.effect, half := 0, level := 255 - 32 * (h.effect % 8), gapBrake := false, wins := 0, openRun := 0, brakeRun := 0 } ∧
      t.flag (banked R.HAP_STAT n.val) 8 = (s.flag (banked R.HAP_STAT n.val) 8 || off) ∧ (off = true → Logs s t 21 false) ∧
      (off = false → t = { s with haps := t.haps }))) ∧
  (∀ (s : State) (n : Fin 8) (x : BitVec 12), s.safe = true → s.pair.role = .solo → s.pair.completions = [] → (s.hap n.val).st = .boot →
    (x = 0 ∨ x = 4095) → (s.hap n.val).stopping = false →
    Ends (.hapBootDone n x) s (fun t => (t.hap n.val).st = .fault ∧ (t.hap n.val).cur = none ∧ (t.hap n.val).next = none ∧
      t.flag (banked R.HAP_STAT n.val) 4 = true ∧ Logs s t 21 false ∧
      ((s.hap n.val).next = none → ∀ h ∈ (s.hap n.val).cur, PlayEnds s t h.src S_DONE (2 * 2 ^ 32)))) ∧
  (∀ (s : State) (n : Fin 8) (s0 s1 s2 s3 : BitVec 12) (rising : Bool), s.safe = true → s.pair.role = .solo →
    ((s.hap n.val).st = .play ∨ (s.hap n.val).st = .brake) → [s0, s1, s2, s3].all (fun x => x != 0 && x != 4095) = true →
    let a := (s0.toNat : Int) - 2048
    let b := (s3.toNat : Int) - 2048
    let e := if (a < 0 ∧ 0 ≤ b) ∨ (0 ≤ a ∧ b < 0) then -1500 + (3000 * a).tdiv (a - b)
      else if 0 < a * (if rising then 1 else -1) then 1500 else -1500
    let old := s.fld (banked R.HAP_FREQ n.val) 0 20
    let lo := s.tMin n.val
    let hi := s.tMax n.val
    let v := (max (lo : Int) (min hi (old + e.tdiv 4))).toNat
    let r := (b - a).natAbs * (v / 100) * 100 / 9425
    let braking := (s.hap n.val).st == .brake || (s.hap n.val).gapBrake
    Ends (.hapSenseWindow n s0 s1 s2 s3 rising) s (fun t => RegsOnly [banked R.HAP_FREQ n.val] { s with haps := t.haps } t ∧
      (lo ≤ hi → t.fld (banked R.HAP_FREQ n.val) 0 20 = v ∧ t.fld (banked R.HAP_FREQ n.val) 20 10 = (2 * 50000000 + v) / (2 * v) % 1024 ∧
      HapBecame s t n.val { s.hap n.val with
        resid := r, half := (s.hap n.val).half + 1
        clampRun := if v = lo ∨ v = hi then (s.hap n.val).clampRun + 1 else 0
        brakeRun := if braking = true ∧ r < s.fld (banked R.HAP_TIM n.val) 0 12 then (s.hap n.val).brakeRun + 1 else 0
        wins := if braking then (s.hap n.val).wins else (s.hap n.val).wins + 1
        openRun := if braking = false ∧ 2 ≤ (s.hap n.val).wins ∧ r < s.fld (banked R.HAP_LIM n.val) 16 12 then (s.hap n.val).openRun + 1 else 0 }))) ∧
  (∀ (s : State) (n : Fin 8), s.safe = true → s.pair.role = .solo → s.pair.completions = [] → (s.hap n.val).st = .play → 4 ≤ (s.hap n.val).openRun →
    (s.hap n.val).stopping = false →
    Ends (.hapOpenFault n) s (fun t => (t.hap n.val).st = .fault ∧ t.flag (banked R.HAP_STAT n.val) 5 = true ∧ Logs s t 21 false)) ∧
  (∀ (s : State) (n : Fin 8), s.safe = true → 8 ≤ (s.hap n.val).clampRun →
    Ends (.hapUnlock n) s (fun t => t.flag (banked R.HAP_STAT n.val) 6 = true ∧ Logs s t 21 false ∧
      HapBecame s t n.val { s.hap n.val with clampRun := 0 } ∧ RegsBut [banked R.HAP_STAT n.val] s t)) ∧
  (∀ (s : State) (n : Fin 8) (d : HapSeg) (r : List HapSeg), s.safe = true → (s.hap n.val).st = .play → (s.hap n.val).gapBrake = false →
    (s.hap n.val).segs = d :: r → (match d with | .gap _ => false | _ => true) = true →
    Ends (.hapSegmentEnd n) s (fun t => t = { s with haps := t.haps } ∧
      HapBecame s t n.val (match r with
        | [] => { s.hap n.val with st := .brake, segs := [], brakeRun := 0 }
        | .gap _ :: _ => { s.hap n.val with segs := r, gapBrake := true, brakeRun := 0, half := 0 }
        | _ => { s.hap n.val with segs := r, half := 0 }))) ∧
  (∀ (s : State) (n : Fin 8) (ms : Nat) (r : List HapSeg), s.safe = true → (s.hap n.val).st = .play → (s.hap n.val).segs = .gap ms :: r →
    Ends (.hapGapEnd n) s (fun t => t = { s with haps := t.haps } ∧
      HapBecame s t n.val { s.hap n.val with segs := r, gapBrake := false, half := 0 })) ∧
  (∀ (s : State) (n : Fin 8) (h : HapTrig), s.safe = true → s.pair.role = .solo → s.pair.completions = [] → (s.hap n.val).st = .brake →
    2 ≤ (s.hap n.val).brakeRun → (s.hap n.val).cur = some h → (s.hap n.val).stopping = false →
    Ends (.hapBrakeEnd n) s (fun t =>
      t.fld (banked R.HAP_CNT n.val) 0 16 = (s.fld (banked R.HAP_CNT n.val) 0 16 + 1) % 2 ^ 16 ∧
      PlayEnds s t h.src S_DONE (s.fld (banked R.HAP_FREQ n.val) 20 10) ∧ (t.hap n.val).next = none ∧ (t.hap n.val).cur = (s.hap n.val).next ∧
      ((s.hap n.val).next = none → (t.hap n.val).st = .idle) ∧
      (∀ m ∈ (s.hap n.val).next, (t.hap n.val).st = .play ∧ (t.hap n.val).segs = effectSegs m.effect))) ∧
  (∀ (s : State) (n : Fin 8), s.safe = true → s.pair.role = .solo → s.pair.completions = [] → (s.hap n.val).st = .brake →
    (s.hap n.val).next = none → (s.hap n.val).stopping = true →
    Ends (.hapBrakeTimeout n) s (fun t => t.flag (banked R.HAP_STAT n.val) 7 = true ∧ (t.hap n.val).st = .off ∧ (t.hap n.val).cur = none)) ∧
  (∀ (s : State) (n : Fin 8), s.safe = true → (s.hap n.val).st = .play → (s.hap n.val).gapBrake = true →
    Ends (.hapBrakeTimeout n) s (fun t => FieldSet (banked R.HAP_STAT n.val) 7 1 1 s t ∧
      HapBecame s t n.val { s.hap n.val with gapBrake := false } ∧ t = { s with regs := t.regs, haps := t.haps }))
/-! ## Audio -/

/-- R542-R549, R552, R553: one period of the mixer, the TDM frames, the end of ramps, and a change of a TDM mapping. -/
def Obligations.AudioMixerRows : Prop :=
  (∀ (s : State) (pins : AudioPins) (now : DWord), s.safe = true → s.pair.role = .solo → s.audioPath = true →
    s.reg R.AUD_PDM_CFG % 256 = 0 → s.aud.streams = [] → s.net.avtp = [] → (∀ p < 4, s.player p = ⟨none, none⟩) →
    (∀ p < 4, s.flag (R.AUD_TDM_CFG p) 2 = false) → (s.aud.xp.map (·.1)).Nodup →
    Ends (.audSample pins [] now) s (fun t => ∀ j < 16,
      let o := s.aud.out j
      let v := s.aud.mixed (s.tdmRaw pins) j
      let l := limitStep o.limit o.attackUs o.releaseMs o.env v
      (t.aud.out j).line.head? = some l.2 ∧ (t.aud.out j).env = l.1 ∧
      (t.aud.out j).gain.q = o.gain.q ∧ (t.aud.out j).limit = o.limit ∧ (t.aud.out j).delay = o.delay ∧ (t.aud.out j).map = o.map)) ∧
  (∀ (s : State) (pins : AudioPins) (now : DWord), s.safe = true → s.pair.role = .solo → s.audioPath = true →
    s.reg R.AUD_PDM_CFG % 256 = 0 → s.aud.streams = [] → s.net.avtp = [] → (∀ p < 4, s.player p = ⟨none, none⟩) →
    (∀ p < 4, s.flag (R.AUD_TDM_CFG p) 2 = false ∧ s.aud.tdmDrop.getD p 0 = 0) → s.flag R.AUD_STAT 1 = false →
    (∀ j < 16, (s.aud.out j).delay = 0 ∧ (s.aud.out j).mapGain = Gain.unity) →
    Ends (.audSample pins [] now) s (fun t => ∀ p < 4, s.flag (R.AUD_TDM_CFG p) 0 = true →
      t.out.contains (.tdm p (tdmSlotsOf s.aud p (s.fld (R.AUD_TDM_CFG p) 3 4 + 1) (tdmWidth (s.fld (R.AUD_TDM_CFG p) 7 2))
        (fun j => (t.aud.out j).line.headD 0))) = true ∧
      (∀ k ≤ s.fld (R.AUD_TDM_CFG p) 3 4, ∀ i < 16, ∀ j < 16, i ≠ j →
        (s.aud.out i).map.toNat % 4 = p → (s.aud.out i).map.toNat.testBit (16 + k) = true →
        (s.aud.out j).map.toNat % 4 = p → (s.aud.out j).map.toNat.testBit (16 + k) = true → t.flag R.AUD_STAT 2 = true))) ∧
  (∀ (s : State), s.safe = true → s.pair.role = .solo → s.pair.completions = [] →
    Ends .audRampEnd s (fun t =>
      (∀ i < 32, t.aud.inGain.getD i Gain.unity = (s.aud.inGain.getD i Gain.unity).afterRamp) ∧
      (∀ j < 16, (t.aud.out j).gain = (s.aud.out j).gain.afterRamp ∧ (t.aud.out j).duck = (s.aud.out j).duck.afterRamp ∧
        t.flag R.AUD_DUCK_STAT j = (s.flag R.AUD_DUCK_STAT j && !((s.aud.out j).duck.ramp.any (fun r => decide (r.n < r.k)) && !s.aud.safetyOn j))) ∧
      ((s.aud.xp.map (·.1)).Nodup → ∀ k < 512, t.aud.cross k = (s.aud.cross k).afterRamp) ∧
      t.aud.players = s.aud.players ∧ RegsBut [R.AUD_DUCK_STAT] s t)) ∧
  (∀ (s : State) (i : Fin 32) (r : GainRamp) (n : Nat) (q : Word), s.Owes n q → (s.aud.inGain.getD i.val Gain.unity).ramp = some r → r.n < r.k →
    r.next = none → r.src = some (n, q) →
    Ends .audRampEnd s (fun t => t.entrySt n q = some .done)) ∧
  (∀ (s : State) (j : Fin 16) (m : Word), s.safe = true → (s.aud.out j.val).mapGain.ramp.any (fun r => r.toOff && decide (r.n < r.k) && r.next.isNone) = true →
    (s.aud.out j.val).mapNext = some m →
    Ends .audRampEnd s (fun t => (t.aud.out j.val).map = m ∧ (t.aud.out j.val).mapNext = none ∧
      (t.aud.out j.val).mapGain.ramp.any (fun r => !r.toOff && r.q1 == 0 && r.k == 0 && r.n == s.routeRamp) = true)) ∧
  (∀ (s : State) (j : Fin 16) (a : Access), s.regReach a (R.AUD_OUT_MAP j.val) → (s.aud.out j.val).mapGain = Gain.unity → s.aud.safetyOn j.val = false →
    let w := a.data.toNat &&& 0xFFFF0003
    Ends (.audOutMapWrite j a) s (fun t => t.reg (R.AUD_OUT_MAP j.val) = w ∧
      RegsBut [R.AUD_OUT_MAP j.val, R.SLG_ACC, R.SLG_ACC_ADDR] s t ∧
      (s.reg (R.AUD_OUT_MAP j.val) = w → t.aud = s.aud) ∧
      (s.reg (R.AUD_OUT_MAP j.val) ≠ w → (t.aud.out j.val).map = (s.aud.out j.val).map ∧
        (t.aud.out j.val).mapNext = some (BitVec.ofNat 32 w) ∧
        (t.aud.out j.val).mapGain.ramp = some ⟨0, -24576, s.routeRamp, 0, true, none, none⟩)))

/-- R552, R554-R559: chime players and ducking, TDM slips, ring positions, AVTP packets, and the audio PLL. -/
def Obligations.AudioEventRows : Prop :=
  (∀ (s : State) (p : Fin 4) (c : Chime), s.safe = true → s.pair.role = .solo → s.pair.completions = [] → s.audioPath = true → s.quiet →
    s.player p.val = ⟨some c, none⟩ → c.started = 0 → c.stop = false → c.fault = false → s.alone p.val →
    Ends .chimeBlock s (fun t => t.player p.val = ⟨some { c with started := 1 }, none⟩ ∧ t.slices = s.slices ∧
      ∀ j < 16, c.safety = true → c.outs.testBit j = true → t.flag R.AUD_DUCK_STAT j = true ∧
        (t.aud.out j).duck.ramp.any (fun r => r.q1 == sgn 16 (s.fld R.AUD_DUCK 0 16) && r.n == 48 * max 1 (s.fld R.AUD_DUCK 16 8) && !r.toOff) = true)) ∧
  (∀ (s : State) (p : Fin 4) (c : Chime) (n : Nat) (q : Word), s.Owes n q → s.audioPath = true → s.quiet → s.player p.val = ⟨some c, none⟩ →
    c.src = some (n, q) → c.fault = false → s.alone p.val →
    (c.stop = true ∨ c.started ≠ 0 ∧ c.times ≠ 0 ∧ c.times ≤ c.started ∧ (chimeTimes (c.num / 8)).1 * 48 ≤ c.pos) →
    Ends .chimeBlock s (fun t => t.player p.val = ⟨none, none⟩ ∧ t.entrySt n q = some .done ∧ SlotIs s t n q S_DONE c.started)) ∧
  (∀ (s : State) (p : Fin 4) (c d : Chime) (n : Nat) (q : Word), s.Owes n q → s.audioPath = true → s.quiet → s.player p.val = ⟨some c, some d⟩ →
    c.src = some (n, q) → c.fault = false → d.fault = false → d.stop = false → s.alone p.val →
    Ends .chimeBlock s (fun t => t.player p.val = ⟨some { d with started := 1 }, none⟩ ∧
      SlotIs s t n q S_DONE (c.started + 2 ^ 32))) ∧
  (∀ (s : State) (p : Fin 4) (again : Bool), s.flag (R.AUD_TDM_CFG p.val) 0 = true → s.flag (R.AUD_TDM_CFG p.val) 1 = false → s.safe = true →
    p.val < s.aud.tdmDrop.length →
    Ends (.tdmSlip p again) s (fun t => t.flag R.AUD_STAT 5 = true ∧ Logs s t 21 false ∧ RegsBut [R.AUD_STAT] s t ∧
      t.fld R.AUD_STAT 16 16 = min 65535 (s.fld R.AUD_STAT 16 16 + 1) ∧
      (again = true → s.pair.role = .solo → s.audioPath = true → t.out.head? = some (.tdm p.val (s.aud.lastTdm.getD p.val []))) ∧
      (again = false → t.aud.tdmDrop.getD p.val 0 = s.aud.tdmDrop.getD p.val 0 + 1))) ∧
  (∀ (s : State) (i : Fin 16) (w : Word) (g : GuestStream) (p : Nat) (id : BitVec 20), s.safe = true → s.pair.role = .solo →
    s.aud.streams = [g] → g.first = i.val → 48 ≤ g.count → (s.slice g.slice).binding = .pcie p id → s.portRuns g.slice = true → (s.port p).held = [] →
    Ends (.audStreamPos i w) s (fun t => t.aud.streams = [{ g with count := g.count - 48 }] ∧
      t.out.head? = some (.hostWrite p id g.posAddr (leBytes 4 g.off)) ∧ t.regs = s.regs)) ∧
  (∀ (s : State), s.safe = true →
    Ends .audPllLock s (fun t => RegsOnly [R.AUD_STAT] s t ∧ FieldSet R.AUD_STAT 0 1 1 s t)) ∧
  (∀ (s : State), s.safe = true → s.flag R.AUD_STAT 0 = true →
    Ends .audPllUnlock s (fun t => FieldSet R.AUD_STAT 0 1 0 s t ∧ RegsBut [R.AUD_STAT] s t ∧ t.aud = s.aud ∧ Logs s t 13 false)) ∧
  (∀ (s : State) (p : Fin 4) (stream pres now : DWord) (frames : List (List Word)) (a : AvtpStream), s.safe = true → s.pair.role = .solo →
    s.ethOn p.val = true → s.net.avtp = [a] → a.streamId = stream.toNat → a.listener = true → a.port = p.val → frames.length ≤ 6 →
    frames.all (fun f => f.length == a.channels) = true →
    let w := fmtWidth a.format
    let queued := frames.zipIdx.map (fun e =>
      (pres.toNat + e.2 * 62500 / 3, e.1.map (fun v => sgn w (v.toNat % 2 ^ w) * 2 ^ (32 - w))))
    Ends (.avtpPacketRx p stream pres now frames) s (fun t =>
      (pres.toNat < now.toNat → t.net.avtp = s.net.avtp ∧ t.flag R.AUD_STAT 4 = true ∧ Logs s t 21 false) ∧
      (now.toNat ≤ pres.toNat → t = { s with net := { s.net with avtp := [{ a with frames := a.frames ++ queued }] } }))) ∧
  (∀ (s : State) (stream : DWord) (a : AvtpStream) (f : Nat × List Int), s.safe = true → s.pair.role = .solo → s.net.avtp = [a] → a.streamId = stream.toNat →
    a.listener = false → 6 ≤ a.frames.length → a.frames.head? = some f →
    Ends (.avtpPacketTx stream) s (fun t => t.net = { s.net with avtp := [{ a with frames := a.frames.drop 6 }] } ∧ t.regs = s.regs ∧
      (s.ethOn a.port = true → t.out = .avtp a.port a.streamId a.destMac a.vlan a.format (f.1 + 1000 * a.presUs)
        ((a.frames.take 6).map (fun g => g.2.map (toWidth (fmtWidth a.format)))) :: s.out)))
/-! ## Host interfaces, network, mailboxes and locks -/

/-- R566-R570, R584, R590, R706: resets and holds of a PCIe port, failed reads, and MSI-X. -/
def Obligations.PcieRows : Prop :=
  (∀ (s : State) (p : Fin 2), s.safe = true → (p.val = 0 ∨ s.boot.bond = false) →
    Ends (.pcieFlr p) s (fun t => (t.port p.val).agrees (s.port p.val).cleared = true ∧ (t.port (1 - p.val)).agrees (s.port (1 - p.val)) = true ∧ Logs s t 19 false ∧
      (t.port p.val).holds = true ∧ t.slices = s.slices ∧ RegsBut [R.LCK_FORCED] s t ∧
      (s.sysPort p.val = true → HostLost s t) ∧ (s.sysPort p.val = false → t.locks = s.locks ∧ t.chans = s.chans))) ∧
  (∀ (s : State) (p : Fin 2) (c : HoldCause), s.safe = true → (p.val = 0 ∨ s.boot.bond = false) →
    let q := s.port p.val
    Ends (.pcieHoldStart p c) s (fun t => (t.port (1 - p.val)).agrees (s.port (1 - p.val)) = true ∧
      (c = .linkDown → (t.port p.val).agrees { q with linkUp := false, width := 0, speed := 0 } = true) ∧
      (c = .busMasterOff → (t.port p.val).agrees { q with bme := false } = true) ∧
      (c = .pasidOff → (t.port p.val).agrees { q with pasidEn := false } = true) ∧
      (c = .d3hot → (t.port p.val).agrees { q with d3 := true } = true) ∧
      ((c = .linkDown ∨ c = .d3hot) → s.sysPort p.val = true → HostLost s t) ∧
      (c = .busMasterOff ∨ c = .pasidOff ∨ s.sysPort p.val = false → t = { s with ports := t.ports }))) ∧
  (∀ (s : State) (p : Fin 2) (c : HoldCause) (w : Fin 16) (v : Fin 8), s.safe = true → (p.val = 0 ∨ s.boot.bond = false) →
    let q := s.port p.val
    let r : PciPort := match c with
      | .linkDown => { q with linkUp := true, width := w.val, speed := v.val }
      | .busMasterOff => { q with bme := true }
      | .pasidOff => { q with pasidEn := true }
      | .d3hot => { q with d3 := false }
    Ends (.pcieHoldEnd p c w v) s (fun t =>
      ((!r.linkUp || !r.bme || !r.pasidEn || r.d3) = true → t = { s with ports := s.ports.set p.val r }) ∧
      ((!r.linkUp || !r.bme || !r.pasidEn || r.d3) = false → (t.port p.val).held = [] ∧
        q.held.all (fun m => match m with | .mem id a d => t.out.contains (.hostWrite p.val id a d) | _ => true) = true))) ∧
  (∀ (s : State) (p : Fin 2), s.safe = true → (p.val = 0 ∨ s.boot.bond = false) →
    Ends (.pciePerst p) s (fun t => (t.port p.val).agrees { (s.port p.val).cleared with linkUp := false, width := 0, speed := 0 } = true ∧
      (t.port (1 - p.val)).agrees (s.port (1 - p.val)) = true ∧
      (s.sysPort p.val = true → HostLost s t) ∧ (s.sysPort p.val = false → t = { s with ports := t.ports }))) ∧
  CplRow .pcieCplError ∧ CplRow .pcieCplTimeout ∧
  (∀ (s : State) (n : Fin 16), s.safe = true →
    Ends (.fetchRetry n) s (fun t => t.slice n.val = { s.slice n.val with fetchRetry := false } ∧ t = { s with slices := t.slices })) ∧
  (∀ (s : State) (p : Fin 2) (e : Fin 64), s.safe = true →
    let x := (s.port p.val).msix.getD e.val MsixEntry.reset
    let live := (s.slice (e.val / 4)).binding.isPcie && (s.slice (e.val / 4)).binding.portId.1 == p.val
    Ends (.msixUnmask p e) s (fun t =>
      ((x.pend = false ∨ live = false) → t = { s with ports := t.ports } ∧
        t.port p.val = { s.port p.val with msix := (s.port p.val).msix.set e.val { x with masked := false } }) ∧
      (x.pend = true → live = true → ((t.port p.val).msix.getD e.val MsixEntry.reset).pend = false ∧
        ((s.port p.val).holds = false → (s.port p.val).held = [] →
          t.out = .msi p.val (BitVec.ofNat 64 (x.addrLo.toNat + 2 ^ 32 * x.addrHi.toNat)) x.data :: s.out))))

/-- R571-R573, R576, R578-R580, R144: frames, ARP and echo, gPTP, links, gate lists and the MDIO bus. -/
def Obligations.NetworkRows : Prop :=
  (∀ (s : State) (p : Fin 4) (f : EthFrame), s.safe = true → s.ethOn p.val = true → f.kind ≠ .gptp →
    Ends (.ethFrameRx p f) s (fun t =>
      (f.kind = .unsupported ∨ 9018 < f.len ∨ s.vlanEntry f.vlan.toNat = none → Dropped s t) ∧
      ((s.vlanEntry f.vlan.toNat).any (fun k => !(s.fld (R.NET_VLAN k) 12 4).testBit p.val) = true → Dropped s t))) ∧
  (∀ (s : State) (p : Fin 4) (f : EthFrame) (k : Nat), s.safe = true → s.ethOn p.val = true → f.kind = .plain → f.len ≤ 9018 → s.vlanEntry f.vlan.toNat = some k →
    (s.fld (R.NET_VLAN k) 12 4).testBit p.val = true → f.dst.toNat ≠ s.netMac → s.net.fwd.length < 1024 →
    s.flag (R.NET_VLAN k) 16 = false ∨ f.dst.toNat / 2 ^ 40 % 2 = 0 →
    let goesTo := fun q => decide (q < s.nEth) && (s.fld (R.NET_VLAN k) 12 4).testBit q && q != p.val && s.ethOn q
    let known := s.net.fwd.find? (fun e => e.mac == f.dst && e.vlan == f.vlan)
    Ends (.ethFrameRx p f) s (fun t => t.regs = s.regs ∧
      (t.net.fwd.find? (fun e => e.mac == f.src && e.vlan == f.vlan)).map (·.port) = some p.val ∧
      (f.dst ≠ f.src → (∀ q < 4,
        t.out.contains (.eth q (s.fld R.NET_PCP_MAP (3 * f.pcp.toNat) 3) f) =
          (s.out.contains (.eth q (s.fld R.NET_PCP_MAP (3 * f.pcp.toNat) 3) f) || (goesTo q &&
            (f.dst.toNat / 2 ^ 40 % 2 == 1 || known.all (fun e => e.port == q)))))))) ∧
  (∀ (s : State) (p : Fin 4) (v : BitVec 12) (x ip : Word) (mac : BitVec 48) (k : Nat), s.safe = true → s.ethOn p.val = true →
    s.flag R.NET_CFG 0 = true → x.toNat = s.reg R.NET_IP → s.vlanEntry v.toNat = some k → s.flag (R.NET_VLAN k) 16 = true →
    (s.fld (R.NET_VLAN k) 12 4).testBit p.val = true → p.val < s.nEth →
    Ends (.arpRequest p v x mac ip) s (fun t => t = { s with out := .arpReply p.val v mac ip x :: s.out })) ∧
  (∀ (s : State) (p : Fin 4) (v : BitVec 12) (x ip : Word) (mac : BitVec 48) (data : List Byte) (k : Nat), s.safe = true → s.ethOn p.val = true →
    s.flag R.NET_CFG 0 = true → x.toNat = s.reg R.NET_IP → s.vlanEntry v.toNat = some k → s.flag (R.NET_VLAN k) 16 = true →
    (s.fld (R.NET_VLAN k) 12 4).testBit p.val = true → p.val < s.nEth →
    Ends (.icmpEcho p v x mac ip data) s (fun t => t = { s with out := .echoReply p.val v mac ip data :: s.out })) ∧
  (∀ (s : State) (p : Fin 4) (now : DWord) (o : Word), s.safe = true → s.flag R.NET_PTP_CFG 0 = true → s.ethOn p.val = true → s.flag (R.NET_P_CFG p.val) 3 = true →
    s.pair.role = .solo →
    let far := o.toInt.natAbs
    let run := if far ≤ 100 then min 16 (s.net.goodSyncs + 1) else 0
    Ends (.gptpSync p now o) s (fun t => t.net = { s.net with goodSyncs := run, time := now.toNat } ∧ t.reg R.NET_PTP_OFFSET = o.toNat ∧
      t.flag R.NET_PTP_STAT 1 = false ∧ t.fld R.NET_PTP_STAT 2 3 = p.val ∧
      t.flag R.NET_PTP_STAT 0 = (run == 16 || (s.flag R.NET_PTP_STAT 0 && decide (far ≤ 1000))) ∧
      (s.flag R.NET_PTP_STAT 0 = true → 1000 < far → Logs s t 20 false))) ∧
  (∀ (s : State) (gm : Bool), s.safe = true → s.flag R.NET_PTP_CFG 0 = true → s.flag R.NET_PTP_STAT 1 = false →
    Ends (.gptpSyncTimeout gm) s (fun t => t.net = { s.net with goodSyncs := 0 } ∧ t.flag R.NET_PTP_STAT 0 = gm ∧ t.flag R.NET_PTP_STAT 1 = gm ∧
      (s.flag R.NET_PTP_STAT 0 = true → Logs s t 20 false))) ∧
  (∀ (s : State) (p : Fin 4) (r : Fin 5), s.safe = true → s.ethOn p.val = true →
    let units := [0, 10000, 25000, 50000, 100000].getD r.val 0
    let sum := fun tc => ((s.net.avtp.filter (fun e => !e.listener && e.port == p.val && e.tc == tc)).map (·.rsv)).foldl (· + ·) 0
    let breach := decide (r.val ≠ 0 ∧ (s.fld (R.NET_P_CBS p.val) 0 10 * units / 1000 < sum 3 ∨ s.fld (R.NET_P_CBS p.val) 16 10 * units / 1000 < sum 2))
    Ends (.ethLinkChange p r) s (fun t => t.flag (R.NET_P_STAT p.val) 0 = (r.val != 0) ∧ t.fld (R.NET_P_STAT p.val) 1 3 = r.val ∧
      t.flag (R.NET_P_STAT p.val) 4 = (s.flag (R.NET_P_STAT p.val) 4 || breach) ∧ RegsBut [R.NET_P_STAT p.val] s t ∧ t.net = s.net ∧
      (breach = true → Logs s t 20 false))) ∧
  (∀ (s : State) (p : Fin 4) (now : DWord) (l : GateList), s.safe = true → p.val < s.nEth → (s.net.gates.getD p.val ⟨none, none⟩).loaded = some l →
    Ends (.gateCycleStart p now) s (fun t =>
      t = if l.base ≤ now.toNat then { s with net := { s.net with gates := s.net.gates.set p.val ⟨some l, none⟩ } } else s)) ∧
  MdioRow .mdioC22Read 0 none ∧ MdioRow .mdioC22Write 1 none ∧ MdioRow .mdioC45Address 2 (some false) ∧
  MdioRow .mdioC45Write 2 (some true) ∧ MdioRow .mdioC45Read 3 none ∧
  (∀ (s : State) (v : BitVec 16), s.safe = true → s.flag R.NET_MDIO 29 = true →
    Ends (.mdioDone v) s (fun t => RegsOnly [R.NET_MDIO] s t ∧ t.flag R.NET_MDIO 29 = false ∧
      t.fld R.NET_MDIO 0 16 = (if s.fld R.NET_MDIO 26 2 = 0 ∨ s.fld R.NET_MDIO 26 2 = 3 then v.toNat else s.fld R.NET_MDIO 0 16)))

/-- R582: what ACQ, TRY, REL and CANCEL do to a lock, and LCK_k_STAT, which reads 0 exactly for the holder. -/
def Obligations.LocksByRegister : Prop :=
  (∀ (s : State) (k : Fin 64) (m : Nat), s.safe = true → m ∉ (s.lock k.val).waiting → (s.lock k.val).holder.id.all (· < 256) = true →
    (s.view m (R.LCK_STAT k.val) = 0 ↔ (s.lock k.val).holder.id = some m)) ∧
  LockRow .lckAcq acqLock ∧ LockRow .lckTry tryLock ∧ LockRow .lckCancel cancelLock ∧
  (∀ (s : State) (k : Fin 64) (a : Access) (m : Nat), s.regReach a (R.LCK_REQ k.val) → s.sysMaster a.req = some m → s.lockMaster m = true →
    a.data.toNat < 4 → m ∉ (s.lock k.val).waiting →
    let l := s.lock k.val
    Ends (.lckRel k a) s (fun t =>
      (l.holder = .master m → (t.lock k.val).holder ≠ .master m ∧ t = { s with locks := s.locks.set k.val (t.lock k.val) } ∧
        (l.waiting = [] → t.lock k.val = { l with holder := .none })) ∧
      (l.holder ≠ .master m → t.locks = s.locks ∧ t.reg R.LCK_BADREL = min (2 ^ 32 - 1) (s.reg R.LCK_BADREL + 1) ∧ Logs s t 23 false)))

/-- R583, R586-R591: to whom a freed lock passes (the place of the strands that still wait is the model's choice, log entry 59), and
messages and doorbells of mailbox channels. -/
def Obligations.LockGrantsAndMailboxes : Prop :=
  (∀ (s : State) (k : Fin 64) (a : Access) (m : Nat), s.regReach a (R.LCK_REQ k.val) → s.sysMaster a.req = some m → s.lockMaster m = true →
    a.data.toNat < 4 →
    let l := s.lock k.val
    let next : Lock := ⟨(l.strands.map Holder.strand).headD .none, if l.strands.length = 1 then l.waiting.drop 1 else l.waiting.drop 1 ++ [3],
      l.strands.drop 1⟩
    Ends (.lckRel k a) s (fun t =>
      (l.holder = .master m → l.waiting = [] → t = { s with locks := s.locks.set k.val { l with holder := .none } }) ∧
      (l.holder = .master m → l.waiting ≠ [] → l.waiting.head? ≠ some 3 →
        t = { s with locks := s.locks.set k.val { l with holder := .master (l.waiting.headD 0), waiting := l.waiting.drop 1 } }) ∧
      (l.holder = .master m → l.waiting.head? = some 3 → l.strands ≠ [] → t = { s with locks := s.locks.set k.val next }) ∧
      (l.holder ≠ .master m → t.locks = s.locks ∧ t.reg R.LCK_BADREL = min (2 ^ 32 - 1) (s.reg R.LCK_BADREL + 1) ∧ Logs s t 23 false))) ∧
  (∀ (s : State) (k : Fin 32) (a : Access) (m : Nat), s.regReach a (R.MBX_CH_TX k.val 3) → s.sysMaster a.req = some m → s.chOn k.val = true →
    s.chSender k.val = m → (s.chan k.val).rxReset = false → s.chReceiver k.val ≠ 4 →
    let c := s.chan k.val
    let news := fun (m : Nat) => if m ≤ 2 then [OutEv.mbxIrq m k.val] else []
    Ends (.mbxSend k a) s (fun t => t = { s with chans := t.chans, out := t.out } ∧
      (s.chBell k.val = true → t.chan k.val = { c with bell := c.bell ||| a.data } ∧
        t.out = (if c.bell ||| a.data = c.bell then [] else news (s.chReceiver k.val)) ++ s.out) ∧
      (s.chBell k.val = false → c.msgs.length < 8 → t.chan k.val = { c with msgs := c.msgs ++ [c.tx ++ [a.data]] } ∧
        t.out = (if c.dropped then news m else []) ++ (if c.msgs = [] then news (s.chReceiver k.val) else []) ++ s.out) ∧
      (s.chBell k.val = false → 8 ≤ c.msgs.length → t.chan k.val = { c with dropped := true } ∧ t.out = s.out))) ∧
  (∀ (s : State) (k : Fin 32) (a : Access) (m : Nat), s.regReach a (R.MBX_CH_TX k.val 3) → s.sysMaster a.req = some m → s.chOn k.val = true →
    Ends (.mbxSend k a) s (fun t =>
      (s.chSender k.val ≠ m → t = { s with chans := s.chans.set k.val { s.chan k.val with foreign := min 255 ((s.chan k.val).foreign + 1) } }) ∧
      (s.chSender k.val = m → (s.chan k.val).rxReset = true → t = { s with chans := s.chans.set k.val { s.chan k.val with aborted := true } }))) ∧
  (∀ (s : State) (k : Fin 32) (a : Access) (m : Nat), s.safe = true → s.served = true → a.be ≠ 0 → s.sysMaster a.req = some m → s.chOn k.val = true →
    let c := s.chan k.val
    Ends (.mbxReceive k a) s (fun t =>
      (s.chReceiver k.val = m → s.chBell k.val = true →
        t = { s with out := .readData c.bell :: s.out, chans := s.chans.set k.val { c with bell := 0 } }) ∧
      (s.chReceiver k.val = m → s.chBell k.val = false →
        t = { s with out := .readData ((c.msgs.headD []).getD 3 0) :: s.out, chans := s.chans.set k.val { c with msgs := c.msgs.drop 1 } }) ∧
      (s.chReceiver k.val ≠ m → t = { s with out := .readData 0 :: s.out }))) ∧
  (∀ (s : State) (a : Access), s.regReach a R.MBX_LOCK → a.data.toNat < 2 →
    Ends (.mbxLock a) s (fun t =>
      (s.mbxLockDone = false → t.reg R.MBX_LOCK = a.data.toNat ∧ t.mbxLockDone = true ∧ RegsBut [R.MBX_LOCK] s t) ∧
      (s.mbxLockDone = true → t.reg R.MBX_LOCK = s.reg R.MBX_LOCK ∧ t.flag R.SLG_ACC 1 = true)))
/-! ## Check units, configuration integrity and the register path -/

/-- R599-R601, R603, R615, R618, R621-R626, R30: check units fed by register, the open window, passes, SLG_ACC, the register path and
the snapshot. -/
def Obligations.CheckAndConfigurationRows : Prop :=
  (∀ (s : State) (k : Fin 8) (a : Access) (m : Nat), s.ownsUnit k.val a (R.CRC_U_CTRL k.val) m → a.data.toNat < 16 → a.data.getLsbD 2 = false →
    Ends (.crcStart k a) s (fun t => RegsOnly [R.CRC_U_CTRL k.val, R.CRC_U_RUN k.val, R.CRC_U_SEQ k.val] s t ∧
      FieldSet (R.CRC_U_CTRL k.val) 0 1 (a.data.toNat % 2) s t ∧
      t.reg (R.CRC_U_RUN k.val) = s.unitFold k.val (s.reg (R.CRC_U_INIT k.val) % 2 ^ (s.fld (R.CRC_U_CFG k.val) 0 5 + 1)) ∧
      t.reg (R.CRC_U_SEQ k.val) = s.unitSeq k.val)) ∧
  (∀ (s : State) (k : Fin 8) (a : Access) (m : Nat), s.ownsUnit k.val a (R.CRC_U_CTRL k.val) m → a.data.toNat < 16 → a.data.getLsbD 1 = false →
    Ends (.crcFold k a) s (fun t => RegsOnly [R.CRC_U_CTRL k.val, R.CRC_U_RUN k.val, R.CRC_U_SEQ k.val] s t ∧
      FieldSet (R.CRC_U_CTRL k.val) 0 1 (a.data.toNat % 2) s t ∧
      t.reg (R.CRC_U_RUN k.val) = s.unitFold k.val (s.reg (R.CRC_U_RUN k.val)) ∧ t.reg (R.CRC_U_SEQ k.val) = s.unitSeq k.val)) ∧
  (∀ (s : State) (k : Fin 8) (a : Access) (m : Nat), s.safe = true → s.served = true → a.be ≠ 0 → s.sysMaster a.req = some m →
    s.fld (R.CRC_U_OWNER k.val) 0 8 = m → s.flag (R.CRC_U_CTRL k.val) 3 = false →
    let fed := ((List.range 4).filter (fun i => a.be.getLsbD i)).map (fun i => BitVec.ofNat 8 (a.data.toNat / 2 ^ (8 * i)))
    Ends (.crcData k a) s (fun t =>
      (s.flag (R.CRC_U_CTRL k.val) 0 = true → s.flag R.CRC_STAT k.val = false → RegsOnly [R.CRC_U_RUN k.val] s t ∧
        t.reg (R.CRC_U_RUN k.val) = s.unitFeed k.val (s.reg (R.CRC_U_RUN k.val)) fed) ∧
      (s.flag (R.CRC_U_CTRL k.val) 0 = false ∨ s.flag R.CRC_STAT k.val = true → RegsOnly [R.CRC_U_STAT k.val] s t ∧
        FieldSet (R.CRC_U_STAT k.val) 0 1 1 s t))) ∧
  (∀ (s : State) (k : Fin 8) (a : Access) (m : Nat), s.safe = true → s.served = true → a.be = 15 → s.sysMaster a.req = some m →
    s.fld (R.CRC_U_OWNER k.val) 0 8 = m → s.flag (R.CRC_U_CTRL k.val) 3 = true →
    Ends (.crcData k a) s (fun t => RegsOnly [R.CRC_U_STAT k.val] s t ∧ FieldSet (R.CRC_U_STAT k.val) 1 1 1 s t)) ∧
  (∀ (s : State) (k : Fin 8) (a : Access) (m : Nat), s.safe = true → s.served = true → a.be = 15 → s.sysMaster a.req = some m →
    s.fld (R.CRC_U_OWNER k.val) 0 8 ≠ m → a.data.toNat < 16 →
    ∀ i ∈ [Instr.crcStart k a, .crcFold k a, .crcData k a], Ends i s (fun t => Counts (R.CRC_U_STAT k.val) 8 8 s t)) ∧
  (∀ (s : State) (a : Access), s.regReach a R.CFG_CTRL → a.data.toNat &&& 0xFFFFFFC8 = 0 → a.data.getLsbD 2 = false →
    let v := a.data.toNat
    Ends (.cfgOpen a) s (fun t => t.cfg = { s.cfg with opened := true } ∧ RegsBut [R.CFG_CTRL, R.SLG_ACC, R.SLG_ACC_ADDR] s t ∧
      t.fld R.CFG_CTRL 0 1 = v % 2 ∧ (s.flag R.CFG_CTRL 0 = true → t.fld R.CFG_CTRL 4 2 = s.fld R.CFG_CTRL 4 2 ∧ t.flag R.SLG_ACC 2 = true) ∧
      (s.flag R.CFG_CTRL 0 = false → t.fld R.CFG_CTRL 4 2 = (if v / 16 % 4 = 3 then 2 else v / 16 % 4)))) ∧
  (∀ (s : State) (a : Access), s.regReach a R.CFG_CTRL → a.data.toNat &&& 0xFFFFFFC8 = 0 →
    Ends (.cfgCommit a) s (fun t => t.cfg.opened = false ∧ RegsBut [R.CFG_CTRL, R.SLG_ACC, R.SLG_ACC_ADDR] s t ∧
      (∀ k ∈ allCovered, t.shadowOf k = t.cfgStored k) ∧
      (∀ b < 35, (t.cfg.refs.getD b 0).toNat = t.blockCheck b t.cfgStored ∧ t.cfg.gens.getD b 0 = s.cfg.gens.getD b 0 + 1))) ∧
  (∀ (s : State), s.safe = true →
    Ends .cfgOpenTimeout s (fun t => (s.cfg.opened = false → t = s) ∧
      (s.cfg.opened = true → t.cfg = { s.cfg with opened := false, openTo := true } ∧ t.regs = s.regs ∧ Logs s t 11 false))) ∧
  (∀ (s : State) (stuck bad : BitVec 35), s.safe = true → s.passesRun = true → bad = 0 → s.cfg.restore = [] →
    let crcs := (List.range 35).map (fun b => s.blockCheck b s.cfgStored)
    let wrong := (List.range 35).filter (fun b => crcs.getD b 0 != (s.cfg.refs.getD b 0).toNat)
    Ends (.cfgPass stuck bad) s (fun t => t.cfg.passes = (s.cfg.passes + 1) % 65536 ∧
      t.cfg.run.toNat = crc32cSpec (crcs.flatMap (fun w => leBytes 4 w)) ∧
      (∀ b < 35, t.cfg.mism.testBit b = wrong.contains b) ∧
      (wrong = [] → t = { s with cfg := { s.cfg with run := t.cfg.run, mism := 0, passes := t.cfg.passes } }) ∧
      (wrong ≠ [] → t.cfg.mismatch = true ∧ Logs s t 11 (s.fld R.CFG_CTRL 4 2 == 1) ∧
        (s.fld R.CFG_CTRL 4 2 < 2 → t.regs = s.regs) ∧
        (s.fld R.CFG_CTRL 4 2 = 2 → s.boot.knabyStopped = false → s.boot.knabyDown = true → t.regs = s.regs ∧ t.cfg.restore = wrong) ∧
        (s.fld R.CFG_CTRL 4 2 = 2 → s.boot.knabyStopped = false → s.boot.knabyDown = false → stuck = 0 → t.cfg.restored = true)))) ∧
  (∀ (s : State) (stuck bad : BitVec 35), s.safe = true → s.passesRun = false → Ends (.cfgPass stuck bad) s (fun t => t = s)) ∧
  (∀ (s : State), s.safe = true →
    Ends .cfgRestoreTimeout s (fun t => (s.cfg.restore = [] → t = s) ∧
      (s.cfg.restore ≠ [] → t.cfg = { s.cfg with restore := [] } ∧ t.regs = s.regs ∧ Logs s t 11 true))) ∧
  (∀ (s : State) (a : Access), s.regReach a R.SLG_ACC → a.data.toNat &&& 0xE0 = 0 →
    let left := s.fld R.SLG_ACC 0 5 &&& (31 ^^^ a.data.toNat % 32)
    Ends (.slgAccWrite a) s (fun t => RegsOnly [R.SLG_ACC, R.SLG_ACC_ADDR] s t ∧ t.fld R.SLG_ACC 0 5 = left ∧
      (left = 0 → s.fld R.SLG_ACC 0 5 ≠ 0 → t.reg R.SLG_ACC = 0 ∧ t.reg R.SLG_ACC_ADDR = 0) ∧
      (left ≠ 0 ∨ s.fld R.SLG_ACC 0 5 = 0 → t.fld R.SLG_ACC 5 27 = s.fld R.SLG_ACC 5 27 ∧ t.reg R.SLG_ACC_ADDR = s.reg R.SLG_ACC_ADDR))) ∧
  (∀ (s : State) (k : Fin 4) (a : Access), s.regReach a (R.DRC_T_PAT k.val) → s.boot.rstBlk = 0 →
    Ends (.registerWrite (BitVec.ofNat 26 (R.DRC_T_PAT k.val)) a) s (fun t => RegsOnly [R.DRC_T_PAT k.val] s t ∧
      t.reg (R.DRC_T_PAT k.val) = a.data.toNat)) ∧
  (∀ (s : State) (off : BitVec 26) (a : Access), s.safe = true → s.served = true → a.be ≠ 0 → s.boot.rstBlk = 0 → 0x100000 ≤ off.toNat →
    off.toNat % 4 = 0 →
    let refused := fun (t : State) (bit m : Nat) => RegsBut [R.SLG_ACC, R.SLG_ACC_ADDR] s t ∧ t.flag R.SLG_ACC bit = true ∧
      (s.fld R.SLG_ACC 0 5 = 0 → t.fld R.SLG_ACC 8 8 = m ∧ t.reg R.SLG_ACC_ADDR = off.toNat) ∧
      t.fld R.SLG_ACC 16 16 = min 65535 (s.fld R.SLG_ACC 16 16 + 1) ∧ (s.flag R.SLG_ACC bit = false → Logs s t 23 false)
    Ends (.registerWrite off a) s (fun t =>
      (s.absentReg off.toNat = true → (s.sysMaster a.req).isSome = true → t = s) ∧
      (findReg off.toNat = none → s.absentReg off.toNat = false → refused t 4 ((s.sysMaster a.req).getD 16)) ∧
      ((findReg off.toNat).isSome = true → s.sysMaster a.req = none → refused t 4 16) ∧
      ((findReg off.toNat).isSome = true → s.absentReg off.toNat = false → a.be ≠ 15 →
        ¬ (0x1D0100 ≤ off.toNat ∧ off.toNat < 0x1D0300 ∧ off.toNat % 0x40 = 0x20) → (s.sysMaster a.req).isSome = true →
        refused t 0 ((s.sysMaster a.req).getD 16)))) ∧
  (∀ (s : State) (a : Access), s.safe = true → s.served = true → a.be ≠ 0 →
    let seq := s.reg R.GLB_SNAP_SEQ
    Ends (.glbSnapTrig a) s (fun t =>
      (s.sysMaster a.req = some 16 → t.reg R.GLB_SNAP_SEQ = (seq + 1) % 2 ^ 32 ∧ t.reg (R.GLB_SNAP 0) = (seq + 1) % 2 ^ 32 ∧
        t.reg (R.GLB_SNAP 37) = s.slag.sticky % 2 ^ 32 ∧ t.out = .readData (BitVec.ofNat 32 (seq + 1)) :: s.out ∧
        t = { s with regs := t.regs, out := t.out }) ∧
      (s.sysMaster a.req = none → t = { s with out := .readData 0 :: s.out }) ∧
      (s.sysMaster a.req ≠ none → s.sysMaster a.req ≠ some 16 → t = { s with out := .readData (BitVec.ofNat 32 seq) :: s.out })))
/-! ## Watchdogs, monitors and the Bellows ladder -/

/-- R637, R638, R641, R645, R646, R663, R667, R668, R670, R690, R691: watchdogs, the Hearth restart, monitors, AVS and the ladder. -/
def Obligations.WatchdogsMonitorsAndPower : Prop :=
  (∀ (s : State) (core : Fin 2), s.safe = true → s.knabyAlive = true → s.hearthRuns = true →
    Ends (.knabyWatchdog core) s (fun t => KnabyDue s t)) ∧
  (∀ (s : State) (n : Fin 16), s.safe = true → s.knabyAlive = true → s.hearthRuns = true → (s.slice n.val).qstat.busy = true →
    Ends (.quenchOverdue n) s (fun t => KnabyDue s t)) ∧
  (∀ (s : State), s.safe = true → s.boot.sealedOnce = true → s.boot.failed = false → s.boot.knabyStopped = false → s.hearthRuns = true →
    s.power.st < 2 → s.boot.warmStep = 0 → s.boot.rstPend / 4 % 2 = 0 → s.boot.knabyDown = true → s.settled → s.cfg.restore = [] →
    Ends .knabyRestart s (fun t => t.boot = { s.boot with knabyDown := false, lastReset := 1 } ∧
      t.slag.knaby = min 255 (s.slag.knaby + 1) ∧ Logs s t 24 false ∧ t.regs.filter (fun e => e.1 != R.LCK_FORCED) = s.regs.filter (fun e => e.1 != R.LCK_FORCED) ∧
      (∀ k < 64, (t.lock k).holder ≠ .master 1 ∧ (t.lock k).holder ≠ .master 2) ∧
      (∀ k < 32, s.chOn k = true → (s.chReceiver k = 1 ∨ s.chReceiver k = 2) → (t.chan k).msgs = [] ∧ (t.chan k).rxReset = false) ∧
      (∀ n < 16, (t.slice n).inHand = .none))) ∧
  (∀ (s : State), s.safe = true → Ends .lockstepMismatch s (fun t =>
    (s.hearthRuns = true → HearthStops s t 0x05) ∧ (s.hearthRuns = false → t = s))) ∧
  (∀ (s : State), s.safe = true → s.boot.hearthDown = true → s.pair.role = .solo →
    Ends .hearthResume s (fun t => t.boot = { s.boot with hearthDown := false, lastReset := 5 } ∧ t.slag.hw = false ∧ t.slag.held = [] ∧
      t.slag.hearth = min 255 (s.slag.hearth + 1) ∧ t.slag.sticky.testBit 24 = true ∧
      (∀ h ∈ s.slag.held, t.slag.sticky.testBit h.1.cls = true))) ∧
  (∀ (s : State) (refclk hrt : Bool) (bad : BitVec 16), s.safe = true → s.hearthRuns = true → s.boot.waitRefclk = false →
    let now := bad.toNat + 65536 * (if refclk then 0 else 1)
    let fresh := (List.range 17).any (fun i => now.testBit i && !s.boot.clockBad.testBit i)
    Ends (.clockMonitor refclk hrt bad) s (fun t =>
      (hrt = false → HearthStops s t 0x0E) ∧
      (hrt = true → t = { s with
        boot := { s.boot with clockBad := now, refclkOk := refclk, xtal := !refclk }, slag := t.slag, ports := t.ports, out := t.out } ∧
        (fresh = true → Logs s t 13 false) ∧ (fresh = false → t.slag = s.slag)))) ∧
  (∀ (s : State) (bad : BitVec 12), s.safe = true → s.hearthRuns = true →
    let fresh := (List.range 12).any (fun i => bad.getLsbD i && !s.boot.supplyBad.testBit i)
    Ends (.supplyTrip bad) s (fun t =>
      t = { s with boot := { s.boot with supplyBad := bad.toNat }, slag := t.slag, ports := t.ports, out := t.out } ∧
      (fresh = true → Logs s t 14 false) ∧ (fresh = false → t.slag = s.slag))) ∧
  (∀ (s : State) (t0 t1 t2 t3 : Int), s.safe = true → s.hearthRuns = true →
    let above := fun (x : Int) => if (if s.fuses.gradeE then 125 else 105) < x then 1 else 0
    let hot := above t0 + above t1 + above t2 + above t3
    Ends (.tempPoll t0 t1 t2 t3) s (fun t =>
      t = { s with boot := { s.boot with thermalBad := hot }, slag := t.slag, ports := t.ports, out := t.out } ∧
      (hot ≠ 0 → Logs s t 15 false) ∧ (hot = 0 → t.slag = s.slag))) ∧
  (∀ (s : State) (v : Fin 35), s.safe = true → s.hearthRuns = true →
    Ends (.avsTarget v) s (fun t => RegsOnly [R.HRT_AVS] s t ∧ FieldSet R.HRT_AVS 0 10 (680 + 5 * v.val) s t)) ∧
  (∀ (s : State) (ack : Bool) (read : BitVec 10), s.safe = true → s.hearthRuns = true → s.fld R.HRT_AVS 0 10 ≠ s.boot.avsMv →
    let goal := s.fld R.HRT_AVS 0 10
    Ends (.avsStep ack read) s (fun t =>
      (ack = true → FieldSet R.HRT_AVS 10 10 read.toNat s t ∧ RegsBut [R.HRT_AVS] s t ∧ t = { s with
        regs := t.regs
        boot := { s.boot with avsMv := if s.boot.avsMv < goal then min goal (s.boot.avsMv + 5) else max goal (s.boot.avsMv - 5) } }) ∧
      (ack = false → FieldSet R.HRT_AVS 20 1 1 s t ∧ RegsBut [R.HRT_AVS] s t ∧ Logs s t 14 false ∧ t.boot = s.boot))) ∧
  (∀ (s : State), s.safe = true → s.boot.mainEn = true → s.boot.mainPg = false →
    Ends .mainPgTimeout s (fun t => Logs s t 14 true ∧ t = { s with slag := t.slag, ports := t.ports, out := t.out })) ∧
  (∀ (s : State) (mask : BitVec 6) (group : Fin 8), s.safe = true → s.pair.role = .solo →
    let p := s.power
    let named := if p.alarm = 0 then p.sources &&& 0x37 else p.sources
    let works := fun (st : Nat) => (if st = 1 ∨ st = 2 then 0x3B else if st = 3 ∨ st = 4 then 0x0B else if st = 5 then 9 else 0) +
      (if s.fuses.pair && decide (1 ≤ st ∧ st ≤ 5) then 4 else 0)
    let fire := mask.toNat &&& named &&& works (if p.step = 0 then p.st else p.target)
    let fired := (List.range 6).filter (fun i => fire.testBit i)
    let first := fired.headD 0
    Ends (.wakeEvent mask group) s (fun t =>
      (fired = [] → t = s) ∧
      (fired ≠ [] → p.step ≠ 0 → p.heldWake = none →
        t = { s with power := { p with heldWake := some (first, group.val), merged := min 255 (p.merged + (fired.length - 1)) } }) ∧
      (fired ≠ [] → p.step = 0 → p.exiting = false → t = { s with power := { p with
        exiting := true, cause := 1 + first, group := if first = 1 then group.val else 0, count := (p.count + 1) % 65536
        merged := min 255 (p.merged + (fired.length - 1)) } }) ∧
      (fired ≠ [] → p.step = 0 → p.exiting = true → t = { s with power := { p with merged := min 255 (p.merged + fired.length) } }))) ∧
  (∀ (s : State), s.safe = true →
    Ends .dampLinksReady s (fun t =>
      ((s.power.step ≠ 2 ∨ (List.range s.nOut).any (fun n => (s.ou n).enabled && !s.atRest n) = true) → t = s) ∧
      (s.power.step = 2 → (List.range s.nOut).all (fun n => !(s.ou n).enabled || s.atRest n) = true → s.pair.role = .solo →
        t.power.st = 2 ∧ t.power.step = 0 ∧ t.power.entering = false ∧ t.power.heldWake = none ∧
        (s.power.heldWake.isSome = true → t.power.exiting = true)))) ∧
  (∀ (s : State), s.safe = true → s.power.exiting = true → s.settled → s.pair.role = .solo → s.pair.completions = [] →
    Ends .powerExitDone s (fun t =>
      (s.power.st ≤ 4 → t.power = { s.power with
        st := 0, step := 0, exiting := false, entering := false, restoring := true, resState := s.power.st
        resMs := (s.time - s.power.since) / 1000, since := s.time }) ∧
      (s.power.st = 3 ∨ s.power.st = 4 → t.boot = { s.boot with mainEn := true, mainPg := true }) ∧
      (s.power.st = 5 → t.power = { Power.reset with
        cause := s.power.cause, group := s.power.group, merged := s.power.merged, count := s.power.count
        resState := 5, resMs := (s.time - s.power.since) / 1000, restoring := true }))) ∧
  (∀ (s : State) (e : BootEnv), s.safe = true → s.power.restoring = true → s.settled →
    Ends (.powerRestoreDone e) s (fun t =>
      (s.power.resState ≤ 2 → t = { s with power := { s.power with restoring := false } }) ∧
      (s.power.resState = 3 ∨ s.power.resState = 4 → e.temperFail ≠ 0 → e.temperFail < 2 ^ s.nDrc → s.flag R.DRC_STAT 0 = false →
        t.boot.failed = true ∧ t.boot.reason = 9) ∧
      (s.power.resState = 5 → s.cold → StartsUp t e s.fuses.vfloor)))
/-! ## Resets -/

/-- R633, R647-R650, R654, R656, R659, R660, R691, R692: power-on reset, RESET_N, WARM_N, warm, Knaby and block resets, and MAIN_PG. -/
def Obligations.ResetRows : Prop :=
  (∀ (s : State) (e : BootEnv) (pg : Bool), s.safe = true →
    Ends (.powerOnReset e pg) s (fun t =>
      ((pg = false ∨ s.boot.resetLow = true) → Cleared s t ∧ t.regs = [] ∧ t.slag = Slag.reset ∧ t.boot.mainEn = true ∧ t.boot.mainPg = pg) ∧
      (pg = true → s.boot.resetLow = false → StartsUp t e s.fuses.vfloor))) ∧
  (∀ (s : State), s.safe = true →
    Ends .resetN s (fun t => Cleared s t ∧ t.slag = { s.slag with hw := true, held := [] } ∧ t.boot.resetLow = true ∧
      t.reg R.HRT_AVS = 800 + 2 ^ 20 * (s.fld R.HRT_AVS 20 1))) ∧
  (∀ (s : State) (e : BootEnv), s.safe = true → s.boot.resetLow = true →
    Ends (.resetNRelease e) s (fun t => t.boot.resetLow = false ∧ t.boot.lastReset = 6 ∧ Logs s t 24 false ∧
      (s.boot.mainPg = false → t.boot = { s.boot with resetLow := false, lastReset := 6 }) ∧
      (s.boot.mainPg = true → s.cold → StartsUp t e s.fuses.vfloor))) ∧
  (∀ (s : State) (e : BootEnv), s.safe = true → s.boot.resetLow = false → Ends (.resetNRelease e) s (fun t => t = s)) ∧
  (∀ (s : State), s.safe = true → s.boot.mainEn = true → s.boot.mainPg = true →
    Ends .mainPgFall s (fun t => Cleared s { t with ports := State.reset.ports, out := s.out } ∧ t.boot.mainPg = false ∧ t.boot.mainEn = true ∧
      t.boot.pgHold = true ∧ t.slag.hw = true ∧ t.slag.sticky.testBit 14 = true)) ∧
  (∀ (s : State), s.safe = true → (s.boot.mainEn && s.boot.mainPg) = false → Ends .mainPgFall s (fun t => t = s)) ∧
  (∀ (s : State) (e : BootEnv), s.safe = true → s.boot.mainEn = true → s.boot.mainPg = false →
    Ends (.mainPgRise e) s (fun t => t.boot.mainPg = true ∧ t.boot.pgHold = false ∧
      (s.boot.pgHold = true → t.boot.lastReset = 6 ∧ Logs s t 24 false) ∧
      (s.boot.resetLow = true → t.boot.step = s.boot.step) ∧
      (s.boot.resetLow = false → s.cold → StartsUp t e s.fuses.vfloor))) ∧
  (∀ (s : State), s.safe = true →
    Ends .warmN s (fun t => t.boot.warmLow = true ∧
      (s.boot.warmStep = 0 → s.boot.failed = false → s.power.st < 3 → s.boot.sealedOnce = true → MainHeld s t 2) ∧
      ((s.boot.warmStep ≠ 0 ∨ s.boot.failed = true ∨ 3 ≤ s.power.st) → t = { s with boot := { s.boot with warmLow := true } }))) ∧
  (∀ (s : State) (e : BootEnv), s.safe = true → s.boot.hearthDown = false → s.boot.failed = false →
    Ends (.warmNRelease e) s (fun t => t.boot.warmLow = false ∧
      (s.boot.warmStep = 0 → t = { s with boot := { s.boot with warmLow := false } }) ∧
      (s.boot.warmStep ≠ 0 → e.fixedOk = false → t.boot.failed = true ∧ t.boot.reason = 0x0A) ∧
      (s.boot.warmStep ≠ 0 → e.sound → s.settled → s.anyOpen (fun _ _ => true) = false → WarmDone s t s.boot.warmCause))) ∧
  (∀ (s : State) (a : Access), s.regReach a R.RST_CTRL → a.data.toNat < 4 →
    Ends (.rstCtrlKnaby a) s (fun t => t = { s with boot := { s.boot with rstPend := s.boot.rstPend ||| (a.data.toNat ||| 1) } })) ∧
  (∀ (s : State) (a : Access), s.regReach a R.RST_CTRL → a.data.toNat < 4 →
    Ends (.rstCtrlWarm a) s (fun t => t = { s with boot := { s.boot with rstPend := s.boot.rstPend ||| (a.data.toNat ||| 2) } })) ∧
  (∀ (s : State) (e : BootEnv), s.safe = true → s.boot.hearthDown = false → s.boot.failed = false → s.boot.warmLow = false →
    Ends (.warmReset e) s (fun t =>
      (s.boot.warmStep = 0 → s.boot.rstPend / 2 % 4 = 0 → t = s) ∧
      (s.boot.warmStep ≠ 0 → e.sound → s.settled → s.anyOpen (fun _ _ => true) = false → WarmDone s t s.boot.warmCause) ∧
      (s.boot.warmStep = 0 → s.power.st < 3 → s.boot.sealedOnce = true → e.sound → s.settled → s.anyOpen (fun _ _ => true) = false →
        (s.boot.rstPend / 2 % 2 = 1 → WarmDone s t 3) ∧
        (s.boot.rstPend / 2 % 4 = 2 → WarmDone s t 4 ∧ t.boot.warm4Times = s.time :: s.boot.warm4Times)))) ∧
  (∀ (s : State) (a : Access), s.regReach a R.RST_BLK → a.data.toNat < 128 → s.boot.rstBlk = 0 →
    Ends (.blockReset a) s (fun t => t.boot.rstBlk = 0 ∧
      (a.data.toNat = 0 ∨ s.boot.warmStep ≠ 0 → t = s) ∧
      (a.data.toNat ≠ 0 → s.boot.warmStep = 0 → t.boot.lastReset = 7 ∧ Logs s t 24 false) ∧
      (a.data.toNat = 64 → s.boot.warmStep = 0 → t.net = { s.net with billetQ := [], quenchQ := [] } ∧ RegsBut [R.NET_DROP 5, R.NET_DROP 6] s t ∧
        t.reg (R.NET_DROP 5) = min (2 ^ 32 - 1) (s.reg (R.NET_DROP 5) + s.net.billetQ.length) ∧
        t.reg (R.NET_DROP 6) = min (2 ^ 32 - 1) (s.reg (R.NET_DROP 6) + s.net.quenchQ.length)) ∧
      (a.data.toNat = 1 → s.boot.warmStep = 0 → t.cru.bundles.filter (fun b => s.cru.jobs.any (fun j => j.slice == b.slice && j.seq == b.seq)) = [])))
/-! ## The machine as a whole -/

/-- A step runs the command at the front of the queue with the queue's rest, and every command answers a next state. With an empty
queue one idle microsecond passes and no register changes (the idle step is the model's choice, log entry 2). -/
def Obligations.StepRunsTheFront : Prop :=
  (∀ (c : Instr) (s : State), step { s with pending := c :: s.pending } = exec c s) ∧
  (∀ (c : Instr) (s : State), ∃ t, exec c s = .next t) ∧
  (∀ (s : State), s.pending = [] → ∃ t, step s = .next t ∧ t.time = s.time + 1 ∧ t.regs = s.regs ∧ t.pending = [])

/-- R38, R160, R433, R584, R590, R609, R626, R633, R648, R657, R662, R690: what power-on reset leaves. -/
def Obligations.ResetState : Prop :=
  State.reset.safe = true ∧ State.reset.pending = [] ∧ State.reset.served = false ∧ State.reset.boot.step = 0 ∧ State.reset.power.st = 0 ∧
  State.reset.pair.role = .solo ∧ State.reset.slag.log = [] ∧ State.reset.slag.sticky = 0 ∧ State.reset.slag.fmask = 0x240F65C ∧
  State.reset.reg R.HRT_AVS = 0x320 ∧ State.reset.flag R.CFG_CTRL 0 = true ∧ State.reset.cfg.sealed = false ∧
  (∀ k < 8, State.reset.reg (R.CRC_U_RUN k) = 0xFFFFFFFF) ∧
  (∀ n < 16, (State.reset.slice n).journal = [] ∧ (State.reset.slice n).nextSeq = 0 ∧ (State.reset.slice n).ringEn = false ∧
    (State.reset.slice n).surfaces = []) ∧
  (∀ k < 64, State.reset.lock k = Lock.free) ∧ (∀ k < 32, (State.reset.chan k).msgs = [] ∧ (State.reset.chan k).bell = 0) ∧
  (∀ n < 8, (State.reset.ou n).enabled = false) ∧ State.reset.disp.anvil = [] ∧ State.reset.cru.bundles = [] ∧ State.reset.net.fwd = []

/-- Registers are stored in one canonical form: keys rising, and no entry equal to the register's reset value. Every step keeps it. -/
def Obligations.RegistersStayCanonical : Prop :=
  ∀ (s t : State), s.regs.wf = true → step s = .next t → t.regs.wf = true
end

