-- ==== Sys2Proof/Laws/State.lean ====
section
/-! SUPPORT. One lemma for each field of State under each small update that leaves it alone. -/
namespace Sys2Proof.Machine

/-! State.setReg -/

@[simp] theorem State.setReg_pending (s : State) (off v : Nat) : (s.setReg off v).pending = s.pending := rfl
@[simp] theorem State.setReg_time (s : State) (off v : Nat) : (s.setReg off v).time = s.time := rfl
@[simp] theorem State.setReg_fresh (s : State) (off v : Nat) : (s.setReg off v).fresh = s.fresh := rfl
@[simp] theorem State.setReg_out (s : State) (off v : Nat) : (s.setReg off v).out = s.out := rfl
@[simp] theorem State.setReg_fuses (s : State) (off v : Nat) : (s.setReg off v).fuses = s.fuses := rfl
@[simp] theorem State.setReg_boot (s : State) (off v : Nat) : (s.setReg off v).boot = s.boot := rfl
@[simp] theorem State.setReg_power (s : State) (off v : Nat) : (s.setReg off v).power = s.power := rfl
@[simp] theorem State.setReg_slices (s : State) (off v : Nat) : (s.setReg off v).slices = s.slices := rfl
@[simp] theorem State.setReg_order (s : State) (off v : Nat) : (s.setReg off v).order = s.order := rfl
@[simp] theorem State.setReg_slag (s : State) (off v : Nat) : (s.setReg off v).slag = s.slag := rfl
@[simp] theorem State.setReg_cfg (s : State) (off v : Nat) : (s.setReg off v).cfg = s.cfg := rfl
@[simp] theorem State.setReg_ports (s : State) (off v : Nat) : (s.setReg off v).ports = s.ports := rfl
@[simp] theorem State.setReg_net (s : State) (off v : Nat) : (s.setReg off v).net = s.net := rfl
@[simp] theorem State.setReg_locks (s : State) (off v : Nat) : (s.setReg off v).locks = s.locks := rfl
@[simp] theorem State.setReg_chans (s : State) (off v : Nat) : (s.setReg off v).chans = s.chans := rfl
@[simp] theorem State.setReg_mbxLockDone (s : State) (off v : Nat) : (s.setReg off v).mbxLockDone = s.mbxLockDone := rfl
@[simp] theorem State.setReg_pair (s : State) (off v : Nat) : (s.setReg off v).pair = s.pair := rfl
@[simp] theorem State.setReg_dram (s : State) (off v : Nat) : (s.setReg off v).dram = s.dram := rfl
@[simp] theorem State.setReg_memtest (s : State) (off v : Nat) : (s.setReg off v).memtest = s.memtest := rfl
@[simp] theorem State.setReg_disp (s : State) (off v : Nat) : (s.setReg off v).disp = s.disp := rfl
@[simp] theorem State.setReg_cru (s : State) (off v : Nat) : (s.setReg off v).cru = s.cru := rfl
@[simp] theorem State.setReg_touch (s : State) (off v : Nat) : (s.setReg off v).touch = s.touch := rfl
@[simp] theorem State.setReg_haps (s : State) (off v : Nat) : (s.setReg off v).haps = s.haps := rfl
@[simp] theorem State.setReg_aud (s : State) (off v : Nat) : (s.setReg off v).aud = s.aud := rfl

/-! State.setFld -/

@[simp] theorem State.setFld_pending (s : State) (off lo w v : Nat) : (s.setFld off lo w v).pending = s.pending := rfl
@[simp] theorem State.setFld_time (s : State) (off lo w v : Nat) : (s.setFld off lo w v).time = s.time := rfl
@[simp] theorem State.setFld_fresh (s : State) (off lo w v : Nat) : (s.setFld off lo w v).fresh = s.fresh := rfl
@[simp] theorem State.setFld_out (s : State) (off lo w v : Nat) : (s.setFld off lo w v).out = s.out := rfl
@[simp] theorem State.setFld_fuses (s : State) (off lo w v : Nat) : (s.setFld off lo w v).fuses = s.fuses := rfl
@[simp] theorem State.setFld_boot (s : State) (off lo w v : Nat) : (s.setFld off lo w v).boot = s.boot := rfl
@[simp] theorem State.setFld_power (s : State) (off lo w v : Nat) : (s.setFld off lo w v).power = s.power := rfl
@[simp] theorem State.setFld_slices (s : State) (off lo w v : Nat) : (s.setFld off lo w v).slices = s.slices := rfl
@[simp] theorem State.setFld_order (s : State) (off lo w v : Nat) : (s.setFld off lo w v).order = s.order := rfl
@[simp] theorem State.setFld_slag (s : State) (off lo w v : Nat) : (s.setFld off lo w v).slag = s.slag := rfl
@[simp] theorem State.setFld_cfg (s : State) (off lo w v : Nat) : (s.setFld off lo w v).cfg = s.cfg := rfl
@[simp] theorem State.setFld_ports (s : State) (off lo w v : Nat) : (s.setFld off lo w v).ports = s.ports := rfl
@[simp] theorem State.setFld_net (s : State) (off lo w v : Nat) : (s.setFld off lo w v).net = s.net := rfl
@[simp] theorem State.setFld_locks (s : State) (off lo w v : Nat) : (s.setFld off lo w v).locks = s.locks := rfl
@[simp] theorem State.setFld_chans (s : State) (off lo w v : Nat) : (s.setFld off lo w v).chans = s.chans := rfl
@[simp] theorem State.setFld_mbxLockDone (s : State) (off lo w v : Nat) : (s.setFld off lo w v).mbxLockDone = s.mbxLockDone := rfl
@[simp] theorem State.setFld_pair (s : State) (off lo w v : Nat) : (s.setFld off lo w v).pair = s.pair := rfl
@[simp] theorem State.setFld_dram (s : State) (off lo w v : Nat) : (s.setFld off lo w v).dram = s.dram := rfl
@[simp] theorem State.setFld_memtest (s : State) (off lo w v : Nat) : (s.setFld off lo w v).memtest = s.memtest := rfl
@[simp] theorem State.setFld_disp (s : State) (off lo w v : Nat) : (s.setFld off lo w v).disp = s.disp := rfl
@[simp] theorem State.setFld_cru (s : State) (off lo w v : Nat) : (s.setFld off lo w v).cru = s.cru := rfl
@[simp] theorem State.setFld_touch (s : State) (off lo w v : Nat) : (s.setFld off lo w v).touch = s.touch := rfl
@[simp] theorem State.setFld_haps (s : State) (off lo w v : Nat) : (s.setFld off lo w v).haps = s.haps := rfl
@[simp] theorem State.setFld_aud (s : State) (off lo w v : Nat) : (s.setFld off lo w v).aud = s.aud := rfl

/-! State.setFlag -/

@[simp] theorem State.setFlag_pending (s : State) (off i : Nat) (b : Bool) : (s.setFlag off i b).pending = s.pending := rfl
@[simp] theorem State.setFlag_time (s : State) (off i : Nat) (b : Bool) : (s.setFlag off i b).time = s.time := rfl
@[simp] theorem State.setFlag_fresh (s : State) (off i : Nat) (b : Bool) : (s.setFlag off i b).fresh = s.fresh := rfl
@[simp] theorem State.setFlag_out (s : State) (off i : Nat) (b : Bool) : (s.setFlag off i b).out = s.out := rfl
@[simp] theorem State.setFlag_fuses (s : State) (off i : Nat) (b : Bool) : (s.setFlag off i b).fuses = s.fuses := rfl
@[simp] theorem State.setFlag_boot (s : State) (off i : Nat) (b : Bool) : (s.setFlag off i b).boot = s.boot := rfl
@[simp] theorem State.setFlag_power (s : State) (off i : Nat) (b : Bool) : (s.setFlag off i b).power = s.power := rfl
@[simp] theorem State.setFlag_slices (s : State) (off i : Nat) (b : Bool) : (s.setFlag off i b).slices = s.slices := rfl
@[simp] theorem State.setFlag_order (s : State) (off i : Nat) (b : Bool) : (s.setFlag off i b).order = s.order := rfl
@[simp] theorem State.setFlag_slag (s : State) (off i : Nat) (b : Bool) : (s.setFlag off i b).slag = s.slag := rfl
@[simp] theorem State.setFlag_cfg (s : State) (off i : Nat) (b : Bool) : (s.setFlag off i b).cfg = s.cfg := rfl
@[simp] theorem State.setFlag_ports (s : State) (off i : Nat) (b : Bool) : (s.setFlag off i b).ports = s.ports := rfl
@[simp] theorem State.setFlag_net (s : State) (off i : Nat) (b : Bool) : (s.setFlag off i b).net = s.net := rfl
@[simp] theorem State.setFlag_locks (s : State) (off i : Nat) (b : Bool) : (s.setFlag off i b).locks = s.locks := rfl
@[simp] theorem State.setFlag_chans (s : State) (off i : Nat) (b : Bool) : (s.setFlag off i b).chans = s.chans := rfl
@[simp] theorem State.setFlag_mbxLockDone (s : State) (off i : Nat) (b : Bool) : (s.setFlag off i b).mbxLockDone = s.mbxLockDone := rfl
@[simp] theorem State.setFlag_pair (s : State) (off i : Nat) (b : Bool) : (s.setFlag off i b).pair = s.pair := rfl
@[simp] theorem State.setFlag_dram (s : State) (off i : Nat) (b : Bool) : (s.setFlag off i b).dram = s.dram := rfl
@[simp] theorem State.setFlag_memtest (s : State) (off i : Nat) (b : Bool) : (s.setFlag off i b).memtest = s.memtest := rfl
@[simp] theorem State.setFlag_disp (s : State) (off i : Nat) (b : Bool) : (s.setFlag off i b).disp = s.disp := rfl
@[simp] theorem State.setFlag_cru (s : State) (off i : Nat) (b : Bool) : (s.setFlag off i b).cru = s.cru := rfl
@[simp] theorem State.setFlag_touch (s : State) (off i : Nat) (b : Bool) : (s.setFlag off i b).touch = s.touch := rfl
@[simp] theorem State.setFlag_haps (s : State) (off i : Nat) (b : Bool) : (s.setFlag off i b).haps = s.haps := rfl
@[simp] theorem State.setFlag_aud (s : State) (off i : Nat) (b : Bool) : (s.setFlag off i b).aud = s.aud := rfl

/-! State.incSat -/

@[simp] theorem State.incSat_pending (s : State) (off lo w : Nat) : (s.incSat off lo w).pending = s.pending := rfl
@[simp] theorem State.incSat_time (s : State) (off lo w : Nat) : (s.incSat off lo w).time = s.time := rfl
@[simp] theorem State.incSat_fresh (s : State) (off lo w : Nat) : (s.incSat off lo w).fresh = s.fresh := rfl
@[simp] theorem State.incSat_out (s : State) (off lo w : Nat) : (s.incSat off lo w).out = s.out := rfl
@[simp] theorem State.incSat_fuses (s : State) (off lo w : Nat) : (s.incSat off lo w).fuses = s.fuses := rfl
@[simp] theorem State.incSat_boot (s : State) (off lo w : Nat) : (s.incSat off lo w).boot = s.boot := rfl
@[simp] theorem State.incSat_power (s : State) (off lo w : Nat) : (s.incSat off lo w).power = s.power := rfl
@[simp] theorem State.incSat_slices (s : State) (off lo w : Nat) : (s.incSat off lo w).slices = s.slices := rfl
@[simp] theorem State.incSat_order (s : State) (off lo w : Nat) : (s.incSat off lo w).order = s.order := rfl
@[simp] theorem State.incSat_slag (s : State) (off lo w : Nat) : (s.incSat off lo w).slag = s.slag := rfl
@[simp] theorem State.incSat_cfg (s : State) (off lo w : Nat) : (s.incSat off lo w).cfg = s.cfg := rfl
@[simp] theorem State.incSat_ports (s : State) (off lo w : Nat) : (s.incSat off lo w).ports = s.ports := rfl
@[simp] theorem State.incSat_net (s : State) (off lo w : Nat) : (s.incSat off lo w).net = s.net := rfl
@[simp] theorem State.incSat_locks (s : State) (off lo w : Nat) : (s.incSat off lo w).locks = s.locks := rfl
@[simp] theorem State.incSat_chans (s : State) (off lo w : Nat) : (s.incSat off lo w).chans = s.chans := rfl
@[simp] theorem State.incSat_mbxLockDone (s : State) (off lo w : Nat) : (s.incSat off lo w).mbxLockDone = s.mbxLockDone := rfl
@[simp] theorem State.incSat_pair (s : State) (off lo w : Nat) : (s.incSat off lo w).pair = s.pair := rfl
@[simp] theorem State.incSat_dram (s : State) (off lo w : Nat) : (s.incSat off lo w).dram = s.dram := rfl
@[simp] theorem State.incSat_memtest (s : State) (off lo w : Nat) : (s.incSat off lo w).memtest = s.memtest := rfl
@[simp] theorem State.incSat_disp (s : State) (off lo w : Nat) : (s.incSat off lo w).disp = s.disp := rfl
@[simp] theorem State.incSat_cru (s : State) (off lo w : Nat) : (s.incSat off lo w).cru = s.cru := rfl
@[simp] theorem State.incSat_touch (s : State) (off lo w : Nat) : (s.incSat off lo w).touch = s.touch := rfl
@[simp] theorem State.incSat_haps (s : State) (off lo w : Nat) : (s.incSat off lo w).haps = s.haps := rfl
@[simp] theorem State.incSat_aud (s : State) (off lo w : Nat) : (s.incSat off lo w).aud = s.aud := rfl

/-! State.incWrap -/

@[simp] theorem State.incWrap_pending (s : State) (off lo w : Nat) : (s.incWrap off lo w).pending = s.pending := rfl
@[simp] theorem State.incWrap_time (s : State) (off lo w : Nat) : (s.incWrap off lo w).time = s.time := rfl
@[simp] theorem State.incWrap_fresh (s : State) (off lo w : Nat) : (s.incWrap off lo w).fresh = s.fresh := rfl
@[simp] theorem State.incWrap_out (s : State) (off lo w : Nat) : (s.incWrap off lo w).out = s.out := rfl
@[simp] theorem State.incWrap_fuses (s : State) (off lo w : Nat) : (s.incWrap off lo w).fuses = s.fuses := rfl
@[simp] theorem State.incWrap_boot (s : State) (off lo w : Nat) : (s.incWrap off lo w).boot = s.boot := rfl
@[simp] theorem State.incWrap_power (s : State) (off lo w : Nat) : (s.incWrap off lo w).power = s.power := rfl
@[simp] theorem State.incWrap_slices (s : State) (off lo w : Nat) : (s.incWrap off lo w).slices = s.slices := rfl
@[simp] theorem State.incWrap_order (s : State) (off lo w : Nat) : (s.incWrap off lo w).order = s.order := rfl
@[simp] theorem State.incWrap_slag (s : State) (off lo w : Nat) : (s.incWrap off lo w).slag = s.slag := rfl
@[simp] theorem State.incWrap_cfg (s : State) (off lo w : Nat) : (s.incWrap off lo w).cfg = s.cfg := rfl
@[simp] theorem State.incWrap_ports (s : State) (off lo w : Nat) : (s.incWrap off lo w).ports = s.ports := rfl
@[simp] theorem State.incWrap_net (s : State) (off lo w : Nat) : (s.incWrap off lo w).net = s.net := rfl
@[simp] theorem State.incWrap_locks (s : State) (off lo w : Nat) : (s.incWrap off lo w).locks = s.locks := rfl
@[simp] theorem State.incWrap_chans (s : State) (off lo w : Nat) : (s.incWrap off lo w).chans = s.chans := rfl
@[simp] theorem State.incWrap_mbxLockDone (s : State) (off lo w : Nat) : (s.incWrap off lo w).mbxLockDone = s.mbxLockDone := rfl
@[simp] theorem State.incWrap_pair (s : State) (off lo w : Nat) : (s.incWrap off lo w).pair = s.pair := rfl
@[simp] theorem State.incWrap_dram (s : State) (off lo w : Nat) : (s.incWrap off lo w).dram = s.dram := rfl
@[simp] theorem State.incWrap_memtest (s : State) (off lo w : Nat) : (s.incWrap off lo w).memtest = s.memtest := rfl
@[simp] theorem State.incWrap_disp (s : State) (off lo w : Nat) : (s.incWrap off lo w).disp = s.disp := rfl
@[simp] theorem State.incWrap_cru (s : State) (off lo w : Nat) : (s.incWrap off lo w).cru = s.cru := rfl
@[simp] theorem State.incWrap_touch (s : State) (off lo w : Nat) : (s.incWrap off lo w).touch = s.touch := rfl
@[simp] theorem State.incWrap_haps (s : State) (off lo w : Nat) : (s.incWrap off lo w).haps = s.haps := rfl
@[simp] theorem State.incWrap_aud (s : State) (off lo w : Nat) : (s.incWrap off lo w).aud = s.aud := rfl

/-! State.setSlice -/

@[simp] theorem State.setSlice_pending (s : State) (n : Nat) (x : Slice) : (s.setSlice n x).pending = s.pending := rfl
@[simp] theorem State.setSlice_time (s : State) (n : Nat) (x : Slice) : (s.setSlice n x).time = s.time := rfl
@[simp] theorem State.setSlice_fresh (s : State) (n : Nat) (x : Slice) : (s.setSlice n x).fresh = s.fresh := rfl
@[simp] theorem State.setSlice_out (s : State) (n : Nat) (x : Slice) : (s.setSlice n x).out = s.out := rfl
@[simp] theorem State.setSlice_regs (s : State) (n : Nat) (x : Slice) : (s.setSlice n x).regs = s.regs := rfl
@[simp] theorem State.setSlice_fuses (s : State) (n : Nat) (x : Slice) : (s.setSlice n x).fuses = s.fuses := rfl
@[simp] theorem State.setSlice_boot (s : State) (n : Nat) (x : Slice) : (s.setSlice n x).boot = s.boot := rfl
@[simp] theorem State.setSlice_power (s : State) (n : Nat) (x : Slice) : (s.setSlice n x).power = s.power := rfl
@[simp] theorem State.setSlice_order (s : State) (n : Nat) (x : Slice) : (s.setSlice n x).order = s.order := rfl
@[simp] theorem State.setSlice_slag (s : State) (n : Nat) (x : Slice) : (s.setSlice n x).slag = s.slag := rfl
@[simp] theorem State.setSlice_cfg (s : State) (n : Nat) (x : Slice) : (s.setSlice n x).cfg = s.cfg := rfl
@[simp] theorem State.setSlice_ports (s : State) (n : Nat) (x : Slice) : (s.setSlice n x).ports = s.ports := rfl
@[simp] theorem State.setSlice_net (s : State) (n : Nat) (x : Slice) : (s.setSlice n x).net = s.net := rfl
@[simp] theorem State.setSlice_locks (s : State) (n : Nat) (x : Slice) : (s.setSlice n x).locks = s.locks := rfl
@[simp] theorem State.setSlice_chans (s : State) (n : Nat) (x : Slice) : (s.setSlice n x).chans = s.chans := rfl
@[simp] theorem State.setSlice_mbxLockDone (s : State) (n : Nat) (x : Slice) : (s.setSlice n x).mbxLockDone = s.mbxLockDone := rfl
@[simp] theorem State.setSlice_pair (s : State) (n : Nat) (x : Slice) : (s.setSlice n x).pair = s.pair := rfl
@[simp] theorem State.setSlice_dram (s : State) (n : Nat) (x : Slice) : (s.setSlice n x).dram = s.dram := rfl
@[simp] theorem State.setSlice_memtest (s : State) (n : Nat) (x : Slice) : (s.setSlice n x).memtest = s.memtest := rfl
@[simp] theorem State.setSlice_disp (s : State) (n : Nat) (x : Slice) : (s.setSlice n x).disp = s.disp := rfl
@[simp] theorem State.setSlice_cru (s : State) (n : Nat) (x : Slice) : (s.setSlice n x).cru = s.cru := rfl
@[simp] theorem State.setSlice_touch (s : State) (n : Nat) (x : Slice) : (s.setSlice n x).touch = s.touch := rfl
@[simp] theorem State.setSlice_haps (s : State) (n : Nat) (x : Slice) : (s.setSlice n x).haps = s.haps := rfl
@[simp] theorem State.setSlice_aud (s : State) (n : Nat) (x : Slice) : (s.setSlice n x).aud = s.aud := rfl

/-! State.modSlice -/

@[simp] theorem State.modSlice_pending (s : State) (n : Nat) (f : Slice → Slice) : (s.modSlice n f).pending = s.pending := rfl
@[simp] theorem State.modSlice_time (s : State) (n : Nat) (f : Slice → Slice) : (s.modSlice n f).time = s.time := rfl
@[simp] theorem State.modSlice_fresh (s : State) (n : Nat) (f : Slice → Slice) : (s.modSlice n f).fresh = s.fresh := rfl
@[simp] theorem State.modSlice_out (s : State) (n : Nat) (f : Slice → Slice) : (s.modSlice n f).out = s.out := rfl
@[simp] theorem State.modSlice_regs (s : State) (n : Nat) (f : Slice → Slice) : (s.modSlice n f).regs = s.regs := rfl
@[simp] theorem State.modSlice_fuses (s : State) (n : Nat) (f : Slice → Slice) : (s.modSlice n f).fuses = s.fuses := rfl
@[simp] theorem State.modSlice_boot (s : State) (n : Nat) (f : Slice → Slice) : (s.modSlice n f).boot = s.boot := rfl
@[simp] theorem State.modSlice_power (s : State) (n : Nat) (f : Slice → Slice) : (s.modSlice n f).power = s.power := rfl
@[simp] theorem State.modSlice_order (s : State) (n : Nat) (f : Slice → Slice) : (s.modSlice n f).order = s.order := rfl
@[simp] theorem State.modSlice_slag (s : State) (n : Nat) (f : Slice → Slice) : (s.modSlice n f).slag = s.slag := rfl
@[simp] theorem State.modSlice_cfg (s : State) (n : Nat) (f : Slice → Slice) : (s.modSlice n f).cfg = s.cfg := rfl
@[simp] theorem State.modSlice_ports (s : State) (n : Nat) (f : Slice → Slice) : (s.modSlice n f).ports = s.ports := rfl
@[simp] theorem State.modSlice_net (s : State) (n : Nat) (f : Slice → Slice) : (s.modSlice n f).net = s.net := rfl
@[simp] theorem State.modSlice_locks (s : State) (n : Nat) (f : Slice → Slice) : (s.modSlice n f).locks = s.locks := rfl
@[simp] theorem State.modSlice_chans (s : State) (n : Nat) (f : Slice → Slice) : (s.modSlice n f).chans = s.chans := rfl
@[simp] theorem State.modSlice_mbxLockDone (s : State) (n : Nat) (f : Slice → Slice) : (s.modSlice n f).mbxLockDone = s.mbxLockDone := rfl
@[simp] theorem State.modSlice_pair (s : State) (n : Nat) (f : Slice → Slice) : (s.modSlice n f).pair = s.pair := rfl
@[simp] theorem State.modSlice_dram (s : State) (n : Nat) (f : Slice → Slice) : (s.modSlice n f).dram = s.dram := rfl
@[simp] theorem State.modSlice_memtest (s : State) (n : Nat) (f : Slice → Slice) : (s.modSlice n f).memtest = s.memtest := rfl
@[simp] theorem State.modSlice_disp (s : State) (n : Nat) (f : Slice → Slice) : (s.modSlice n f).disp = s.disp := rfl
@[simp] theorem State.modSlice_cru (s : State) (n : Nat) (f : Slice → Slice) : (s.modSlice n f).cru = s.cru := rfl
@[simp] theorem State.modSlice_touch (s : State) (n : Nat) (f : Slice → Slice) : (s.modSlice n f).touch = s.touch := rfl
@[simp] theorem State.modSlice_haps (s : State) (n : Nat) (f : Slice → Slice) : (s.modSlice n f).haps = s.haps := rfl
@[simp] theorem State.modSlice_aud (s : State) (n : Nat) (f : Slice → Slice) : (s.modSlice n f).aud = s.aud := rfl

/-! State.emit -/

@[simp] theorem State.emit_pending (s : State) (e : OutEv) : (s.emit e).pending = s.pending := rfl
@[simp] theorem State.emit_time (s : State) (e : OutEv) : (s.emit e).time = s.time := rfl
@[simp] theorem State.emit_fresh (s : State) (e : OutEv) : (s.emit e).fresh = s.fresh := rfl
@[simp] theorem State.emit_regs (s : State) (e : OutEv) : (s.emit e).regs = s.regs := rfl
@[simp] theorem State.emit_fuses (s : State) (e : OutEv) : (s.emit e).fuses = s.fuses := rfl
@[simp] theorem State.emit_boot (s : State) (e : OutEv) : (s.emit e).boot = s.boot := rfl
@[simp] theorem State.emit_power (s : State) (e : OutEv) : (s.emit e).power = s.power := rfl
@[simp] theorem State.emit_slices (s : State) (e : OutEv) : (s.emit e).slices = s.slices := rfl
@[simp] theorem State.emit_order (s : State) (e : OutEv) : (s.emit e).order = s.order := rfl
@[simp] theorem State.emit_slag (s : State) (e : OutEv) : (s.emit e).slag = s.slag := rfl
@[simp] theorem State.emit_cfg (s : State) (e : OutEv) : (s.emit e).cfg = s.cfg := rfl
@[simp] theorem State.emit_ports (s : State) (e : OutEv) : (s.emit e).ports = s.ports := rfl
@[simp] theorem State.emit_net (s : State) (e : OutEv) : (s.emit e).net = s.net := rfl
@[simp] theorem State.emit_locks (s : State) (e : OutEv) : (s.emit e).locks = s.locks := rfl
@[simp] theorem State.emit_chans (s : State) (e : OutEv) : (s.emit e).chans = s.chans := rfl
@[simp] theorem State.emit_mbxLockDone (s : State) (e : OutEv) : (s.emit e).mbxLockDone = s.mbxLockDone := rfl
@[simp] theorem State.emit_pair (s : State) (e : OutEv) : (s.emit e).pair = s.pair := rfl
@[simp] theorem State.emit_dram (s : State) (e : OutEv) : (s.emit e).dram = s.dram := rfl
@[simp] theorem State.emit_memtest (s : State) (e : OutEv) : (s.emit e).memtest = s.memtest := rfl
@[simp] theorem State.emit_disp (s : State) (e : OutEv) : (s.emit e).disp = s.disp := rfl
@[simp] theorem State.emit_cru (s : State) (e : OutEv) : (s.emit e).cru = s.cru := rfl
@[simp] theorem State.emit_touch (s : State) (e : OutEv) : (s.emit e).touch = s.touch := rfl
@[simp] theorem State.emit_haps (s : State) (e : OutEv) : (s.emit e).haps = s.haps := rfl
@[simp] theorem State.emit_aud (s : State) (e : OutEv) : (s.emit e).aud = s.aud := rfl

/-! State.modPair -/

@[simp] theorem State.modPair_pending (s : State) (f : Pair → Pair) : (s.modPair f).pending = s.pending := rfl
@[simp] theorem State.modPair_time (s : State) (f : Pair → Pair) : (s.modPair f).time = s.time := rfl
@[simp] theorem State.modPair_fresh (s : State) (f : Pair → Pair) : (s.modPair f).fresh = s.fresh := rfl
@[simp] theorem State.modPair_out (s : State) (f : Pair → Pair) : (s.modPair f).out = s.out := rfl
@[simp] theorem State.modPair_regs (s : State) (f : Pair → Pair) : (s.modPair f).regs = s.regs := rfl
@[simp] theorem State.modPair_fuses (s : State) (f : Pair → Pair) : (s.modPair f).fuses = s.fuses := rfl
@[simp] theorem State.modPair_boot (s : State) (f : Pair → Pair) : (s.modPair f).boot = s.boot := rfl
@[simp] theorem State.modPair_power (s : State) (f : Pair → Pair) : (s.modPair f).power = s.power := rfl
@[simp] theorem State.modPair_slices (s : State) (f : Pair → Pair) : (s.modPair f).slices = s.slices := rfl
@[simp] theorem State.modPair_order (s : State) (f : Pair → Pair) : (s.modPair f).order = s.order := rfl
@[simp] theorem State.modPair_slag (s : State) (f : Pair → Pair) : (s.modPair f).slag = s.slag := rfl
@[simp] theorem State.modPair_cfg (s : State) (f : Pair → Pair) : (s.modPair f).cfg = s.cfg := rfl
@[simp] theorem State.modPair_ports (s : State) (f : Pair → Pair) : (s.modPair f).ports = s.ports := rfl
@[simp] theorem State.modPair_net (s : State) (f : Pair → Pair) : (s.modPair f).net = s.net := rfl
@[simp] theorem State.modPair_locks (s : State) (f : Pair → Pair) : (s.modPair f).locks = s.locks := rfl
@[simp] theorem State.modPair_chans (s : State) (f : Pair → Pair) : (s.modPair f).chans = s.chans := rfl
@[simp] theorem State.modPair_mbxLockDone (s : State) (f : Pair → Pair) : (s.modPair f).mbxLockDone = s.mbxLockDone := rfl
@[simp] theorem State.modPair_dram (s : State) (f : Pair → Pair) : (s.modPair f).dram = s.dram := rfl
@[simp] theorem State.modPair_memtest (s : State) (f : Pair → Pair) : (s.modPair f).memtest = s.memtest := rfl
@[simp] theorem State.modPair_disp (s : State) (f : Pair → Pair) : (s.modPair f).disp = s.disp := rfl
@[simp] theorem State.modPair_cru (s : State) (f : Pair → Pair) : (s.modPair f).cru = s.cru := rfl
@[simp] theorem State.modPair_touch (s : State) (f : Pair → Pair) : (s.modPair f).touch = s.touch := rfl
@[simp] theorem State.modPair_haps (s : State) (f : Pair → Pair) : (s.modPair f).haps = s.haps := rfl
@[simp] theorem State.modPair_aud (s : State) (f : Pair → Pair) : (s.modPair f).aud = s.aud := rfl

/-! State.modPort -/

@[simp] theorem State.modPort_pending (s : State) (p : Nat) (f : PciPort → PciPort) : (s.modPort p f).pending = s.pending := rfl
@[simp] theorem State.modPort_time (s : State) (p : Nat) (f : PciPort → PciPort) : (s.modPort p f).time = s.time := rfl
@[simp] theorem State.modPort_fresh (s : State) (p : Nat) (f : PciPort → PciPort) : (s.modPort p f).fresh = s.fresh := rfl
@[simp] theorem State.modPort_out (s : State) (p : Nat) (f : PciPort → PciPort) : (s.modPort p f).out = s.out := rfl
@[simp] theorem State.modPort_regs (s : State) (p : Nat) (f : PciPort → PciPort) : (s.modPort p f).regs = s.regs := rfl
@[simp] theorem State.modPort_fuses (s : State) (p : Nat) (f : PciPort → PciPort) : (s.modPort p f).fuses = s.fuses := rfl
@[simp] theorem State.modPort_boot (s : State) (p : Nat) (f : PciPort → PciPort) : (s.modPort p f).boot = s.boot := rfl
@[simp] theorem State.modPort_power (s : State) (p : Nat) (f : PciPort → PciPort) : (s.modPort p f).power = s.power := rfl
@[simp] theorem State.modPort_slices (s : State) (p : Nat) (f : PciPort → PciPort) : (s.modPort p f).slices = s.slices := rfl
@[simp] theorem State.modPort_order (s : State) (p : Nat) (f : PciPort → PciPort) : (s.modPort p f).order = s.order := rfl
@[simp] theorem State.modPort_slag (s : State) (p : Nat) (f : PciPort → PciPort) : (s.modPort p f).slag = s.slag := rfl
@[simp] theorem State.modPort_cfg (s : State) (p : Nat) (f : PciPort → PciPort) : (s.modPort p f).cfg = s.cfg := rfl
@[simp] theorem State.modPort_net (s : State) (p : Nat) (f : PciPort → PciPort) : (s.modPort p f).net = s.net := rfl
@[simp] theorem State.modPort_locks (s : State) (p : Nat) (f : PciPort → PciPort) : (s.modPort p f).locks = s.locks := rfl
@[simp] theorem State.modPort_chans (s : State) (p : Nat) (f : PciPort → PciPort) : (s.modPort p f).chans = s.chans := rfl
@[simp] theorem State.modPort_mbxLockDone (s : State) (p : Nat) (f : PciPort → PciPort) : (s.modPort p f).mbxLockDone = s.mbxLockDone := rfl
@[simp] theorem State.modPort_pair (s : State) (p : Nat) (f : PciPort → PciPort) : (s.modPort p f).pair = s.pair := rfl
@[simp] theorem State.modPort_dram (s : State) (p : Nat) (f : PciPort → PciPort) : (s.modPort p f).dram = s.dram := rfl
@[simp] theorem State.modPort_memtest (s : State) (p : Nat) (f : PciPort → PciPort) : (s.modPort p f).memtest = s.memtest := rfl
@[simp] theorem State.modPort_disp (s : State) (p : Nat) (f : PciPort → PciPort) : (s.modPort p f).disp = s.disp := rfl
@[simp] theorem State.modPort_cru (s : State) (p : Nat) (f : PciPort → PciPort) : (s.modPort p f).cru = s.cru := rfl
@[simp] theorem State.modPort_touch (s : State) (p : Nat) (f : PciPort → PciPort) : (s.modPort p f).touch = s.touch := rfl
@[simp] theorem State.modPort_haps (s : State) (p : Nat) (f : PciPort → PciPort) : (s.modPort p f).haps = s.haps := rfl
@[simp] theorem State.modPort_aud (s : State) (p : Nat) (f : PciPort → PciPort) : (s.modPort p f).aud = s.aud := rfl

/-! State.modDisp -/

@[simp] theorem State.modDisp_pending (s : State) (f : Display → Display) : (s.modDisp f).pending = s.pending := rfl
@[simp] theorem State.modDisp_time (s : State) (f : Display → Display) : (s.modDisp f).time = s.time := rfl
@[simp] theorem State.modDisp_fresh (s : State) (f : Display → Display) : (s.modDisp f).fresh = s.fresh := rfl
@[simp] theorem State.modDisp_out (s : State) (f : Display → Display) : (s.modDisp f).out = s.out := rfl
@[simp] theorem State.modDisp_regs (s : State) (f : Display → Display) : (s.modDisp f).regs = s.regs := rfl
@[simp] theorem State.modDisp_fuses (s : State) (f : Display → Display) : (s.modDisp f).fuses = s.fuses := rfl
@[simp] theorem State.modDisp_boot (s : State) (f : Display → Display) : (s.modDisp f).boot = s.boot := rfl
@[simp] theorem State.modDisp_power (s : State) (f : Display → Display) : (s.modDisp f).power = s.power := rfl
@[simp] theorem State.modDisp_slices (s : State) (f : Display → Display) : (s.modDisp f).slices = s.slices := rfl
@[simp] theorem State.modDisp_order (s : State) (f : Display → Display) : (s.modDisp f).order = s.order := rfl
@[simp] theorem State.modDisp_slag (s : State) (f : Display → Display) : (s.modDisp f).slag = s.slag := rfl
@[simp] theorem State.modDisp_cfg (s : State) (f : Display → Display) : (s.modDisp f).cfg = s.cfg := rfl
@[simp] theorem State.modDisp_ports (s : State) (f : Display → Display) : (s.modDisp f).ports = s.ports := rfl
@[simp] theorem State.modDisp_net (s : State) (f : Display → Display) : (s.modDisp f).net = s.net := rfl
@[simp] theorem State.modDisp_locks (s : State) (f : Display → Display) : (s.modDisp f).locks = s.locks := rfl
@[simp] theorem State.modDisp_chans (s : State) (f : Display → Display) : (s.modDisp f).chans = s.chans := rfl
@[simp] theorem State.modDisp_mbxLockDone (s : State) (f : Display → Display) : (s.modDisp f).mbxLockDone = s.mbxLockDone := rfl
@[simp] theorem State.modDisp_pair (s : State) (f : Display → Display) : (s.modDisp f).pair = s.pair := rfl
@[simp] theorem State.modDisp_dram (s : State) (f : Display → Display) : (s.modDisp f).dram = s.dram := rfl
@[simp] theorem State.modDisp_memtest (s : State) (f : Display → Display) : (s.modDisp f).memtest = s.memtest := rfl
@[simp] theorem State.modDisp_cru (s : State) (f : Display → Display) : (s.modDisp f).cru = s.cru := rfl
@[simp] theorem State.modDisp_touch (s : State) (f : Display → Display) : (s.modDisp f).touch = s.touch := rfl
@[simp] theorem State.modDisp_haps (s : State) (f : Display → Display) : (s.modDisp f).haps = s.haps := rfl
@[simp] theorem State.modDisp_aud (s : State) (f : Display → Display) : (s.modDisp f).aud = s.aud := rfl

/-! State.modOu -/

@[simp] theorem State.modOu_pending (s : State) (n : Nat) (f : OutSt → OutSt) : (s.modOu n f).pending = s.pending := rfl
@[simp] theorem State.modOu_time (s : State) (n : Nat) (f : OutSt → OutSt) : (s.modOu n f).time = s.time := rfl
@[simp] theorem State.modOu_fresh (s : State) (n : Nat) (f : OutSt → OutSt) : (s.modOu n f).fresh = s.fresh := rfl
@[simp] theorem State.modOu_out (s : State) (n : Nat) (f : OutSt → OutSt) : (s.modOu n f).out = s.out := rfl
@[simp] theorem State.modOu_regs (s : State) (n : Nat) (f : OutSt → OutSt) : (s.modOu n f).regs = s.regs := rfl
@[simp] theorem State.modOu_fuses (s : State) (n : Nat) (f : OutSt → OutSt) : (s.modOu n f).fuses = s.fuses := rfl
@[simp] theorem State.modOu_boot (s : State) (n : Nat) (f : OutSt → OutSt) : (s.modOu n f).boot = s.boot := rfl
@[simp] theorem State.modOu_power (s : State) (n : Nat) (f : OutSt → OutSt) : (s.modOu n f).power = s.power := rfl
@[simp] theorem State.modOu_slices (s : State) (n : Nat) (f : OutSt → OutSt) : (s.modOu n f).slices = s.slices := rfl
@[simp] theorem State.modOu_order (s : State) (n : Nat) (f : OutSt → OutSt) : (s.modOu n f).order = s.order := rfl
@[simp] theorem State.modOu_slag (s : State) (n : Nat) (f : OutSt → OutSt) : (s.modOu n f).slag = s.slag := rfl
@[simp] theorem State.modOu_cfg (s : State) (n : Nat) (f : OutSt → OutSt) : (s.modOu n f).cfg = s.cfg := rfl
@[simp] theorem State.modOu_ports (s : State) (n : Nat) (f : OutSt → OutSt) : (s.modOu n f).ports = s.ports := rfl
@[simp] theorem State.modOu_net (s : State) (n : Nat) (f : OutSt → OutSt) : (s.modOu n f).net = s.net := rfl
@[simp] theorem State.modOu_locks (s : State) (n : Nat) (f : OutSt → OutSt) : (s.modOu n f).locks = s.locks := rfl
@[simp] theorem State.modOu_chans (s : State) (n : Nat) (f : OutSt → OutSt) : (s.modOu n f).chans = s.chans := rfl
@[simp] theorem State.modOu_mbxLockDone (s : State) (n : Nat) (f : OutSt → OutSt) : (s.modOu n f).mbxLockDone = s.mbxLockDone := rfl
@[simp] theorem State.modOu_pair (s : State) (n : Nat) (f : OutSt → OutSt) : (s.modOu n f).pair = s.pair := rfl
@[simp] theorem State.modOu_dram (s : State) (n : Nat) (f : OutSt → OutSt) : (s.modOu n f).dram = s.dram := rfl
@[simp] theorem State.modOu_memtest (s : State) (n : Nat) (f : OutSt → OutSt) : (s.modOu n f).memtest = s.memtest := rfl
@[simp] theorem State.modOu_cru (s : State) (n : Nat) (f : OutSt → OutSt) : (s.modOu n f).cru = s.cru := rfl
@[simp] theorem State.modOu_touch (s : State) (n : Nat) (f : OutSt → OutSt) : (s.modOu n f).touch = s.touch := rfl
@[simp] theorem State.modOu_haps (s : State) (n : Nat) (f : OutSt → OutSt) : (s.modOu n f).haps = s.haps := rfl
@[simp] theorem State.modOu_aud (s : State) (n : Nat) (f : OutSt → OutSt) : (s.modOu n f).aud = s.aud := rfl

/-! State.modHd -/

@[simp] theorem State.modHd_pending (s : State) (n : Nat) (f : Hardy → Hardy) : (s.modHd n f).pending = s.pending := rfl
@[simp] theorem State.modHd_time (s : State) (n : Nat) (f : Hardy → Hardy) : (s.modHd n f).time = s.time := rfl
@[simp] theorem State.modHd_fresh (s : State) (n : Nat) (f : Hardy → Hardy) : (s.modHd n f).fresh = s.fresh := rfl
@[simp] theorem State.modHd_out (s : State) (n : Nat) (f : Hardy → Hardy) : (s.modHd n f).out = s.out := rfl
@[simp] theorem State.modHd_regs (s : State) (n : Nat) (f : Hardy → Hardy) : (s.modHd n f).regs = s.regs := rfl
@[simp] theorem State.modHd_fuses (s : State) (n : Nat) (f : Hardy → Hardy) : (s.modHd n f).fuses = s.fuses := rfl
@[simp] theorem State.modHd_boot (s : State) (n : Nat) (f : Hardy → Hardy) : (s.modHd n f).boot = s.boot := rfl
@[simp] theorem State.modHd_power (s : State) (n : Nat) (f : Hardy → Hardy) : (s.modHd n f).power = s.power := rfl
@[simp] theorem State.modHd_slices (s : State) (n : Nat) (f : Hardy → Hardy) : (s.modHd n f).slices = s.slices := rfl
@[simp] theorem State.modHd_order (s : State) (n : Nat) (f : Hardy → Hardy) : (s.modHd n f).order = s.order := rfl
@[simp] theorem State.modHd_slag (s : State) (n : Nat) (f : Hardy → Hardy) : (s.modHd n f).slag = s.slag := rfl
@[simp] theorem State.modHd_cfg (s : State) (n : Nat) (f : Hardy → Hardy) : (s.modHd n f).cfg = s.cfg := rfl
@[simp] theorem State.modHd_ports (s : State) (n : Nat) (f : Hardy → Hardy) : (s.modHd n f).ports = s.ports := rfl
@[simp] theorem State.modHd_net (s : State) (n : Nat) (f : Hardy → Hardy) : (s.modHd n f).net = s.net := rfl
@[simp] theorem State.modHd_locks (s : State) (n : Nat) (f : Hardy → Hardy) : (s.modHd n f).locks = s.locks := rfl
@[simp] theorem State.modHd_chans (s : State) (n : Nat) (f : Hardy → Hardy) : (s.modHd n f).chans = s.chans := rfl
@[simp] theorem State.modHd_mbxLockDone (s : State) (n : Nat) (f : Hardy → Hardy) : (s.modHd n f).mbxLockDone = s.mbxLockDone := rfl
@[simp] theorem State.modHd_pair (s : State) (n : Nat) (f : Hardy → Hardy) : (s.modHd n f).pair = s.pair := rfl
@[simp] theorem State.modHd_dram (s : State) (n : Nat) (f : Hardy → Hardy) : (s.modHd n f).dram = s.dram := rfl
@[simp] theorem State.modHd_memtest (s : State) (n : Nat) (f : Hardy → Hardy) : (s.modHd n f).memtest = s.memtest := rfl
@[simp] theorem State.modHd_cru (s : State) (n : Nat) (f : Hardy → Hardy) : (s.modHd n f).cru = s.cru := rfl
@[simp] theorem State.modHd_touch (s : State) (n : Nat) (f : Hardy → Hardy) : (s.modHd n f).touch = s.touch := rfl
@[simp] theorem State.modHd_haps (s : State) (n : Nat) (f : Hardy → Hardy) : (s.modHd n f).haps = s.haps := rfl
@[simp] theorem State.modHd_aud (s : State) (n : Nat) (f : Hardy → Hardy) : (s.modHd n f).aud = s.aud := rfl

/-! State.modLimp -/

@[simp] theorem State.modLimp_pending (s : State) (f : Limp → Limp) : (s.modLimp f).pending = s.pending := rfl
@[simp] theorem State.modLimp_time (s : State) (f : Limp → Limp) : (s.modLimp f).time = s.time := rfl
@[simp] theorem State.modLimp_fresh (s : State) (f : Limp → Limp) : (s.modLimp f).fresh = s.fresh := rfl
@[simp] theorem State.modLimp_out (s : State) (f : Limp → Limp) : (s.modLimp f).out = s.out := rfl
@[simp] theorem State.modLimp_regs (s : State) (f : Limp → Limp) : (s.modLimp f).regs = s.regs := rfl
@[simp] theorem State.modLimp_fuses (s : State) (f : Limp → Limp) : (s.modLimp f).fuses = s.fuses := rfl
@[simp] theorem State.modLimp_boot (s : State) (f : Limp → Limp) : (s.modLimp f).boot = s.boot := rfl
@[simp] theorem State.modLimp_power (s : State) (f : Limp → Limp) : (s.modLimp f).power = s.power := rfl
@[simp] theorem State.modLimp_slices (s : State) (f : Limp → Limp) : (s.modLimp f).slices = s.slices := rfl
@[simp] theorem State.modLimp_order (s : State) (f : Limp → Limp) : (s.modLimp f).order = s.order := rfl
@[simp] theorem State.modLimp_slag (s : State) (f : Limp → Limp) : (s.modLimp f).slag = s.slag := rfl
@[simp] theorem State.modLimp_cfg (s : State) (f : Limp → Limp) : (s.modLimp f).cfg = s.cfg := rfl
@[simp] theorem State.modLimp_ports (s : State) (f : Limp → Limp) : (s.modLimp f).ports = s.ports := rfl
@[simp] theorem State.modLimp_net (s : State) (f : Limp → Limp) : (s.modLimp f).net = s.net := rfl
@[simp] theorem State.modLimp_locks (s : State) (f : Limp → Limp) : (s.modLimp f).locks = s.locks := rfl
@[simp] theorem State.modLimp_chans (s : State) (f : Limp → Limp) : (s.modLimp f).chans = s.chans := rfl
@[simp] theorem State.modLimp_mbxLockDone (s : State) (f : Limp → Limp) : (s.modLimp f).mbxLockDone = s.mbxLockDone := rfl
@[simp] theorem State.modLimp_pair (s : State) (f : Limp → Limp) : (s.modLimp f).pair = s.pair := rfl
@[simp] theorem State.modLimp_dram (s : State) (f : Limp → Limp) : (s.modLimp f).dram = s.dram := rfl
@[simp] theorem State.modLimp_memtest (s : State) (f : Limp → Limp) : (s.modLimp f).memtest = s.memtest := rfl
@[simp] theorem State.modLimp_cru (s : State) (f : Limp → Limp) : (s.modLimp f).cru = s.cru := rfl
@[simp] theorem State.modLimp_touch (s : State) (f : Limp → Limp) : (s.modLimp f).touch = s.touch := rfl
@[simp] theorem State.modLimp_haps (s : State) (f : Limp → Limp) : (s.modLimp f).haps = s.haps := rfl
@[simp] theorem State.modLimp_aud (s : State) (f : Limp → Limp) : (s.modLimp f).aud = s.aud := rfl

/-! State.modLay -/

@[simp] theorem State.modLay_pending (s : State) (k : Nat) (f : Layer → Layer) : (s.modLay k f).pending = s.pending := rfl
@[simp] theorem State.modLay_time (s : State) (k : Nat) (f : Layer → Layer) : (s.modLay k f).time = s.time := rfl
@[simp] theorem State.modLay_fresh (s : State) (k : Nat) (f : Layer → Layer) : (s.modLay k f).fresh = s.fresh := rfl
@[simp] theorem State.modLay_out (s : State) (k : Nat) (f : Layer → Layer) : (s.modLay k f).out = s.out := rfl
@[simp] theorem State.modLay_regs (s : State) (k : Nat) (f : Layer → Layer) : (s.modLay k f).regs = s.regs := rfl
@[simp] theorem State.modLay_fuses (s : State) (k : Nat) (f : Layer → Layer) : (s.modLay k f).fuses = s.fuses := rfl
@[simp] theorem State.modLay_boot (s : State) (k : Nat) (f : Layer → Layer) : (s.modLay k f).boot = s.boot := rfl
@[simp] theorem State.modLay_power (s : State) (k : Nat) (f : Layer → Layer) : (s.modLay k f).power = s.power := rfl
@[simp] theorem State.modLay_slices (s : State) (k : Nat) (f : Layer → Layer) : (s.modLay k f).slices = s.slices := rfl
@[simp] theorem State.modLay_order (s : State) (k : Nat) (f : Layer → Layer) : (s.modLay k f).order = s.order := rfl
@[simp] theorem State.modLay_slag (s : State) (k : Nat) (f : Layer → Layer) : (s.modLay k f).slag = s.slag := rfl
@[simp] theorem State.modLay_cfg (s : State) (k : Nat) (f : Layer → Layer) : (s.modLay k f).cfg = s.cfg := rfl
@[simp] theorem State.modLay_ports (s : State) (k : Nat) (f : Layer → Layer) : (s.modLay k f).ports = s.ports := rfl
@[simp] theorem State.modLay_net (s : State) (k : Nat) (f : Layer → Layer) : (s.modLay k f).net = s.net := rfl
@[simp] theorem State.modLay_locks (s : State) (k : Nat) (f : Layer → Layer) : (s.modLay k f).locks = s.locks := rfl
@[simp] theorem State.modLay_chans (s : State) (k : Nat) (f : Layer → Layer) : (s.modLay k f).chans = s.chans := rfl
@[simp] theorem State.modLay_mbxLockDone (s : State) (k : Nat) (f : Layer → Layer) : (s.modLay k f).mbxLockDone = s.mbxLockDone := rfl
@[simp] theorem State.modLay_pair (s : State) (k : Nat) (f : Layer → Layer) : (s.modLay k f).pair = s.pair := rfl
@[simp] theorem State.modLay_dram (s : State) (k : Nat) (f : Layer → Layer) : (s.modLay k f).dram = s.dram := rfl
@[simp] theorem State.modLay_memtest (s : State) (k : Nat) (f : Layer → Layer) : (s.modLay k f).memtest = s.memtest := rfl
@[simp] theorem State.modLay_cru (s : State) (k : Nat) (f : Layer → Layer) : (s.modLay k f).cru = s.cru := rfl
@[simp] theorem State.modLay_touch (s : State) (k : Nat) (f : Layer → Layer) : (s.modLay k f).touch = s.touch := rfl
@[simp] theorem State.modLay_haps (s : State) (k : Nat) (f : Layer → Layer) : (s.modLay k f).haps = s.haps := rfl
@[simp] theorem State.modLay_aud (s : State) (k : Nat) (f : Layer → Layer) : (s.modLay k f).aud = s.aud := rfl

/-! State.modScl -/

@[simp] theorem State.modScl_pending (s : State) (k : Nat) (f : ScalerSt → ScalerSt) : (s.modScl k f).pending = s.pending := rfl
@[simp] theorem State.modScl_time (s : State) (k : Nat) (f : ScalerSt → ScalerSt) : (s.modScl k f).time = s.time := rfl
@[simp] theorem State.modScl_fresh (s : State) (k : Nat) (f : ScalerSt → ScalerSt) : (s.modScl k f).fresh = s.fresh := rfl
@[simp] theorem State.modScl_out (s : State) (k : Nat) (f : ScalerSt → ScalerSt) : (s.modScl k f).out = s.out := rfl
@[simp] theorem State.modScl_regs (s : State) (k : Nat) (f : ScalerSt → ScalerSt) : (s.modScl k f).regs = s.regs := rfl
@[simp] theorem State.modScl_fuses (s : State) (k : Nat) (f : ScalerSt → ScalerSt) : (s.modScl k f).fuses = s.fuses := rfl
@[simp] theorem State.modScl_boot (s : State) (k : Nat) (f : ScalerSt → ScalerSt) : (s.modScl k f).boot = s.boot := rfl
@[simp] theorem State.modScl_power (s : State) (k : Nat) (f : ScalerSt → ScalerSt) : (s.modScl k f).power = s.power := rfl
@[simp] theorem State.modScl_slices (s : State) (k : Nat) (f : ScalerSt → ScalerSt) : (s.modScl k f).slices = s.slices := rfl
@[simp] theorem State.modScl_order (s : State) (k : Nat) (f : ScalerSt → ScalerSt) : (s.modScl k f).order = s.order := rfl
@[simp] theorem State.modScl_slag (s : State) (k : Nat) (f : ScalerSt → ScalerSt) : (s.modScl k f).slag = s.slag := rfl
@[simp] theorem State.modScl_cfg (s : State) (k : Nat) (f : ScalerSt → ScalerSt) : (s.modScl k f).cfg = s.cfg := rfl
@[simp] theorem State.modScl_ports (s : State) (k : Nat) (f : ScalerSt → ScalerSt) : (s.modScl k f).ports = s.ports := rfl
@[simp] theorem State.modScl_net (s : State) (k : Nat) (f : ScalerSt → ScalerSt) : (s.modScl k f).net = s.net := rfl
@[simp] theorem State.modScl_locks (s : State) (k : Nat) (f : ScalerSt → ScalerSt) : (s.modScl k f).locks = s.locks := rfl
@[simp] theorem State.modScl_chans (s : State) (k : Nat) (f : ScalerSt → ScalerSt) : (s.modScl k f).chans = s.chans := rfl
@[simp] theorem State.modScl_mbxLockDone (s : State) (k : Nat) (f : ScalerSt → ScalerSt) : (s.modScl k f).mbxLockDone = s.mbxLockDone := rfl
@[simp] theorem State.modScl_pair (s : State) (k : Nat) (f : ScalerSt → ScalerSt) : (s.modScl k f).pair = s.pair := rfl
@[simp] theorem State.modScl_dram (s : State) (k : Nat) (f : ScalerSt → ScalerSt) : (s.modScl k f).dram = s.dram := rfl
@[simp] theorem State.modScl_memtest (s : State) (k : Nat) (f : ScalerSt → ScalerSt) : (s.modScl k f).memtest = s.memtest := rfl
@[simp] theorem State.modScl_cru (s : State) (k : Nat) (f : ScalerSt → ScalerSt) : (s.modScl k f).cru = s.cru := rfl
@[simp] theorem State.modScl_touch (s : State) (k : Nat) (f : ScalerSt → ScalerSt) : (s.modScl k f).touch = s.touch := rfl
@[simp] theorem State.modScl_haps (s : State) (k : Nat) (f : ScalerSt → ScalerSt) : (s.modScl k f).haps = s.haps := rfl
@[simp] theorem State.modScl_aud (s : State) (k : Nat) (f : ScalerSt → ScalerSt) : (s.modScl k f).aud = s.aud := rfl

/-! State.modHv -/

@[simp] theorem State.modHv_pending (s : State) (n r : Nat) (f : HVerdict → HVerdict) : (s.modHv n r f).pending = s.pending := rfl
@[simp] theorem State.modHv_time (s : State) (n r : Nat) (f : HVerdict → HVerdict) : (s.modHv n r f).time = s.time := rfl
@[simp] theorem State.modHv_fresh (s : State) (n r : Nat) (f : HVerdict → HVerdict) : (s.modHv n r f).fresh = s.fresh := rfl
@[simp] theorem State.modHv_out (s : State) (n r : Nat) (f : HVerdict → HVerdict) : (s.modHv n r f).out = s.out := rfl
@[simp] theorem State.modHv_regs (s : State) (n r : Nat) (f : HVerdict → HVerdict) : (s.modHv n r f).regs = s.regs := rfl
@[simp] theorem State.modHv_fuses (s : State) (n r : Nat) (f : HVerdict → HVerdict) : (s.modHv n r f).fuses = s.fuses := rfl
@[simp] theorem State.modHv_boot (s : State) (n r : Nat) (f : HVerdict → HVerdict) : (s.modHv n r f).boot = s.boot := rfl
@[simp] theorem State.modHv_power (s : State) (n r : Nat) (f : HVerdict → HVerdict) : (s.modHv n r f).power = s.power := rfl
@[simp] theorem State.modHv_slices (s : State) (n r : Nat) (f : HVerdict → HVerdict) : (s.modHv n r f).slices = s.slices := rfl
@[simp] theorem State.modHv_order (s : State) (n r : Nat) (f : HVerdict → HVerdict) : (s.modHv n r f).order = s.order := rfl
@[simp] theorem State.modHv_slag (s : State) (n r : Nat) (f : HVerdict → HVerdict) : (s.modHv n r f).slag = s.slag := rfl
@[simp] theorem State.modHv_cfg (s : State) (n r : Nat) (f : HVerdict → HVerdict) : (s.modHv n r f).cfg = s.cfg := rfl
@[simp] theorem State.modHv_ports (s : State) (n r : Nat) (f : HVerdict → HVerdict) : (s.modHv n r f).ports = s.ports := rfl
@[simp] theorem State.modHv_net (s : State) (n r : Nat) (f : HVerdict → HVerdict) : (s.modHv n r f).net = s.net := rfl
@[simp] theorem State.modHv_locks (s : State) (n r : Nat) (f : HVerdict → HVerdict) : (s.modHv n r f).locks = s.locks := rfl
@[simp] theorem State.modHv_chans (s : State) (n r : Nat) (f : HVerdict → HVerdict) : (s.modHv n r f).chans = s.chans := rfl
@[simp] theorem State.modHv_mbxLockDone (s : State) (n r : Nat) (f : HVerdict → HVerdict) : (s.modHv n r f).mbxLockDone = s.mbxLockDone := rfl
@[simp] theorem State.modHv_pair (s : State) (n r : Nat) (f : HVerdict → HVerdict) : (s.modHv n r f).pair = s.pair := rfl
@[simp] theorem State.modHv_dram (s : State) (n r : Nat) (f : HVerdict → HVerdict) : (s.modHv n r f).dram = s.dram := rfl
@[simp] theorem State.modHv_memtest (s : State) (n r : Nat) (f : HVerdict → HVerdict) : (s.modHv n r f).memtest = s.memtest := rfl
@[simp] theorem State.modHv_cru (s : State) (n r : Nat) (f : HVerdict → HVerdict) : (s.modHv n r f).cru = s.cru := rfl
@[simp] theorem State.modHv_touch (s : State) (n r : Nat) (f : HVerdict → HVerdict) : (s.modHv n r f).touch = s.touch := rfl
@[simp] theorem State.modHv_haps (s : State) (n r : Nat) (f : HVerdict → HVerdict) : (s.modHv n r f).haps = s.haps := rfl
@[simp] theorem State.modHv_aud (s : State) (n r : Nat) (f : HVerdict → HVerdict) : (s.modHv n r f).aud = s.aud := rfl

/-! State.modLink -/

@[simp] theorem State.modLink_pending (s : State) (n : Nat) (f : LinkSt → LinkSt) : (s.modLink n f).pending = s.pending := rfl
@[simp] theorem State.modLink_time (s : State) (n : Nat) (f : LinkSt → LinkSt) : (s.modLink n f).time = s.time := rfl
@[simp] theorem State.modLink_fresh (s : State) (n : Nat) (f : LinkSt → LinkSt) : (s.modLink n f).fresh = s.fresh := rfl
@[simp] theorem State.modLink_out (s : State) (n : Nat) (f : LinkSt → LinkSt) : (s.modLink n f).out = s.out := rfl
@[simp] theorem State.modLink_regs (s : State) (n : Nat) (f : LinkSt → LinkSt) : (s.modLink n f).regs = s.regs := rfl
@[simp] theorem State.modLink_fuses (s : State) (n : Nat) (f : LinkSt → LinkSt) : (s.modLink n f).fuses = s.fuses := rfl
@[simp] theorem State.modLink_boot (s : State) (n : Nat) (f : LinkSt → LinkSt) : (s.modLink n f).boot = s.boot := rfl
@[simp] theorem State.modLink_power (s : State) (n : Nat) (f : LinkSt → LinkSt) : (s.modLink n f).power = s.power := rfl
@[simp] theorem State.modLink_slices (s : State) (n : Nat) (f : LinkSt → LinkSt) : (s.modLink n f).slices = s.slices := rfl
@[simp] theorem State.modLink_order (s : State) (n : Nat) (f : LinkSt → LinkSt) : (s.modLink n f).order = s.order := rfl
@[simp] theorem State.modLink_slag (s : State) (n : Nat) (f : LinkSt → LinkSt) : (s.modLink n f).slag = s.slag := rfl
@[simp] theorem State.modLink_cfg (s : State) (n : Nat) (f : LinkSt → LinkSt) : (s.modLink n f).cfg = s.cfg := rfl
@[simp] theorem State.modLink_ports (s : State) (n : Nat) (f : LinkSt → LinkSt) : (s.modLink n f).ports = s.ports := rfl
@[simp] theorem State.modLink_net (s : State) (n : Nat) (f : LinkSt → LinkSt) : (s.modLink n f).net = s.net := rfl
@[simp] theorem State.modLink_locks (s : State) (n : Nat) (f : LinkSt → LinkSt) : (s.modLink n f).locks = s.locks := rfl
@[simp] theorem State.modLink_chans (s : State) (n : Nat) (f : LinkSt → LinkSt) : (s.modLink n f).chans = s.chans := rfl
@[simp] theorem State.modLink_mbxLockDone (s : State) (n : Nat) (f : LinkSt → LinkSt) : (s.modLink n f).mbxLockDone = s.mbxLockDone := rfl
@[simp] theorem State.modLink_pair (s : State) (n : Nat) (f : LinkSt → LinkSt) : (s.modLink n f).pair = s.pair := rfl
@[simp] theorem State.modLink_dram (s : State) (n : Nat) (f : LinkSt → LinkSt) : (s.modLink n f).dram = s.dram := rfl
@[simp] theorem State.modLink_memtest (s : State) (n : Nat) (f : LinkSt → LinkSt) : (s.modLink n f).memtest = s.memtest := rfl
@[simp] theorem State.modLink_cru (s : State) (n : Nat) (f : LinkSt → LinkSt) : (s.modLink n f).cru = s.cru := rfl
@[simp] theorem State.modLink_touch (s : State) (n : Nat) (f : LinkSt → LinkSt) : (s.modLink n f).touch = s.touch := rfl
@[simp] theorem State.modLink_haps (s : State) (n : Nat) (f : LinkSt → LinkSt) : (s.modLink n f).haps = s.haps := rfl
@[simp] theorem State.modLink_aud (s : State) (n : Nat) (f : LinkSt → LinkSt) : (s.modLink n f).aud = s.aud := rfl

/-! State.modDram -/

@[simp] theorem State.modDram_pending (s : State) (f : Dram → Dram) : (s.modDram f).pending = s.pending := rfl
@[simp] theorem State.modDram_time (s : State) (f : Dram → Dram) : (s.modDram f).time = s.time := rfl
@[simp] theorem State.modDram_fresh (s : State) (f : Dram → Dram) : (s.modDram f).fresh = s.fresh := rfl
@[simp] theorem State.modDram_out (s : State) (f : Dram → Dram) : (s.modDram f).out = s.out := rfl
@[simp] theorem State.modDram_regs (s : State) (f : Dram → Dram) : (s.modDram f).regs = s.regs := rfl
@[simp] theorem State.modDram_fuses (s : State) (f : Dram → Dram) : (s.modDram f).fuses = s.fuses := rfl
@[simp] theorem State.modDram_boot (s : State) (f : Dram → Dram) : (s.modDram f).boot = s.boot := rfl
@[simp] theorem State.modDram_power (s : State) (f : Dram → Dram) : (s.modDram f).power = s.power := rfl
@[simp] theorem State.modDram_slices (s : State) (f : Dram → Dram) : (s.modDram f).slices = s.slices := rfl
@[simp] theorem State.modDram_order (s : State) (f : Dram → Dram) : (s.modDram f).order = s.order := rfl
@[simp] theorem State.modDram_slag (s : State) (f : Dram → Dram) : (s.modDram f).slag = s.slag := rfl
@[simp] theorem State.modDram_cfg (s : State) (f : Dram → Dram) : (s.modDram f).cfg = s.cfg := rfl
@[simp] theorem State.modDram_ports (s : State) (f : Dram → Dram) : (s.modDram f).ports = s.ports := rfl
@[simp] theorem State.modDram_net (s : State) (f : Dram → Dram) : (s.modDram f).net = s.net := rfl
@[simp] theorem State.modDram_locks (s : State) (f : Dram → Dram) : (s.modDram f).locks = s.locks := rfl
@[simp] theorem State.modDram_chans (s : State) (f : Dram → Dram) : (s.modDram f).chans = s.chans := rfl
@[simp] theorem State.modDram_mbxLockDone (s : State) (f : Dram → Dram) : (s.modDram f).mbxLockDone = s.mbxLockDone := rfl
@[simp] theorem State.modDram_pair (s : State) (f : Dram → Dram) : (s.modDram f).pair = s.pair := rfl
@[simp] theorem State.modDram_memtest (s : State) (f : Dram → Dram) : (s.modDram f).memtest = s.memtest := rfl
@[simp] theorem State.modDram_disp (s : State) (f : Dram → Dram) : (s.modDram f).disp = s.disp := rfl
@[simp] theorem State.modDram_cru (s : State) (f : Dram → Dram) : (s.modDram f).cru = s.cru := rfl
@[simp] theorem State.modDram_touch (s : State) (f : Dram → Dram) : (s.modDram f).touch = s.touch := rfl
@[simp] theorem State.modDram_haps (s : State) (f : Dram → Dram) : (s.modDram f).haps = s.haps := rfl
@[simp] theorem State.modDram_aud (s : State) (f : Dram → Dram) : (s.modDram f).aud = s.aud := rfl

/-! State.modPow -/

@[simp] theorem State.modPow_pending (s : State) (f : Power → Power) : (s.modPow f).pending = s.pending := rfl
@[simp] theorem State.modPow_time (s : State) (f : Power → Power) : (s.modPow f).time = s.time := rfl
@[simp] theorem State.modPow_fresh (s : State) (f : Power → Power) : (s.modPow f).fresh = s.fresh := rfl
@[simp] theorem State.modPow_out (s : State) (f : Power → Power) : (s.modPow f).out = s.out := rfl
@[simp] theorem State.modPow_regs (s : State) (f : Power → Power) : (s.modPow f).regs = s.regs := rfl
@[simp] theorem State.modPow_fuses (s : State) (f : Power → Power) : (s.modPow f).fuses = s.fuses := rfl
@[simp] theorem State.modPow_boot (s : State) (f : Power → Power) : (s.modPow f).boot = s.boot := rfl
@[simp] theorem State.modPow_slices (s : State) (f : Power → Power) : (s.modPow f).slices = s.slices := rfl
@[simp] theorem State.modPow_order (s : State) (f : Power → Power) : (s.modPow f).order = s.order := rfl
@[simp] theorem State.modPow_slag (s : State) (f : Power → Power) : (s.modPow f).slag = s.slag := rfl
@[simp] theorem State.modPow_cfg (s : State) (f : Power → Power) : (s.modPow f).cfg = s.cfg := rfl
@[simp] theorem State.modPow_ports (s : State) (f : Power → Power) : (s.modPow f).ports = s.ports := rfl
@[simp] theorem State.modPow_net (s : State) (f : Power → Power) : (s.modPow f).net = s.net := rfl
@[simp] theorem State.modPow_locks (s : State) (f : Power → Power) : (s.modPow f).locks = s.locks := rfl
@[simp] theorem State.modPow_chans (s : State) (f : Power → Power) : (s.modPow f).chans = s.chans := rfl
@[simp] theorem State.modPow_mbxLockDone (s : State) (f : Power → Power) : (s.modPow f).mbxLockDone = s.mbxLockDone := rfl
@[simp] theorem State.modPow_pair (s : State) (f : Power → Power) : (s.modPow f).pair = s.pair := rfl
@[simp] theorem State.modPow_dram (s : State) (f : Power → Power) : (s.modPow f).dram = s.dram := rfl
@[simp] theorem State.modPow_memtest (s : State) (f : Power → Power) : (s.modPow f).memtest = s.memtest := rfl
@[simp] theorem State.modPow_disp (s : State) (f : Power → Power) : (s.modPow f).disp = s.disp := rfl
@[simp] theorem State.modPow_cru (s : State) (f : Power → Power) : (s.modPow f).cru = s.cru := rfl
@[simp] theorem State.modPow_touch (s : State) (f : Power → Power) : (s.modPow f).touch = s.touch := rfl
@[simp] theorem State.modPow_haps (s : State) (f : Power → Power) : (s.modPow f).haps = s.haps := rfl
@[simp] theorem State.modPow_aud (s : State) (f : Power → Power) : (s.modPow f).aud = s.aud := rfl

/-! State.modAud -/

@[simp] theorem State.modAud_pending (s : State) (f : Audio → Audio) : (s.modAud f).pending = s.pending := rfl
@[simp] theorem State.modAud_time (s : State) (f : Audio → Audio) : (s.modAud f).time = s.time := rfl
@[simp] theorem State.modAud_fresh (s : State) (f : Audio → Audio) : (s.modAud f).fresh = s.fresh := rfl
@[simp] theorem State.modAud_out (s : State) (f : Audio → Audio) : (s.modAud f).out = s.out := rfl
@[simp] theorem State.modAud_regs (s : State) (f : Audio → Audio) : (s.modAud f).regs = s.regs := rfl
@[simp] theorem State.modAud_fuses (s : State) (f : Audio → Audio) : (s.modAud f).fuses = s.fuses := rfl
@[simp] theorem State.modAud_boot (s : State) (f : Audio → Audio) : (s.modAud f).boot = s.boot := rfl
@[simp] theorem State.modAud_power (s : State) (f : Audio → Audio) : (s.modAud f).power = s.power := rfl
@[simp] theorem State.modAud_slices (s : State) (f : Audio → Audio) : (s.modAud f).slices = s.slices := rfl
@[simp] theorem State.modAud_order (s : State) (f : Audio → Audio) : (s.modAud f).order = s.order := rfl
@[simp] theorem State.modAud_slag (s : State) (f : Audio → Audio) : (s.modAud f).slag = s.slag := rfl
@[simp] theorem State.modAud_cfg (s : State) (f : Audio → Audio) : (s.modAud f).cfg = s.cfg := rfl
@[simp] theorem State.modAud_ports (s : State) (f : Audio → Audio) : (s.modAud f).ports = s.ports := rfl
@[simp] theorem State.modAud_net (s : State) (f : Audio → Audio) : (s.modAud f).net = s.net := rfl
@[simp] theorem State.modAud_locks (s : State) (f : Audio → Audio) : (s.modAud f).locks = s.locks := rfl
@[simp] theorem State.modAud_chans (s : State) (f : Audio → Audio) : (s.modAud f).chans = s.chans := rfl
@[simp] theorem State.modAud_mbxLockDone (s : State) (f : Audio → Audio) : (s.modAud f).mbxLockDone = s.mbxLockDone := rfl
@[simp] theorem State.modAud_pair (s : State) (f : Audio → Audio) : (s.modAud f).pair = s.pair := rfl
@[simp] theorem State.modAud_dram (s : State) (f : Audio → Audio) : (s.modAud f).dram = s.dram := rfl
@[simp] theorem State.modAud_memtest (s : State) (f : Audio → Audio) : (s.modAud f).memtest = s.memtest := rfl
@[simp] theorem State.modAud_disp (s : State) (f : Audio → Audio) : (s.modAud f).disp = s.disp := rfl
@[simp] theorem State.modAud_cru (s : State) (f : Audio → Audio) : (s.modAud f).cru = s.cru := rfl
@[simp] theorem State.modAud_touch (s : State) (f : Audio → Audio) : (s.modAud f).touch = s.touch := rfl
@[simp] theorem State.modAud_haps (s : State) (f : Audio → Audio) : (s.modAud f).haps = s.haps := rfl

/-! State.modHap -/

@[simp] theorem State.modHap_pending (s : State) (n : Nat) (f : Hap → Hap) : (s.modHap n f).pending = s.pending := rfl
@[simp] theorem State.modHap_time (s : State) (n : Nat) (f : Hap → Hap) : (s.modHap n f).time = s.time := rfl
@[simp] theorem State.modHap_fresh (s : State) (n : Nat) (f : Hap → Hap) : (s.modHap n f).fresh = s.fresh := rfl
@[simp] theorem State.modHap_out (s : State) (n : Nat) (f : Hap → Hap) : (s.modHap n f).out = s.out := rfl
@[simp] theorem State.modHap_regs (s : State) (n : Nat) (f : Hap → Hap) : (s.modHap n f).regs = s.regs := rfl
@[simp] theorem State.modHap_fuses (s : State) (n : Nat) (f : Hap → Hap) : (s.modHap n f).fuses = s.fuses := rfl
@[simp] theorem State.modHap_boot (s : State) (n : Nat) (f : Hap → Hap) : (s.modHap n f).boot = s.boot := rfl
@[simp] theorem State.modHap_power (s : State) (n : Nat) (f : Hap → Hap) : (s.modHap n f).power = s.power := rfl
@[simp] theorem State.modHap_slices (s : State) (n : Nat) (f : Hap → Hap) : (s.modHap n f).slices = s.slices := rfl
@[simp] theorem State.modHap_order (s : State) (n : Nat) (f : Hap → Hap) : (s.modHap n f).order = s.order := rfl
@[simp] theorem State.modHap_slag (s : State) (n : Nat) (f : Hap → Hap) : (s.modHap n f).slag = s.slag := rfl
@[simp] theorem State.modHap_cfg (s : State) (n : Nat) (f : Hap → Hap) : (s.modHap n f).cfg = s.cfg := rfl
@[simp] theorem State.modHap_ports (s : State) (n : Nat) (f : Hap → Hap) : (s.modHap n f).ports = s.ports := rfl
@[simp] theorem State.modHap_net (s : State) (n : Nat) (f : Hap → Hap) : (s.modHap n f).net = s.net := rfl
@[simp] theorem State.modHap_locks (s : State) (n : Nat) (f : Hap → Hap) : (s.modHap n f).locks = s.locks := rfl
@[simp] theorem State.modHap_chans (s : State) (n : Nat) (f : Hap → Hap) : (s.modHap n f).chans = s.chans := rfl
@[simp] theorem State.modHap_mbxLockDone (s : State) (n : Nat) (f : Hap → Hap) : (s.modHap n f).mbxLockDone = s.mbxLockDone := rfl
@[simp] theorem State.modHap_pair (s : State) (n : Nat) (f : Hap → Hap) : (s.modHap n f).pair = s.pair := rfl
@[simp] theorem State.modHap_dram (s : State) (n : Nat) (f : Hap → Hap) : (s.modHap n f).dram = s.dram := rfl
@[simp] theorem State.modHap_memtest (s : State) (n : Nat) (f : Hap → Hap) : (s.modHap n f).memtest = s.memtest := rfl
@[simp] theorem State.modHap_disp (s : State) (n : Nat) (f : Hap → Hap) : (s.modHap n f).disp = s.disp := rfl
@[simp] theorem State.modHap_cru (s : State) (n : Nat) (f : Hap → Hap) : (s.modHap n f).cru = s.cru := rfl
@[simp] theorem State.modHap_touch (s : State) (n : Nat) (f : Hap → Hap) : (s.modHap n f).touch = s.touch := rfl
@[simp] theorem State.modHap_aud (s : State) (n : Nat) (f : Hap → Hap) : (s.modHap n f).aud = s.aud := rfl

/-! State.modTg -/

@[simp] theorem State.modTg_pending (s : State) (g : Nat) (f : TouchGroup → TouchGroup) : (s.modTg g f).pending = s.pending := rfl
@[simp] theorem State.modTg_time (s : State) (g : Nat) (f : TouchGroup → TouchGroup) : (s.modTg g f).time = s.time := rfl
@[simp] theorem State.modTg_fresh (s : State) (g : Nat) (f : TouchGroup → TouchGroup) : (s.modTg g f).fresh = s.fresh := rfl
@[simp] theorem State.modTg_out (s : State) (g : Nat) (f : TouchGroup → TouchGroup) : (s.modTg g f).out = s.out := rfl
@[simp] theorem State.modTg_regs (s : State) (g : Nat) (f : TouchGroup → TouchGroup) : (s.modTg g f).regs = s.regs := rfl
@[simp] theorem State.modTg_fuses (s : State) (g : Nat) (f : TouchGroup → TouchGroup) : (s.modTg g f).fuses = s.fuses := rfl
@[simp] theorem State.modTg_boot (s : State) (g : Nat) (f : TouchGroup → TouchGroup) : (s.modTg g f).boot = s.boot := rfl
@[simp] theorem State.modTg_power (s : State) (g : Nat) (f : TouchGroup → TouchGroup) : (s.modTg g f).power = s.power := rfl
@[simp] theorem State.modTg_slices (s : State) (g : Nat) (f : TouchGroup → TouchGroup) : (s.modTg g f).slices = s.slices := rfl
@[simp] theorem State.modTg_order (s : State) (g : Nat) (f : TouchGroup → TouchGroup) : (s.modTg g f).order = s.order := rfl
@[simp] theorem State.modTg_slag (s : State) (g : Nat) (f : TouchGroup → TouchGroup) : (s.modTg g f).slag = s.slag := rfl
@[simp] theorem State.modTg_cfg (s : State) (g : Nat) (f : TouchGroup → TouchGroup) : (s.modTg g f).cfg = s.cfg := rfl
@[simp] theorem State.modTg_ports (s : State) (g : Nat) (f : TouchGroup → TouchGroup) : (s.modTg g f).ports = s.ports := rfl
@[simp] theorem State.modTg_net (s : State) (g : Nat) (f : TouchGroup → TouchGroup) : (s.modTg g f).net = s.net := rfl
@[simp] theorem State.modTg_locks (s : State) (g : Nat) (f : TouchGroup → TouchGroup) : (s.modTg g f).locks = s.locks := rfl
@[simp] theorem State.modTg_chans (s : State) (g : Nat) (f : TouchGroup → TouchGroup) : (s.modTg g f).chans = s.chans := rfl
@[simp] theorem State.modTg_mbxLockDone (s : State) (g : Nat) (f : TouchGroup → TouchGroup) : (s.modTg g f).mbxLockDone = s.mbxLockDone := rfl
@[simp] theorem State.modTg_pair (s : State) (g : Nat) (f : TouchGroup → TouchGroup) : (s.modTg g f).pair = s.pair := rfl
@[simp] theorem State.modTg_dram (s : State) (g : Nat) (f : TouchGroup → TouchGroup) : (s.modTg g f).dram = s.dram := rfl
@[simp] theorem State.modTg_memtest (s : State) (g : Nat) (f : TouchGroup → TouchGroup) : (s.modTg g f).memtest = s.memtest := rfl
@[simp] theorem State.modTg_disp (s : State) (g : Nat) (f : TouchGroup → TouchGroup) : (s.modTg g f).disp = s.disp := rfl
@[simp] theorem State.modTg_cru (s : State) (g : Nat) (f : TouchGroup → TouchGroup) : (s.modTg g f).cru = s.cru := rfl
@[simp] theorem State.modTg_haps (s : State) (g : Nat) (f : TouchGroup → TouchGroup) : (s.modTg g f).haps = s.haps := rfl
@[simp] theorem State.modTg_aud (s : State) (g : Nat) (f : TouchGroup → TouchGroup) : (s.modTg g f).aud = s.aud := rfl

/-! State.modCru -/

@[simp] theorem State.modCru_pending (s : State) (f : Cluster → Cluster) : (s.modCru f).pending = s.pending := rfl
@[simp] theorem State.modCru_time (s : State) (f : Cluster → Cluster) : (s.modCru f).time = s.time := rfl
@[simp] theorem State.modCru_fresh (s : State) (f : Cluster → Cluster) : (s.modCru f).fresh = s.fresh := rfl
@[simp] theorem State.modCru_out (s : State) (f : Cluster → Cluster) : (s.modCru f).out = s.out := rfl
@[simp] theorem State.modCru_regs (s : State) (f : Cluster → Cluster) : (s.modCru f).regs = s.regs := rfl
@[simp] theorem State.modCru_fuses (s : State) (f : Cluster → Cluster) : (s.modCru f).fuses = s.fuses := rfl
@[simp] theorem State.modCru_boot (s : State) (f : Cluster → Cluster) : (s.modCru f).boot = s.boot := rfl
@[simp] theorem State.modCru_power (s : State) (f : Cluster → Cluster) : (s.modCru f).power = s.power := rfl
@[simp] theorem State.modCru_slices (s : State) (f : Cluster → Cluster) : (s.modCru f).slices = s.slices := rfl
@[simp] theorem State.modCru_order (s : State) (f : Cluster → Cluster) : (s.modCru f).order = s.order := rfl
@[simp] theorem State.modCru_slag (s : State) (f : Cluster → Cluster) : (s.modCru f).slag = s.slag := rfl
@[simp] theorem State.modCru_cfg (s : State) (f : Cluster → Cluster) : (s.modCru f).cfg = s.cfg := rfl
@[simp] theorem State.modCru_ports (s : State) (f : Cluster → Cluster) : (s.modCru f).ports = s.ports := rfl
@[simp] theorem State.modCru_net (s : State) (f : Cluster → Cluster) : (s.modCru f).net = s.net := rfl
@[simp] theorem State.modCru_locks (s : State) (f : Cluster → Cluster) : (s.modCru f).locks = s.locks := rfl
@[simp] theorem State.modCru_chans (s : State) (f : Cluster → Cluster) : (s.modCru f).chans = s.chans := rfl
@[simp] theorem State.modCru_mbxLockDone (s : State) (f : Cluster → Cluster) : (s.modCru f).mbxLockDone = s.mbxLockDone := rfl
@[simp] theorem State.modCru_pair (s : State) (f : Cluster → Cluster) : (s.modCru f).pair = s.pair := rfl
@[simp] theorem State.modCru_dram (s : State) (f : Cluster → Cluster) : (s.modCru f).dram = s.dram := rfl
@[simp] theorem State.modCru_memtest (s : State) (f : Cluster → Cluster) : (s.modCru f).memtest = s.memtest := rfl
@[simp] theorem State.modCru_disp (s : State) (f : Cluster → Cluster) : (s.modCru f).disp = s.disp := rfl
@[simp] theorem State.modCru_touch (s : State) (f : Cluster → Cluster) : (s.modCru f).touch = s.touch := rfl
@[simp] theorem State.modCru_haps (s : State) (f : Cluster → Cluster) : (s.modCru f).haps = s.haps := rfl
@[simp] theorem State.modCru_aud (s : State) (f : Cluster → Cluster) : (s.modCru f).aud = s.aud := rfl

/-! State.putBundle -/

@[simp] theorem State.putBundle_pending (s : State) (b : Bundle) : (s.putBundle b).pending = s.pending := rfl
@[simp] theorem State.putBundle_time (s : State) (b : Bundle) : (s.putBundle b).time = s.time := rfl
@[simp] theorem State.putBundle_fresh (s : State) (b : Bundle) : (s.putBundle b).fresh = s.fresh := rfl
@[simp] theorem State.putBundle_out (s : State) (b : Bundle) : (s.putBundle b).out = s.out := rfl
@[simp] theorem State.putBundle_regs (s : State) (b : Bundle) : (s.putBundle b).regs = s.regs := rfl
@[simp] theorem State.putBundle_fuses (s : State) (b : Bundle) : (s.putBundle b).fuses = s.fuses := rfl
@[simp] theorem State.putBundle_boot (s : State) (b : Bundle) : (s.putBundle b).boot = s.boot := rfl
@[simp] theorem State.putBundle_power (s : State) (b : Bundle) : (s.putBundle b).power = s.power := rfl
@[simp] theorem State.putBundle_slices (s : State) (b : Bundle) : (s.putBundle b).slices = s.slices := rfl
@[simp] theorem State.putBundle_order (s : State) (b : Bundle) : (s.putBundle b).order = s.order := rfl
@[simp] theorem State.putBundle_slag (s : State) (b : Bundle) : (s.putBundle b).slag = s.slag := rfl
@[simp] theorem State.putBundle_cfg (s : State) (b : Bundle) : (s.putBundle b).cfg = s.cfg := rfl
@[simp] theorem State.putBundle_ports (s : State) (b : Bundle) : (s.putBundle b).ports = s.ports := rfl
@[simp] theorem State.putBundle_net (s : State) (b : Bundle) : (s.putBundle b).net = s.net := rfl
@[simp] theorem State.putBundle_locks (s : State) (b : Bundle) : (s.putBundle b).locks = s.locks := rfl
@[simp] theorem State.putBundle_chans (s : State) (b : Bundle) : (s.putBundle b).chans = s.chans := rfl
@[simp] theorem State.putBundle_mbxLockDone (s : State) (b : Bundle) : (s.putBundle b).mbxLockDone = s.mbxLockDone := rfl
@[simp] theorem State.putBundle_pair (s : State) (b : Bundle) : (s.putBundle b).pair = s.pair := rfl
@[simp] theorem State.putBundle_dram (s : State) (b : Bundle) : (s.putBundle b).dram = s.dram := rfl
@[simp] theorem State.putBundle_memtest (s : State) (b : Bundle) : (s.putBundle b).memtest = s.memtest := rfl
@[simp] theorem State.putBundle_disp (s : State) (b : Bundle) : (s.putBundle b).disp = s.disp := rfl
@[simp] theorem State.putBundle_touch (s : State) (b : Bundle) : (s.putBundle b).touch = s.touch := rfl
@[simp] theorem State.putBundle_haps (s : State) (b : Bundle) : (s.putBundle b).haps = s.haps := rfl
@[simp] theorem State.putBundle_aud (s : State) (b : Bundle) : (s.putBundle b).aud = s.aud := rfl

/-! State.modLock -/

@[simp] theorem State.modLock_pending (s : State) (k : Nat) (f : Lock → Lock) : (s.modLock k f).pending = s.pending := rfl
@[simp] theorem State.modLock_time (s : State) (k : Nat) (f : Lock → Lock) : (s.modLock k f).time = s.time := rfl
@[simp] theorem State.modLock_fresh (s : State) (k : Nat) (f : Lock → Lock) : (s.modLock k f).fresh = s.fresh := rfl
@[simp] theorem State.modLock_out (s : State) (k : Nat) (f : Lock → Lock) : (s.modLock k f).out = s.out := rfl
@[simp] theorem State.modLock_regs (s : State) (k : Nat) (f : Lock → Lock) : (s.modLock k f).regs = s.regs := rfl
@[simp] theorem State.modLock_fuses (s : State) (k : Nat) (f : Lock → Lock) : (s.modLock k f).fuses = s.fuses := rfl
@[simp] theorem State.modLock_boot (s : State) (k : Nat) (f : Lock → Lock) : (s.modLock k f).boot = s.boot := rfl
@[simp] theorem State.modLock_power (s : State) (k : Nat) (f : Lock → Lock) : (s.modLock k f).power = s.power := rfl
@[simp] theorem State.modLock_slices (s : State) (k : Nat) (f : Lock → Lock) : (s.modLock k f).slices = s.slices := rfl
@[simp] theorem State.modLock_order (s : State) (k : Nat) (f : Lock → Lock) : (s.modLock k f).order = s.order := rfl
@[simp] theorem State.modLock_slag (s : State) (k : Nat) (f : Lock → Lock) : (s.modLock k f).slag = s.slag := rfl
@[simp] theorem State.modLock_cfg (s : State) (k : Nat) (f : Lock → Lock) : (s.modLock k f).cfg = s.cfg := rfl
@[simp] theorem State.modLock_ports (s : State) (k : Nat) (f : Lock → Lock) : (s.modLock k f).ports = s.ports := rfl
@[simp] theorem State.modLock_net (s : State) (k : Nat) (f : Lock → Lock) : (s.modLock k f).net = s.net := rfl
@[simp] theorem State.modLock_chans (s : State) (k : Nat) (f : Lock → Lock) : (s.modLock k f).chans = s.chans := rfl
@[simp] theorem State.modLock_mbxLockDone (s : State) (k : Nat) (f : Lock → Lock) : (s.modLock k f).mbxLockDone = s.mbxLockDone := rfl
@[simp] theorem State.modLock_pair (s : State) (k : Nat) (f : Lock → Lock) : (s.modLock k f).pair = s.pair := rfl
@[simp] theorem State.modLock_dram (s : State) (k : Nat) (f : Lock → Lock) : (s.modLock k f).dram = s.dram := rfl
@[simp] theorem State.modLock_memtest (s : State) (k : Nat) (f : Lock → Lock) : (s.modLock k f).memtest = s.memtest := rfl
@[simp] theorem State.modLock_disp (s : State) (k : Nat) (f : Lock → Lock) : (s.modLock k f).disp = s.disp := rfl
@[simp] theorem State.modLock_cru (s : State) (k : Nat) (f : Lock → Lock) : (s.modLock k f).cru = s.cru := rfl
@[simp] theorem State.modLock_touch (s : State) (k : Nat) (f : Lock → Lock) : (s.modLock k f).touch = s.touch := rfl
@[simp] theorem State.modLock_haps (s : State) (k : Nat) (f : Lock → Lock) : (s.modLock k f).haps = s.haps := rfl
@[simp] theorem State.modLock_aud (s : State) (k : Nat) (f : Lock → Lock) : (s.modLock k f).aud = s.aud := rfl

/-! State.modChan -/

@[simp] theorem State.modChan_pending (s : State) (k : Nat) (f : Channel → Channel) : (s.modChan k f).pending = s.pending := rfl
@[simp] theorem State.modChan_time (s : State) (k : Nat) (f : Channel → Channel) : (s.modChan k f).time = s.time := rfl
@[simp] theorem State.modChan_fresh (s : State) (k : Nat) (f : Channel → Channel) : (s.modChan k f).fresh = s.fresh := rfl
@[simp] theorem State.modChan_out (s : State) (k : Nat) (f : Channel → Channel) : (s.modChan k f).out = s.out := rfl
@[simp] theorem State.modChan_regs (s : State) (k : Nat) (f : Channel → Channel) : (s.modChan k f).regs = s.regs := rfl
@[simp] theorem State.modChan_fuses (s : State) (k : Nat) (f : Channel → Channel) : (s.modChan k f).fuses = s.fuses := rfl
@[simp] theorem State.modChan_boot (s : State) (k : Nat) (f : Channel → Channel) : (s.modChan k f).boot = s.boot := rfl
@[simp] theorem State.modChan_power (s : State) (k : Nat) (f : Channel → Channel) : (s.modChan k f).power = s.power := rfl
@[simp] theorem State.modChan_slices (s : State) (k : Nat) (f : Channel → Channel) : (s.modChan k f).slices = s.slices := rfl
@[simp] theorem State.modChan_order (s : State) (k : Nat) (f : Channel → Channel) : (s.modChan k f).order = s.order := rfl
@[simp] theorem State.modChan_slag (s : State) (k : Nat) (f : Channel → Channel) : (s.modChan k f).slag = s.slag := rfl
@[simp] theorem State.modChan_cfg (s : State) (k : Nat) (f : Channel → Channel) : (s.modChan k f).cfg = s.cfg := rfl
@[simp] theorem State.modChan_ports (s : State) (k : Nat) (f : Channel → Channel) : (s.modChan k f).ports = s.ports := rfl
@[simp] theorem State.modChan_net (s : State) (k : Nat) (f : Channel → Channel) : (s.modChan k f).net = s.net := rfl
@[simp] theorem State.modChan_locks (s : State) (k : Nat) (f : Channel → Channel) : (s.modChan k f).locks = s.locks := rfl
@[simp] theorem State.modChan_mbxLockDone (s : State) (k : Nat) (f : Channel → Channel) : (s.modChan k f).mbxLockDone = s.mbxLockDone := rfl
@[simp] theorem State.modChan_pair (s : State) (k : Nat) (f : Channel → Channel) : (s.modChan k f).pair = s.pair := rfl
@[simp] theorem State.modChan_dram (s : State) (k : Nat) (f : Channel → Channel) : (s.modChan k f).dram = s.dram := rfl
@[simp] theorem State.modChan_memtest (s : State) (k : Nat) (f : Channel → Channel) : (s.modChan k f).memtest = s.memtest := rfl
@[simp] theorem State.modChan_disp (s : State) (k : Nat) (f : Channel → Channel) : (s.modChan k f).disp = s.disp := rfl
@[simp] theorem State.modChan_cru (s : State) (k : Nat) (f : Channel → Channel) : (s.modChan k f).cru = s.cru := rfl
@[simp] theorem State.modChan_touch (s : State) (k : Nat) (f : Channel → Channel) : (s.modChan k f).touch = s.touch := rfl
@[simp] theorem State.modChan_haps (s : State) (k : Nat) (f : Channel → Channel) : (s.modChan k f).haps = s.haps := rfl
@[simp] theorem State.modChan_aud (s : State) (k : Nat) (f : Channel → Channel) : (s.modChan k f).aud = s.aud := rfl

/-! State.setStep -/

@[simp] theorem State.setStep_pending (s : State) (k : Nat) : (s.setStep k).pending = s.pending := rfl
@[simp] theorem State.setStep_time (s : State) (k : Nat) : (s.setStep k).time = s.time := rfl
@[simp] theorem State.setStep_fresh (s : State) (k : Nat) : (s.setStep k).fresh = s.fresh := rfl
@[simp] theorem State.setStep_out (s : State) (k : Nat) : (s.setStep k).out = s.out := rfl
@[simp] theorem State.setStep_regs (s : State) (k : Nat) : (s.setStep k).regs = s.regs := rfl
@[simp] theorem State.setStep_fuses (s : State) (k : Nat) : (s.setStep k).fuses = s.fuses := rfl
@[simp] theorem State.setStep_power (s : State) (k : Nat) : (s.setStep k).power = s.power := rfl
@[simp] theorem State.setStep_slices (s : State) (k : Nat) : (s.setStep k).slices = s.slices := rfl
@[simp] theorem State.setStep_order (s : State) (k : Nat) : (s.setStep k).order = s.order := rfl
@[simp] theorem State.setStep_slag (s : State) (k : Nat) : (s.setStep k).slag = s.slag := rfl
@[simp] theorem State.setStep_cfg (s : State) (k : Nat) : (s.setStep k).cfg = s.cfg := rfl
@[simp] theorem State.setStep_ports (s : State) (k : Nat) : (s.setStep k).ports = s.ports := rfl
@[simp] theorem State.setStep_net (s : State) (k : Nat) : (s.setStep k).net = s.net := rfl
@[simp] theorem State.setStep_locks (s : State) (k : Nat) : (s.setStep k).locks = s.locks := rfl
@[simp] theorem State.setStep_chans (s : State) (k : Nat) : (s.setStep k).chans = s.chans := rfl
@[simp] theorem State.setStep_mbxLockDone (s : State) (k : Nat) : (s.setStep k).mbxLockDone = s.mbxLockDone := rfl
@[simp] theorem State.setStep_pair (s : State) (k : Nat) : (s.setStep k).pair = s.pair := rfl
@[simp] theorem State.setStep_dram (s : State) (k : Nat) : (s.setStep k).dram = s.dram := rfl
@[simp] theorem State.setStep_memtest (s : State) (k : Nat) : (s.setStep k).memtest = s.memtest := rfl
@[simp] theorem State.setStep_disp (s : State) (k : Nat) : (s.setStep k).disp = s.disp := rfl
@[simp] theorem State.setStep_cru (s : State) (k : Nat) : (s.setStep k).cru = s.cru := rfl
@[simp] theorem State.setStep_touch (s : State) (k : Nat) : (s.setStep k).touch = s.touch := rfl
@[simp] theorem State.setStep_haps (s : State) (k : Nat) : (s.setStep k).haps = s.haps := rfl
@[simp] theorem State.setStep_aud (s : State) (k : Nat) : (s.setStep k).aud = s.aud := rfl

end Sys2Proof.Machine
end

