-- ==== Sys2Proof/Laws/Crucible.lean ====
section
/-! SUPPORT. Crucible bundles: register files read back what was written, a stored bundle is found at its place, the chosen
bundle is one of the cluster's, and what a vector instruction does. -/
namespace Sys2Proof.Machine

theorem find_filter_of_key {α : Type} (v : List (Nat × α)) (q : Nat → Bool) (k : Nat) (h : q k = true) :
    (v.filter (fun e => q e.1)).find? (fun e => e.1 == k) = v.find? (fun e => e.1 == k) := by
  induction v with
  | nil => rfl
  | cons e t ih =>
    by_cases he : e.1 = k
    · subst he; simp [h]
    · by_cases hq : q e.1 = true
      · simp [hq, he, ih]
      · simp [hq, he, ih]

theorem find_filter_none {α : Type} (v : List (Nat × α)) (q : Nat → Bool) (k : Nat) (h : q k = false) :
    (v.filter (fun e => q e.1)).find? (fun e => e.1 == k) = none := by
  rw [List.find?_eq_none]
  intro e he hk
  have := (List.mem_filter.mp he).2
  simp at hk
  simp [hk, h] at this

/-- A register reads back the word stored in it. -/
theorem VRegs.get_put_self (v : VRegs) (r l : Nat) (x : Word) : VRegs.get (VRegs.put v r l x) r l = x := by
  have h1 := find_filter_none v (fun n => decide (n < 16 * r + l)) (16 * r + l) (by simp)
  have h2 := find_filter_none v (fun n => decide (16 * r + l < n)) (16 * r + l) (by simp)
  simp only [VRegs.get, VRegs.put, List.find?_append, h1, h2]
  by_cases hx : x = 0
  · subst hx; simp
  · rw [if_neg hx]; simp

/-- Storing a register leaves every other one alone. -/
theorem VRegs.get_put_other (v : VRegs) (r l r' l' : Nat) (x : Word) (h : 16 * r' + l' ≠ 16 * r + l) :
    VRegs.get (VRegs.put v r l x) r' l' = VRegs.get v r' l' := by
  have e : (if x = 0 then [] else [(16 * r + l, x)] : List (Nat × Word)).find? (fun e => e.1 == 16 * r' + l') = none := by
    by_cases hx : x = 0
    · rw [if_pos hx]; rfl
    · rw [if_neg hx]; simp; omega
  simp only [VRegs.get, VRegs.put, List.find?_append, e]
  rcases Nat.lt_or_ge (16 * r' + l') (16 * r + l) with hlt | hge
  · have h1 := find_filter_of_key v (fun n => decide (n < 16 * r + l)) (16 * r' + l') (by simpa using hlt)
    have h2 := find_filter_none v (fun n => decide (16 * r + l < n)) (16 * r' + l') (by simp; omega)
    simp only [h1, h2]; simp
  · have h1 := find_filter_none v (fun n => decide (n < 16 * r + l)) (16 * r' + l') (by simp; omega)
    have h2 := find_filter_of_key v (fun n => decide (16 * r + l < n)) (16 * r' + l') (by simp; omega)
    simp only [h1, h2]; simp

/-- Writing register `d` in lanes leaves the other registers and lanes alone. -/
theorem VRegs.get_foldl_put (ls : List Nat) (d : Nat) (f : Nat → Word) (v : VRegs) (r l : Nat) (hl : l < 16)
    (hls : ∀ x ∈ ls, x < 16) :
    VRegs.get (ls.foldl (fun v x => VRegs.put v d x (f x)) v) r l = if r = d ∧ l ∈ ls then f l else VRegs.get v r l := by
  induction ls generalizing v with
  | nil => simp
  | cons x t ih =>
    have hx : x < 16 := hls x (by simp)
    rw [List.foldl_cons, ih _ (fun y hy => hls y (by simp [hy]))]
    by_cases h : r = d ∧ l ∈ t
    · simp [h]
    · rw [if_neg h]
      by_cases hx' : r = d ∧ l = x
      · obtain ⟨rfl, rfl⟩ := hx'
        simp [VRegs.get_put_self]
      · rw [VRegs.get_put_other _ _ _ _ _ _ (by omega)]
        by_cases hm : r = d ∧ l ∈ x :: t
        · obtain ⟨hd, hm⟩ := hm
          rcases List.mem_cons.mp hm with e | e
          · exact absurd ⟨hd, e⟩ hx'
          · exact absurd ⟨hd, e⟩ h
        · rw [if_neg hm]

theorem mem_lanesOf (m : BitVec 16) (l : Nat) : l ∈ lanesOf m ↔ l < 16 ∧ m.getLsbD l = true := by
  simp [lanesOf]

/-- A vector write. -/
theorem wrote_w (b : Bundle) (d : Nat) (m : BitVec 16) (f : Nat → Nat) : Wrote b (b.w d (lanesOf m) f) d m f := by
  intro r _ l hl
  rw [Bundle.w, VRegs.get_foldl_put (lanesOf m) d (fun l => BitVec.ofNat 32 (f l)) b.v r l hl
    (fun x hx => ((mem_lanesOf m x).mp hx).1)]
  simp [mem_lanesOf, hl]

theorem pick_mem_aux (l : List Bundle) (acc : Option Bundle) (b : Bundle)
    (h : l.foldl (fun acc b => match acc with
      | none => some b
      | some a => if b.issued < a.issued || (b.issued == a.issued && b.slot < a.slot) then some b else some a) acc = some b) :
    b ∈ l ∨ acc = some b := by
  induction l generalizing acc with
  | nil => right; simpa using h
  | cons x t ih =>
    rw [List.foldl_cons] at h
    rcases ih _ h with h | h
    · left; simp [h]
    · cases acc with
      | none => left; simp at h; simp [h]
      | some a =>
        simp only at h
        split at h
        · left; simp at h; simp [h]
        · right; exact h

/-- The chosen bundle is one of the cluster's. -/
theorem pick_mem {s : State} {c : Nat} {b : Bundle} (h : s.pick c = some b) : b ∈ s.cru.bundles := by
  unfold State.pick at h
  split at h
  · cases h
  · rcases pick_mem_aux _ _ _ h with h | h
    · exact (List.mem_filter.mp h).1
    · cases h

/-- A core that issues carries out the instruction's action on the bundle, counted as issued. -/
theorem cruIssue_of {s : State} {c : Fin 48} {b : Bundle} {i : Ins} (h : s.Issues c b i) (cls opc : Nat)
    (hc : i.cls = cls) (ho : i.opc = opc) (f : Ins → Bundle → State → State) :
    s.cruIssue c cls opc f = f i { b with st := .ready, issued := s.cru.issues + 1 }
      (s.modCru (fun c => { c with issues := c.issues + 1 })) := by
  obtain ⟨hp, hw, hd, hv⟩ := h
  obtain ⟨w, hw', rfl⟩ := Option.map_eq_some_iff.mp hw
  simp [State.cruIssue, hp, hw', hd, hv, hc, ho]

/-- Storing the next state of a bundle at its place. -/
theorem became_put {s : State} {b b' : Bundle} (h1 : b'.slice = b.slice) (h2 : b'.core = b.core) (h3 : b'.slot = b.slot) :
    Became s ((s.modCru (fun c => { c with issues := c.issues + 1 })).putBundle b') b b' := by
  simp only [Became, State.bundlesWith, State.putBundle, State.modCru, h1, h2, h3]

end Sys2Proof.Machine
end

