-- ==== Sys2Proof/Laws/Memory.lean ====
section
/-! SUPPORT. The addressed memories and the register file: a write keeps the canonical form, reads back what it stored and
leaves every other place alone. -/
namespace Sys2Proof.Machine

/-! ## Memories -/

/-- The Boolean check says what it names. -/
theorem Mem.rising_iff (m : Mem) : Mem.rising m = true ↔ m.Pairwise (fun x y => x.1 < y.1) := by
  induction m with
  | nil => simp [Mem.rising]
  | cons x t ih =>
    cases t with
    | nil => simp [Mem.rising]
    | cons y r =>
      simp only [Mem.rising, Bool.and_eq_true, decide_eq_true_eq, ih]
      constructor
      · rintro ⟨h, hp⟩
        refine List.pairwise_cons.mpr ⟨fun z hz => ?_, hp⟩
        rcases List.mem_cons.mp hz with rfl | hz
        · exact h
        · exact Nat.lt_trans h ((List.pairwise_cons.mp hp).1 z hz)
      · intro hp
        exact ⟨(List.pairwise_cons.mp hp).1 y (by simp), (List.pairwise_cons.mp hp).2⟩

/-- The canonical form as a proposition. -/
theorem Mem.wf_iff (m : Mem) (seed : Option Nat) :
    m.wf seed = true ↔ m.Pairwise (fun x y => x.1 < y.1) ∧ ∀ e ∈ m, lists seed e.2 = true := by
  simp [Mem.wf, Mem.rising_iff]

/-- A memory with nothing listed is canonical. -/
theorem Mem.wf_nil (seed : Option Nat) : Mem.wf [] seed = true := rfl

/-- The listed pairs of a run of bytes lie in the run and rise. -/
theorem Mem.cells_mem (seed : Option Nat) (bs : List Byte) (a : Nat) :
    ∀ e ∈ Mem.cells seed a bs, a ≤ e.1 ∧ e.1 < a + bs.length ∧ lists seed e.2 = true := by
  induction bs generalizing a with
  | nil => simp [Mem.cells]
  | cons b bs ih =>
    intro e he
    unfold Mem.cells at he
    split at he
    · rcases List.mem_cons.mp he with rfl | he
      · simp_all
      · obtain ⟨g1, g2, g3⟩ := ih (a + 1) e he
        exact ⟨by omega, by simp only [List.length_cons]; omega, g3⟩
    · obtain ⟨g1, g2, g3⟩ := ih (a + 1) e he
      exact ⟨by omega, by simp only [List.length_cons]; omega, g3⟩

theorem Mem.cells_rising (seed : Option Nat) (bs : List Byte) (a : Nat) :
    (Mem.cells seed a bs).Pairwise (fun x y => x.1 < y.1) := by
  induction bs generalizing a with
  | nil => simp [Mem.cells]
  | cons b bs ih =>
    unfold Mem.cells
    split
    · exact List.pairwise_cons.mpr ⟨fun e he => (Mem.cells_mem seed bs (a + 1) e he).1, ih (a + 1)⟩
    · exact ih (a + 1)

/-- A write keeps the canonical form. -/
theorem Mem.write_wf (m : Mem) (seed : Option Nat) (a : Nat) (bs : List Byte) (h : m.wf seed = true) :
    (m.write seed a bs).wf seed = true := by
  rw [Mem.wf_iff] at h ⊢
  obtain ⟨hp, hl⟩ := h
  constructor
  · simp only [Mem.write, List.pairwise_append, List.mem_append, List.mem_filter, decide_eq_true_eq]
    refine ⟨⟨hp.filter _, Mem.cells_rising seed bs a, ?_⟩, hp.filter _, ?_⟩
    · rintro x ⟨-, hx⟩ y hy
      have := (Mem.cells_mem seed bs a y hy).1; omega
    · rintro x (⟨-, hx⟩ | hx) y ⟨-, hy⟩
      · omega
      · have := (Mem.cells_mem seed bs a x hx).2.1; omega
  · intro e he
    simp only [Mem.write, List.mem_append, List.mem_filter] at he
    rcases he with (⟨he, -⟩ | he) | ⟨he, -⟩
    · exact hl e he
    · exact (Mem.cells_mem seed bs a e he).2.2
    · exact hl e he

/-- What a key test finds is untouched by a filter that keeps the key. -/
theorem Mem.find_keep {α : Type} (m : List (Nat × α)) (q : Nat × α → Bool) (k : Nat)
    (h : ∀ e : Nat × α, e.1 = k → q e = true) :
    (m.filter q).find? (fun e => e.1 == k) = m.find? (fun e => e.1 == k) := by
  induction m with
  | nil => rfl
  | cons e t ih =>
    by_cases he : e.1 = k
    · simp [h e he, he]
    · by_cases hq : q e = true
      · simp [hq, he, ih]
      · simp [hq, he, ih]

theorem Mem.find_drop {α : Type} (m : List (Nat × α)) (q : Nat × α → Bool) (k : Nat)
    (h : ∀ e : Nat × α, e.1 = k → q e = false) :
    (m.filter q).find? (fun e => e.1 == k) = none := by
  rw [List.find?_eq_none]
  intro e he hk
  have hq := (List.mem_filter.mp he).2
  rw [h e (by simpa using hk)] at hq
  cases hq

theorem Mem.find_cells_out (seed : Option Nat) (bs : List Byte) (a k : Nat) (h : k < a ∨ a + bs.length ≤ k) :
    (Mem.cells seed a bs).find? (fun e => e.1 == k) = none := by
  rw [List.find?_eq_none]
  intro e he hk
  have := Mem.cells_mem seed bs a e he
  simp at hk; omega

/-- A byte that is not listed equals the background under zeros. -/
theorem lists_false (seed : Option Nat) (b : Byte) (a : Nat) (h : lists seed b = false) : background seed a = b := by
  cases seed with
  | some k => simp [lists] at h
  | none => simp [lists] at h; simp [background, h]

theorem Mem.get_cells (seed : Option Nat) (bs : List Byte) (a k : Nat) (h1 : a ≤ k) (h2 : k < a + bs.length) :
    Mem.get (Mem.cells seed a bs) seed k = bs.getD (k - a) 0 := by
  induction bs generalizing a with
  | nil => simp at h2; omega
  | cons b bs ih =>
    rcases Nat.eq_or_lt_of_le h1 with rfl | hlt
    · unfold Mem.cells
      split
      · simp [Mem.get]
      · rename_i hl
        rw [Mem.get, Mem.find_cells_out seed bs (a + 1) a (by omega)]
        simp [lists_false seed b a (by simpa using hl)]
    · have e : Mem.get (Mem.cells seed a (b :: bs)) seed k = Mem.get (Mem.cells seed (a + 1) bs) seed k := by
        rw [Mem.cells]
        split
        · simp only [Mem.get, List.find?_cons, show ((a == k) = false) by simp; omega]
        · rfl
      rw [e, ih (a + 1) hlt (by simp only [List.length_cons] at h2; omega)]
      obtain ⟨d, hd⟩ : ∃ d, k - a = d + 1 := ⟨k - a - 1, by omega⟩
      rw [hd, show k - (a + 1) = d by omega, List.getD_cons_succ]

/-- A read after a write: the stored byte inside the run, the old byte outside. -/
theorem Mem.get_write (m : Mem) (seed : Option Nat) (a k : Nat) (bs : List Byte) :
    (m.write seed a bs).get seed k = if a ≤ k ∧ k < a + bs.length then bs.getD (k - a) 0 else m.get seed k := by
  split
  · rename_i h
    rw [← Mem.get_cells seed bs a k h.1 h.2]
    simp only [Mem.get, Mem.write, List.find?_append]
    rw [Mem.find_drop m _ k (by intro e he; simp; omega), Mem.find_drop m _ k (by intro e he; simp; omega)]
    simp
  · rename_i h
    simp only [Mem.get, Mem.write, List.find?_append]
    rw [Mem.find_cells_out seed bs a k (by omega)]
    rcases Nat.lt_or_ge k a with hk | hk
    · rw [Mem.find_keep m _ k (by intro e he; simp; omega), Mem.find_drop m _ k (by intro e he; simp; omega)]
      simp
    · rw [Mem.find_drop m _ k (by intro e he; simp; omega), Mem.find_keep m _ k (by intro e he; simp; omega)]
      simp

/-- A surface write keeps the surface's memory canonical and its header. -/
theorem Surface.write_wf (u : Surface) (off : Nat) (bs : List Byte) (h : u.mem.wf u.seed = true) :
    (u.write off bs).mem.wf (u.write off bs).seed = true := Mem.write_wf u.mem u.seed off bs h

/-- A rectangle write keeps the surface's memory canonical. -/
theorem Surface.writeRect_wf (u : Surface) (x y w h : Nat) (bs : List Byte) (hu : u.mem.wf u.seed = true) :
    (u.writeRect x y w h bs).mem.wf (u.writeRect x y w h bs).seed = true := by
  simp only [Surface.writeRect, foldN]
  generalize List.range h = l
  generalize bpp u.format = b
  induction l generalizing u with
  | nil => exact hu
  | cons r t ih => exact ih _ (Surface.write_wf u _ _ hu)

/-- A zero-filled granule keeps the Anvil canonical. -/
theorem zeroGranule_wf (m : Mem) (g : Nat) (h : m.wf none = true) : (zeroGranule m g).wf none = true := by
  rw [Mem.wf_iff] at h ⊢
  exact ⟨h.1.filter _, fun e he => h.2 e (List.mem_filter.mp he).1⟩

/-- Zero-filled granules keep the Anvil canonical. -/
theorem State.zeroGranules_wf (s : State) (gs : List Nat) (h : s.disp.anvil.wf none = true) :
    (s.zeroGranules gs).disp.anvil.wf none = true := by
  show (gs.foldl zeroGranule s.disp.anvil).wf none = true
  generalize s.disp.anvil = m at h
  induction gs generalizing m with
  | nil => exact h
  | cons g t ih => exact ih _ (zeroGranule_wf m g h)

/-- A copied granule keeps the Anvil canonical. -/
theorem copyGranule_wf (m : Mem) (src dst : Nat) (h : m.wf none = true) : (copyGranule m src dst).wf none = true := by
  rw [Mem.wf_iff] at h ⊢
  obtain ⟨hp, hl⟩ := h
  constructor
  · simp only [copyGranule, List.pairwise_append, List.mem_append, List.mem_filter, List.mem_map, decide_eq_true_eq,
      Bool.and_eq_true, List.pairwise_map]
    refine ⟨⟨hp.filter _, ?_, ?_⟩, hp.filter _, ?_⟩
    · refine (hp.filter _).imp_of_mem ?_
      intro a b ha hb hab
      have ha := (List.mem_filter.mp ha).2
      simp at ha ⊢; omega
    · rintro x ⟨-, hx⟩ y ⟨z, ⟨-, hz⟩, rfl⟩
      simp only []; omega
    · rintro x (⟨-, hx⟩ | ⟨z, ⟨-, hz⟩, rfl⟩) y ⟨-, hy⟩
      · omega
      · simp only []; omega
  · intro e he
    simp only [copyGranule, List.mem_append, List.mem_filter, List.mem_map] at he
    rcases he with (⟨he, -⟩ | ⟨z, ⟨hz, -⟩, rfl⟩) | ⟨he, -⟩
    · exact hl e he
    · exact hl z hz
    · exact hl e he

/-- The Anvil after a write of bytes keeps its form. -/
theorem State.anvilWrite_wf (s : State) (a : Nat) (bs : List Byte) (h : s.disp.anvil.wf none = true) :
    (s.anvilWrite a bs).disp.anvil.wf none = true := Mem.write_wf _ _ _ _ h

/-! ## Lists changed in one place -/

@[simp] theorem modAt_length {α : Type} (l : List α) (i : Nat) (f : α → α) : (modAt l i f).length = l.length := by
  induction l generalizing i with
  | nil => rfl
  | cons x t ih => cases i <;> simp [modAt, ih]

theorem modAt_getElem? {α : Type} (l : List α) (i j : Nat) (f : α → α) :
    (modAt l i f)[j]? = if j = i then l[j]?.map f else l[j]? := by
  induction l generalizing i j with
  | nil => simp [modAt]
  | cons x t ih => cases i <;> cases j <;> simp [modAt, ih]

theorem modAt_getD_self {α : Type} (l : List α) (i : Nat) (f : α → α) (d : α) (h : i < l.length) :
    (modAt l i f).getD i d = f (l.getD i d) := by
  rw [List.getD_eq_getElem?_getD, modAt_getElem?, if_pos rfl, List.getElem?_eq_getElem h, List.getD_eq_getElem?_getD,
    List.getElem?_eq_getElem h]
  rfl

theorem modAt_getD_other {α : Type} (l : List α) (i j : Nat) (f : α → α) (d : α) (h : j ≠ i) :
    (modAt l i f).getD j d = l.getD j d := by
  simp [List.getD_eq_getElem?_getD, modAt_getElem?, h]

/-- A changed slice is the function of the old one. -/
theorem State.slice_modSlice_self (s : State) (n : Nat) (f : Slice → Slice) (h : n < s.slices.length) :
    (s.modSlice n f).slice n = f (s.slice n) := modAt_getD_self _ _ _ _ h

/-- The other slices stay. -/
theorem State.slice_modSlice_other (s : State) (n k : Nat) (f : Slice → Slice) (h : k ≠ n) :
    (s.modSlice n f).slice k = s.slice k := modAt_getD_other _ _ _ _ _ h

/-! ## The register file -/

/-- What an unlisted register reads as. -/
theorem RegFile.get_unlisted (r : RegFile) (k : Nat) (h : r.find? (fun e => e.1 == k) = none) :
    r.get k = BitVec.ofNat 32 (regReset (k % bankStride)) := by
  simp [RegFile.get, h]

theorem RegFile.find_ins (r : RegFile) (key k : Nat) (v : Word) (h : ∀ e ∈ r, e.1 ≠ key) :
    (r.ins key v).find? (fun e => e.1 == k) = if k = key then some (key, v) else r.find? (fun e => e.1 == k) := by
  induction r with
  | nil =>
    by_cases hk : k = key
    · simp [RegFile.ins, hk]
    · simp [RegFile.ins, hk]; omega
  | cons e t ih =>
    have he : e.1 ≠ key := h e (by simp)
    have ht := ih (fun x hx => h x (by simp [hx]))
    unfold RegFile.ins
    by_cases hk : k = key
    · subst hk
      split <;> simp_all
    · have hk' : ¬ key = k := fun x => hk x.symm
      split
      · by_cases hek : e.1 = k
        · simp [hek]
        · simp [hek, ht, hk]
      · simp [hk']

theorem RegFile.find_self (r : RegFile) (key : Nat) :
    (r.filter (fun e => e.1 != key)).find? (fun e => e.1 == key) = none :=
  Mem.find_drop r _ key (by intro e he; simp [he])

/-- A register reads back the value stored. -/
theorem RegFile.get_put_self (r : RegFile) (key : Nat) (v : Word) : (r.put key v).get key = v := by
  unfold RegFile.put
  split
  · rename_i h
    rw [RegFile.get_unlisted _ _ (RegFile.find_self r key)]
    exact (by simpa using h : v = _).symm
  · rw [RegFile.get, RegFile.find_ins _ _ _ _ (by intro e he; simpa using (List.mem_filter.mp he).2)]
    simp

/-- Storing a register leaves every other one alone. -/
theorem RegFile.get_put_other (r : RegFile) (key k : Nat) (v : Word) (h : k ≠ key) : (r.put key v).get k = r.get k := by
  have hf : (r.filter (fun e => e.1 != key)).find? (fun e => e.1 == k) = r.find? (fun e => e.1 == k) :=
    Mem.find_keep r _ k (by intro e he; simp [he, h])
  unfold RegFile.put
  split
  · simp only [RegFile.get, hf]
  · rw [RegFile.get, RegFile.find_ins _ _ _ _ (by intro e he; simpa using (List.mem_filter.mp he).2)]
    simp only [if_neg h, hf, RegFile.get]

/-- The check on neighbours says the keys rise. -/
theorem RegFile.rising_iff (r : RegFile) :
    (r.zip (r.drop 1)).all (fun p => decide (p.1.1 < p.2.1)) = true ↔ r.Pairwise (fun x y => x.1 < y.1) := by
  induction r with
  | nil => simp
  | cons x t ih =>
    cases t with
    | nil => simp
    | cons y u =>
      have e : ((x :: y :: u).zip ((x :: y :: u).drop 1)) = (x, y) :: ((y :: u).zip ((y :: u).drop 1)) := by simp
      rw [e, List.all_cons, Bool.and_eq_true, ih, decide_eq_true_eq]
      constructor
      · rintro ⟨h, hp⟩
        refine List.pairwise_cons.mpr ⟨fun z hz => ?_, hp⟩
        rcases List.mem_cons.mp hz with rfl | hz
        · exact h
        · exact Nat.lt_trans h ((List.pairwise_cons.mp hp).1 z hz)
      · intro hp
        exact ⟨(List.pairwise_cons.mp hp).1 y (by simp), (List.pairwise_cons.mp hp).2⟩

theorem RegFile.wf_iff (r : RegFile) :
    r.wf = true ↔ r.Pairwise (fun x y => x.1 < y.1) ∧ ∀ e ∈ r, e.2 ≠ BitVec.ofNat 32 (regReset (e.1 % bankStride)) := by
  simp only [RegFile.wf, Bool.and_eq_true, RegFile.rising_iff]
  simp

theorem RegFile.mem_ins (r : RegFile) (key : Nat) (v : Word) (e : Nat × Word) :
    e ∈ r.ins key v ↔ e = (key, v) ∨ e ∈ r := by
  induction r with
  | nil => simp [RegFile.ins]
  | cons x t ih =>
    unfold RegFile.ins
    split
    · rw [List.mem_cons, ih, List.mem_cons]; exact or_left_comm
    · simp

theorem RegFile.ins_rising (r : RegFile) (key : Nat) (v : Word) (h : r.Pairwise (fun x y => x.1 < y.1))
    (hk : ∀ e ∈ r, e.1 ≠ key) : (r.ins key v).Pairwise (fun x y => x.1 < y.1) := by
  induction r with
  | nil => simp [RegFile.ins]
  | cons x t ih =>
    obtain ⟨h1, h2⟩ := List.pairwise_cons.mp h
    unfold RegFile.ins
    split
    · rename_i hx
      refine List.pairwise_cons.mpr ⟨fun e he => ?_, ih h2 (fun e he => hk e (by simp [he]))⟩
      rcases (RegFile.mem_ins t key v e).mp he with rfl | he
      · exact hx
      · exact h1 e he
    · rename_i hx
      have hxk : key < x.1 := by have := hk x (by simp); omega
      refine List.pairwise_cons.mpr ⟨fun e he => ?_, h⟩
      rcases List.mem_cons.mp he with rfl | he
      · exact hxk
      · exact Nat.lt_trans hxk (h1 e he)

/-- Storing a register keeps the canonical form. -/
theorem RegFile.put_wf (r : RegFile) (key : Nat) (v : Word) (h : r.wf = true) : (r.put key v).wf = true := by
  rw [RegFile.wf_iff] at h
  obtain ⟨hp, hl⟩ := h
  unfold RegFile.put
  split
  · rw [RegFile.wf_iff]
    exact ⟨hp.filter _, fun e he => hl e (List.mem_filter.mp he).1⟩
  · rename_i hv
    rw [RegFile.wf_iff]
    refine ⟨RegFile.ins_rising _ _ _ (hp.filter _) (by intro e he; simpa using (List.mem_filter.mp he).2), ?_⟩
    intro e he
    rcases (RegFile.mem_ins _ _ _ _).mp he with rfl | he
    · simpa using hv
    · exact hl e (List.mem_filter.mp he).1

/-- A stored register reads back its low 32 bits. -/
theorem State.reg_setReg_self (s : State) (off v : Nat) : (s.setReg off v).reg off = v % 2 ^ 32 := by
  simp [State.reg, State.setReg, RegFile.get_put_self]

/-- Storing a register leaves every other one alone. -/
theorem State.reg_setReg_other (s : State) (off k v : Nat) (h : k ≠ off) : (s.setReg off v).reg k = s.reg k := by
  simp [State.reg, State.setReg, RegFile.get_put_other _ _ _ _ h]

/-- Storing a field leaves every other register alone. -/
theorem State.reg_setFld_other (s : State) (off k lo w v : Nat) (h : k ≠ off) : (s.setFld off lo w v).reg k = s.reg k :=
  State.reg_setReg_other _ _ _ _ h

/-- Storing a register keeps the register file canonical. -/
theorem State.setReg_wf (s : State) (off v : Nat) (h : s.regs.wf = true) : (s.setReg off v).regs.wf = true :=
  RegFile.put_wf _ _ _ h

/-- Storing a field keeps the register file canonical. -/
theorem State.setFld_wf (s : State) (off lo w v : Nat) (h : s.regs.wf = true) : (s.setFld off lo w v).regs.wf = true :=
  RegFile.put_wf _ _ _ h

end Sys2Proof.Machine
end

