-- ==== Sys2Proof/WellFormed.lean ====
section
/-! DEFINITION. Well-formed commands: what the shapes of the manual's own fields ask of the lists a command carries. The other
operands are bounded by their types. Nothing in the machine depends on it: a command that is not well-formed stands for no
event outside. -/
namespace Sys2Proof
open Machine

/-- A billet's payload has at most 4064 bytes (R39). -/
def Billet.wf (b : Billet) : Bool := decide (b.payload.length ≤ 4064)

/-- A billet as read has LENGTH payload bytes, at most 4064 (R39). -/
def BilletMsg.wf (m : BilletMsg) : Bool := m.payload.length == m.length.toNat && decide (m.payload.length ≤ 4064)

/-- Start-up reads 1536 header bytes in each slot (R653). -/
def Machine.BootEnv.wf (e : BootEnv) : Bool := e.slotA.header.length == 1536 && e.slotB.header.length == 1536

/-- Eight microphones and four TDM ports (R550, R552). -/
def AudioPins.wf (p : AudioPins) : Bool := p.mics.length == 8 && p.tdm.length == 4

/-- The parts of a state transfer carry memories in canonical form and tables of the sizes of the largest variant (R3, R434). -/
def Machine.StPart.wf : StPart → Bool
  | .config _ => true
  | .slice n x => decide (n < 16) && x.slots.length == 64 && x.surfaces.all (fun u => u.mem.wf u.seed)
  | .compose l _ k => l.length == 64 && k.length == 8
  | .output n _ _ _ _ _ _ _ => decide (n < 8)
  | .hardy n h b0 b1 => decide (n < 8) && h.regs.length == 16 && h.pend.length == 16 && h.st.length == 16 && b0.wf none && b1.wf none
  | .limp image palette => image.wf none && palette.length == 16
  | .frames l => l.length == 8
  | .hmi touch aud gates _ => touch.length == 8 && touch.all (fun g => g.els.length == 12 && g.ctls.length == 12) &&
    aud.outs.length == 16 && aud.outs.all (fun o => o.eq.length == 8) && aud.inGain.length == 32 && aud.inOwner.length == 32 &&
    aud.players.length == 4 && gates.length == 4

/-- A well-formed command. -/
def Instr.wf : Instr → Bool
  | .billetFetch _ raw => raw.length == 4096
  | .billetDatagram _ => true
  | .replyDatagram _ => true
  | .slcDbWrite _ _ => true
  | .slcRqHeadWrite _ _ => true
  | .slotValueRead _ _ _ => true
  | .slotReleaseWrite _ _ _ => true
  | .fenceWaitEnd _ => true
  | .windowWaitEnd _ => true
  | .effectIssue _ => true
  | .effectComplete _ _ _ => true
  | .nop b => b.wf
  | .sliceInfo b => b.wf
  | .slotRead b => b.wf
  | .slotRelease b => b.wf
  | .sliceConfig b => b.wf
  | .sliceReset b => b.wf
  | .dirtyLogStart b => b.wf
  | .dirtyLogFlush b => b.wf
  | .dirtyLogStop b => b.wf
  | .regRead b => b.wf
  | .regWrite b => b.wf
  | .surfCreate b => b.wf
  | .surfFree b => b.wf
  | .surfUpload b => b.wf
  | .surfWrite b => b.wf
  | .surfReadback b => b.wf
  | .surfFill b => b.wf
  | .surfCopy b => b.wf
  | .layerAssign b => b.wf
  | .layerSet b => b.wf
  | .commit b => b.wf
  | .stageDiscard b => b.wf
  | .writeback b => b.wf
  | .outConfig b => b.wf
  | .setTimingLoad b => b.wf
  | .setTimingSwitch b => b.wf
  | .setTimingReprogram b => b.wf
  | .outEnable b => b.wf
  | .outDisable b => b.wf
  | .anvAlloc b => b.wf
  | .colourLoad b => b.wf
  | .scalerLoad b => b.wf
  | .backlight b => b.wf
  | .hardyRegion b => b.wf
  | .hardyWrite b => b.wf
  | .hardyCopy b => b.wf
  | .hardyCommit b => b.wf
  | .hardyAck b => b.wf
  | .limpLoad b => b.wf
  | .limpCtrlForce b => b.wf
  | .limpCtrlRelease b => b.wf
  | .limpCtrlReactive b => b.wf
  | .jobRaster b => b.wf
  | .jobCompute b => b.wf
  | .audRoute b => b.wf
  | .audGain b => b.wf
  | .audStreamOpen b => b.wf
  | .audStreamClose b => b.wf
  | .audEq b => b.wf
  | .audDyn b => b.wf
  | .chimePlay b => b.wf
  | .chimeStop b => b.wf
  | .audAssign b => b.wf
  | .tchGroup b => b.wf
  | .tchEnable b => b.wf
  | .tchDisable b => b.wf
  | .tchReports b => b.wf
  | .hapConfig b => b.wf
  | .hapPlay b => b.wf
  | .hapBind b => b.wf
  | .avtpListen b => b.wf
  | .avtpTalk b => b.wf
  | .avtpClose b => b.wf
  | .netGate b => b.wf
  | .pairWeld b => b.wf
  | .pairUnweld b => b.wf
  | .pairSwitch b => b.wf
  | .pairXcheck b => b.wf
  | .pwrStateRun b => b.wf
  | .pwrStateHold b => b.wf
  | .pwrStateDamp b => b.wf
  | .pwrStateBank b => b.wf
  | .pwrStateEmber b => b.wf
  | .pwrStateAsh b => b.wf
  | .pwrWake b => b.wf
  | .slagRead b => b.wf
  | .slagClear b => b.wf
  | .crcRun b => b.wf
  | .selftestTouch b => b.wf
  | .selftestHaptic b => b.wf
  | .selftestCheckUnit b => b.wf
  | .faultInject b => b.wf
  | .quench _ => true
  | .quenchJob _ _ _ => true
  | .quenchDma _ _ _ => true
  | .quenchAudio _ _ _ => true
  | .quenchComposition _ _ _ => true
  | .quenchSlice _ _ _ => true
  | .quenchDevice _ _ _ => true
  | .cutOff _ _ => true
  | .commitBind _ _ => true
  | .passComplete _ _ _ _ _ _ _ => true
  | .scalerCopyDone _ => true
  | .colourCopyDone _ => true
  | .hardyResult _ _ _ _ => true
  | .hardyVerdict _ _ _ => true
  | .hardyExpectedDone _ _ => true
  | .hardyCopybackDone _ => true
  | .xcheckTimeout _ => true
  | .anvZeroFillDone _ => true
  | .bar2Write _ _ _ _ => true
  | .switchSelect _ => true
  | .panelOnDelayEnd _ => true
  | .pllLock _ => true
  | .linkStartDone _ _ _ _ _ _ => true
  | .backlightOnDelayEnd _ => true
  | .backlightOffDelayEnd _ => true
  | .panelOffDelayEnd _ => true
  | .blPwmPeriod _ _ => true
  | .anvScrubGranule _ _ => true
  | .anvDieFail _ => true
  | .anvHardyRelocated _ => true
  | .hpdUnplug _ => true
  | .hpdIrq _ _ => true
  | .hpdReplug _ => true
  | .linkRetry _ => true
  | .auxGo _ _ => true
  | .auxReply _ _ data => decide (data.length ≤ 16)
  | .auxTimeout _ => true
  | .dsiGo _ _ => true
  | .dsiPacketSend _ _ _ _ => true
  | .teReport _ => true
  | .teLost _ => true
  | .psrEntry _ => true
  | .psrRefresh _ => true
  | .takeOutput _ => true
  | .rasCmdNop => true
  | .rasEnd => true
  | .rasViewport => true
  | .rasScissor => true
  | .rasRaster => true
  | .rasDepth => true
  | .rasStencil => true
  | .rasBlend => true
  | .rasShaders => true
  | .rasVertices => true
  | .rasDraw => true
  | .rasClear => true
  | .quantumBoundary _ _ => true
  | .issueStall _ => true
  | .workgroupDispatch => true
  | .shadingDispatch => true
  | .memoryReturn _ _ _ _ => true
  | .cruMov _ => true
  | .cruIadd _ => true
  | .cruIsub _ => true
  | .cruImul _ => true
  | .cruImulhiU _ => true
  | .cruImulhiS _ => true
  | .cruImad _ => true
  | .cruAnd _ => true
  | .cruOr _ => true
  | .cruXor _ => true
  | .cruAndn _ => true
  | .cruShl _ => true
  | .cruShr _ => true
  | .cruSar _ => true
  | .cruIminS _ => true
  | .cruImaxS _ => true
  | .cruIminU _ => true
  | .cruImaxU _ => true
  | .cruIsetp _ => true
  | .cruSel _ => true
  | .cruBfe _ => true
  | .cruBfi _ => true
  | .cruPopc _ => true
  | .cruClz _ => true
  | .cruBrev _ => true
  | .cruFadd _ => true
  | .cruFsub _ => true
  | .cruFmul _ => true
  | .cruFfma _ => true
  | .cruFmin _ => true
  | .cruFmax _ => true
  | .cruFsetp _ => true
  | .cruFdiv _ => true
  | .cruFrcp _ => true
  | .cruFsqrt _ => true
  | .cruFrsq _ => true
  | .cruFfloor _ => true
  | .cruFceil _ => true
  | .cruFtrunc _ => true
  | .cruFrint _ => true
  | .cruFfract _ => true
  | .cruHadd2 _ => true
  | .cruHsub2 _ => true
  | .cruHmul2 _ => true
  | .cruHfma2 _ => true
  | .cruHmin2 _ => true
  | .cruHmax2 _ => true
  | .cruHsetp2 _ => true
  | .cruHdot2 _ => true
  | .cruF2i _ => true
  | .cruI2f _ => true
  | .cruF2h _ => true
  | .cruH2f _ => true
  | .cruF2un _ => true
  | .cruUn2f _ => true
  | .cruPlop _ => true
  | .cruXsave _ => true
  | .cruXload _ => true
  | .cruXand _ => true
  | .cruXset _ => true
  | .cruP2r _ => true
  | .cruPredFromReg _ => true
  | .cruShfl _ => true
  | .cruRdlane _ => true
  | .cruBra _ => true
  | .cruCall _ => true
  | .cruJmp _ => true
  | .cruSysNop _ => true
  | .cruHdr _ => true
  | .cruExit _ => true
  | .cruDiscard _ => true
  | .cruTrap _ => true
  | .cruSread _ => true
  | .cruFence _ => true
  | .cruLdScratch _ => true
  | .cruStScratch _ => true
  | .cruLdGlobal _ => true
  | .cruStGlobal _ => true
  | .cruScratchAtomAdd _ => true
  | .cruScratchAtomSmin _ => true
  | .cruScratchAtomSmax _ => true
  | .cruScratchAtomUmin _ => true
  | .cruScratchAtomUmax _ => true
  | .cruScratchAtomAnd _ => true
  | .cruScratchAtomOr _ => true
  | .cruScratchAtomXor _ => true
  | .cruScratchAtomExch _ => true
  | .cruScratchAtomCas _ => true
  | .cruScratchAtomFadd _ => true
  | .cruGlobalAtomAdd _ => true
  | .cruGlobalAtomSmin _ => true
  | .cruGlobalAtomSmax _ => true
  | .cruGlobalAtomUmin _ => true
  | .cruGlobalAtomUmax _ => true
  | .cruGlobalAtomAnd _ => true
  | .cruGlobalAtomOr _ => true
  | .cruGlobalAtomXor _ => true
  | .cruGlobalAtomExch _ => true
  | .cruGlobalAtomCas _ => true
  | .cruGlobalAtomFadd _ => true
  | .cruSample _ => true
  | .cruFetch _ => true
  | .cruAcq _ => true
  | .cruTry _ => true
  | .cruRel _ => true
  | .cruBar _ => true
  | .ulxTrained _ => true
  | .ulxLinkDown => true
  | .ulxRetransmit => true
  | .ulxSever => true
  | .hello _ _ => true
  | .weldTimeout => true
  | .weldDrain => true
  | .weldFreeze => true
  | .weldDone => true
  | .stateFrame _ p => p.wf
  | .journal _ _ m _ _ => m.wf
  | .jack _ _ _ _ _ => true
  | .replyFrame _ _ _ _ _ _ => true
  | .complete _ _ => true
  | .cutoffFrame _ _ => true
  | .cutoffTimeout _ => true
  | .hardyFrame _ _ _ _ _ _ => true
  | .event _ _ => true
  | .idleFrame _ => true
  | .tkoRequest _ _ _ => true
  | .tkoGrant _ _ _ => true
  | .tkoRefusal _ _ => true
  | .tkoRelease _ _ => true
  | .tkoAnswerTimeout _ => true
  | .hbLost _ => true
  | .hbPresent _ => true
  | .accountingWindow => true
  | .dramRequest _ _ => true
  | .srIdleExpire _ => true
  | .srExit => true
  | .mr4Poll _ _ _ => true
  | .refreshDue _ _ _ => true
  | .drcRetrain _ _ _ => true
  | .dramScrubRead _ _ _ => true
  | .drcPhaseWrite _ => true
  | .temperIdle _ => true
  | .temperWrite _ => true
  | .temperReadCmp _ => true
  | .temperMpcRd _ => true
  | .temperCbt _ => true
  | .temperLevel _ => true
  | .temperOpDone _ _ => true
  | .memtestWindow _ _ _ _ => true
  | .memtestBorrowTimeout _ => true
  | .touchScan _ raws => raws.length == 12
  | .touchPress _ _ => true
  | .touchRelease _ _ => true
  | .touchBaselineDone _ => true
  | .touchFollow _ => true
  | .touchNegReacq _ _ => true
  | .touchStuck _ _ => true
  | .touchElectrodeFault _ _ => true
  | .touchRateStep => true
  | .hapBootDone _ _ => true
  | .hapSenseWindow _ _ _ _ _ _ => true
  | .hapOpenFault _ => true
  | .hapUnlock _ => true
  | .hapSegmentEnd _ => true
  | .hapGapEnd _ => true
  | .hapBrakeEnd _ => true
  | .hapBrakeTimeout _ => true
  | .audSample pins _ _ => pins.wf
  | .audRampEnd => true
  | .chimeBlock => true
  | .audOutMapWrite _ _ => true
  | .tdmSlip _ _ => true
  | .audStreamPos _ _ => true
  | .audPllUnlock => true
  | .avtpPacketRx _ _ _ _ _ => true
  | .avtpPacketTx _ => true
  | .pcieFlr _ => true
  | .pcieHoldStart _ _ => true
  | .pcieHoldEnd _ _ _ _ => true
  | .pciePerst _ => true
  | .pcieCplError _ _ => true
  | .pcieCplTimeout _ _ => true
  | .fetchRetry _ => true
  | .msixUnmask _ _ => true
  | .arpRequest _ _ _ _ _ => true
  | .icmpEcho _ _ _ _ _ _ => true
  | .gptpSync _ _ _ => true
  | .gptpSyncTimeout _ => true
  | .ethLinkChange _ _ => true
  | .gateCycleStart _ _ => true
  | .mdioC22Read _ => true
  | .mdioC22Write _ => true
  | .mdioC45Address _ => true
  | .mdioC45Write _ => true
  | .mdioC45Read _ => true
  | .mdioDone _ => true
  | .mbxSend _ _ => true
  | .mbxReceive _ _ => true
  | .mbxLock _ => true
  | .lckAcq _ _ => true
  | .lckTry _ _ => true
  | .lckRel _ _ => true
  | .lckCancel _ _ => true
  | .crcStart _ _ => true
  | .crcFold _ _ => true
  | .crcData _ _ => true
  | .cfgOpen _ => true
  | .cfgCommit _ => true
  | .cfgOpenTimeout => true
  | .cfgPass _ _ => true
  | .cfgRestoreTimeout => true
  | .slgAccWrite _ => true
  | .registerWrite _ _ => true
  | .glbSnapTrig _ => true
  | .knabyWatchdog _ => true
  | .quenchOverdue _ => true
  | .lockstepMismatch => true
  | .hearthResume => true
  | .clockMonitor _ _ _ => true
  | .supplyTrip _ => true
  | .tempPoll _ _ _ _ => true
  | .powerOnReset e _ => e.wf
  | .resetN => true
  | .warmN => true
  | .rstCtrlKnaby _ => true
  | .rstCtrlWarm _ => true
  | .knabyRestart => true
  | .warmReset e => e.wf
  | .blockReset _ => true
  | .avsTarget _ => true
  | .avsStep _ _ => true
  | .mainPgTimeout => true
  | .mainPgFall => true
  | .wakeEvent _ _ => true
  | .dampLinksReady => true
  | .powerExitDone => true
  | .powerRestoreDone e => e.wf
  | .scanoutUnderrun _ => true
  | .scanoutReadError _ _ _ => true
  | .tkoConfirm _ => true
  | .ulxLatencyMeasure _ => true
  | .audPllLock => true
  | .resetNRelease e => e.wf
  | .warmNRelease e => e.wf
  | .mainPgRise e => e.wf
  | .jtagRawAccess _ _ _ => true
  | .ethFrameRx _ _ => true

end Sys2Proof
end

