-- ==== Sys2Proof/Tests/Slice0.lean ====
section
/-! SUPPORT. Tests: ill-formed commands are refused, worked examples of the spec, and for every statement with hypotheses a state
and operands that meet them. -/
set_option linter.unusedVariables false
set_option Elab.async false
namespace Sys2Proof.Tests
open Sys2Proof Sys2Proof.Machine

/-! ## Crucible -/

/-- A running device of one slice. -/
def base : State :=
  { State.reset with
    boot := { Boot.reset with sealedOnce := true }
    power := { Power.reset with st := 0, step := 0 } }

/-- A linear surface of `n` bytes that holds the bytes `bs`. -/
def surf (h n : Nat) (bs : List Byte) : Surface := ⟨h, 0, n, 1, n, none, Mem.cells none 0 bs⟩
/-- A colour surface of 2 × 2 pixels, ARGB8888. -/
def tex (h : Nat) : Surface := ⟨h, 6, 2, 2, 8, none, Mem.cells none 0 (leBytes 4 0xFF804020 ++ leBytes 4 0x80C00000 ++ leBytes 4 0x11223344 ++ leBytes 4 0x01020304)⟩

/-- The payload of a compute job: code surface 1, BIND0 the surface 2, BIND1 the surface 3, groups of 32 strands, scratch 1 KiB. -/
def pl : List Byte :=
  leBytes 2 1 ++ leBytes 2 0 ++ leBytes 4 8 ++ leBytes 2 1 ++ leBytes 2 1 ++ leBytes 2 1 ++ leBytes 2 32 ++ leBytes 2 1 ++
  List.replicate 6 0 ++ leBytes 2 2 ++ leBytes 2 3 ++ List.replicate 4 0

/-- A compute bundle at PC 8 with V4 = 16 × lane + 8, V5 = 3 × lane, V6 = 2.0, V7 = −1.0, EXEC and LIVE as given. -/
def bun (slot idx : Nat) (exec live : BitVec 16) : Bundle :=
  { slice := 0, seq := 1, core := 2, slot := slot, kind := 0, wg := 0, idx := idx, issued := slot, pc := 8, exec := exec, live := live
    p := [0x00FF, 0x0F0F, 0x1234, 0xFFFF], regs := 32, base := 0
    v := (List.range 16).map (fun l => (64 + l, BitVec.ofNat 32 (16 * l + 8))) ++
         (List.range 15).map (fun l => (81 + l, BitVec.ofNat 32 (3 * (l + 1)))) ++
         (List.range 16).map (fun l => (96 + l, 0x40000000)) ++ (List.range 16).map (fun l => (112 + l, 0xBF800000))
    st := .ready, pend := [], px := [], outs := [] }

/-- The workgroup of these bundles. -/
def wgrp : WGroup := ⟨0, 1, 0, 0, 0, 0, 2, 0, 1, 0, Mem.cells (some 0) 0 (List.replicate 300 7), 0, 0, false⟩

/-- Core 2 of a running cluster is to issue `w` of bundle 0; bundle 1 of the same workgroup stands in state `st`. -/
def cru (w : Nat) (st : BState := .exited) (live : BitVec 16 := 0xFFFF) : State :=
  { base with
    slices := putAt base.slices 0 { Slice.reset with surfaces := [surf 1 64 (List.replicate 8 0 ++ leBytes 8 w), surf 2 512 (List.replicate 300 9), tex 3] }
    cru := { Cluster.reset with
      jobs := [⟨0, 1, pl, 1, 0, none⟩]
      wgs := [wgrp]
      bundles := [{ bun 1 1 0xFFFF 0xFFFF with st := st }, bun 0 0 0x0FF5 live] } }

/-- An instruction of registers D = V8, A = V4, B = V5, C = V6 under guard P1. -/
def insR (cls opc : Nat) (d := 8) (a := 4) (b := 5) (c := 6) (md := 0) : Ins := ⟨cls, opc, false, false, 0, false, d, a, b, c, md, 0, false⟩
/-- An immediate form. -/
def insI (cls opc d a imm : Nat) : Ins := ⟨cls, opc, true, false, 0, false, d, a, 0, 0, 0, imm, false⟩
/-- The bundle that issues. -/
def me (live : BitVec 16 := 0xFFFF) : Bundle := bun 0 0 0x0FF5 live

/-- The hypotheses common to Crucible claims, for the word of `i`. -/
def issues (i : Ins) (st : BState := .exited) (live : BitVec 16 := 0xFFFF) : Bool :=
  decide ((cru i.enc st live).Issues 2 (me live) i)

/-! ## Billets -/

/-- A running SOLO device of two slices with 1 GiB of DRAM; slices 0 and 1 are bound to PCIe with their rings enabled. -/
def dev : State :=
  let sl := fun (q perm : Nat) => { Slice.reset with
    binding := .pcie 0 (BitVec.ofNat 20 q), ringEn := true, perm := perm, quota := 16, sqBase := 0x10000, rqBase := 0x20000 }
  { base with
    boot := { base.boot with log2n := 1 }
    regs := RegFile.put [] R.DRC_CFG 0x10000
    ports := [{ PciPort.reset with linkUp := true, bme := true, pasidEn := true, msix := List.replicate 64 MsixEntry.reset }, PciPort.reset]
    slices := putAt (putAt base.slices 0 (sl 1 0)) 1 (sl 2 7) }

/-- The billet of slice `n` that carries its next SEQ and the right CHECK. -/
def bil (s : State) (n : Fin 16) (code : Nat) (force : List (Nat × Nat)) (pl : List Byte) (group := 0) (deadline := 0) (flags := 0) : Billet :=
  let b : Billet := ⟨n, ⟨(s.slice n).nextSeq, 0x77, BitVec.ofNat 16 flags, BitVec.ofNat 16 group, BitVec.ofNat 32 deadline, 0⟩, pl⟩
  { b with hdr := { b.hdr with check := billetCrc (billetMsg b code force) n } }

/-- Bytes of a payload: (width, value) fields in order. -/
def pay (l : List (Nat × Nat)) : List Byte := l.flatMap (fun e => leBytes e.1 e.2)

/-- The hypotheses of `Effect` for a row. -/
def goes (s : State) (n : Fin 16) (code : Nat) (force : List (Nat × Nat)) (pl : List Byte) (group := 0) (deadline := 0) : Bool :=
  decide (s.Goes (bil s n code force pl group deadline) code force)

/-- The hypotheses of `Immediate` for a row. -/
def goesNow (s : State) (n : Fin 16) (code : Nat) (pl : List Byte) : Bool :=
  let b := bil s n code [] pl
  decide (s.safe = true ∧ s.pair.role = .solo ∧ (s.slice n).entry b.hdr.seq = none ∧ s.takes n (billetMsg b code []) = true ∧
    (opOf (billetMsg b code []).opcode).isSome = true)

/-- Slice 0 holds a 8 × 4 ARGB surface 5 and another one 6; layer 3 is slice 0's on output 1. -/
def devS : State :=
  let u := fun h => (⟨h, 6, 8, 4, 64, none, Mem.cells none 0 (List.replicate 200 3)⟩ : Surface)
  let s := dev.modSlice 0 (fun x => { x with surfaces := [u 5, u 6] })
  s.modLay 3 (fun _ => ⟨some 0, 1, 4, none, LayerCfg.zero⟩)

/-- As before, with a staged change of layer 3 in the default set of output 1, which is enabled. -/
def devL : State :=
  let s := devS.modSlice 0 (fun x => x.stage 0 1 (.layer 3 { LayerCfg.zero with planeAlpha := 9 }))
  s.modOu 1 (fun o => { o with enabled := true, gen := .run, set := some 0, linkCfg := true })

/-- Output 1 has a link configuration and timing set 0; it is disabled. -/
def devO : State :=
  ((dev.storeLink 1 (pay [(1, 1), (1, 0), (1, 4), (1, 8), (2, 3), (2, 0), (2, 1), (2, 2), (2, 3), (2, 4)])).loadTiming 1 0
    ⟨148500, 1920, 88, 44, 148, 1080, 4, 5, 36, 0⟩).modOu 1 (fun o => { o with set := some 0 })

/-- The state after a command. -/
def after (c : Instr) (s : State) : State := match exec c s with | .next t => t | _ => s

/-! ## Crucible: the hypotheses of its statements -/

namespace W10

/-- An instruction of a row of results, on operands of its class. -/
def rowIns (r : VecRow) : Ins :=
  let i := insR r.cls r.opc
  let h := shapeOf i
  { i with a := if h.a = 0 then 0 else 4, b := if h.b = 0 ∨ r.cls = 2 ∧ (r.opc = 0x14 ∨ r.opc = 0x15) then 0 else 5, c := if h.c = 0 then 0 else 7 }
/-- The hypotheses of `VecRow.Holds`. -/
def rowMet (r : VecRow) : Bool := issues (rowIns r) && decide (∀ l ∈ lanesOf ((rowIns r).lanes me), r.bad (rowIns r) me l = false)
/-- A field wider than 32 bits. -/
def wide : Ins := insR 2 0x14 (b := 7) (c := 0)

theorem witness_CrucibleIntegers : (intRows ++ bitRows).all rowMet = true := by decide +kernel
theorem witness_CrucibleIntegers_wideField :
    issues wide = true ∧ (lanesOf (wide.lanes me)).find? (fun l => fieldBad (wide.opB me l)) = some 0 := by decide +kernel
theorem witness_CrucibleFp32 : fpRows.all rowMet = true := by decide +kernel
theorem witness_CruciblePackedAndConversion : halfRows.all rowMet = true := by decide +kernel

/-- An instruction of a row of masks. -/
def maskIns (r : MaskRow) : Ins :=
  match r.cls, r.opc with
  | 2, _ => insR 2 0x12 (d := 41) (c := 0)
  | 3, _ => insR 3 6 (d := 12) (a := 6) (b := 7) (c := 0)
  | 4, _ => insR 4 6 (d := 18) (a := 6) (b := 7) (c := 0)
  | 1, 0 => insR 1 0 2 0 1 2 (md := 0x6A)
  | 1, 1 => insR 1 1 9 0 0 0
  | 1, 2 => insR 1 2 0 5 0 0
  | 1, 3 => insR 1 3 0 5 0 0
  | 1, 4 => insR 1 4 0 0 0 0
  | 1, 5 => insR 1 5 9 1 0 0
  | 1, 6 => insR 1 6 2 5 0 0
  | 1, 7 => insR 1 7 9 4 5 0
  | 1, _ => insI 1 8 9 4 3
  | 0, 0 => insR 0 0 0 0 0 0
  | 0, 1 => insI 0 1 0 0 0x20
  | _, _ => insI 0 6 0 0 1

theorem witness_CrucibleMasks :
    me.p.length = 4 ∧ maskRows.all (fun r => issues (maskIns r) && (maskIns r).cls == r.cls && (maskIns r).opc == r.opc) = true := by
  decide +kernel
theorem witness_CrucibleBranches :
    issues (insI 6 0 8 0 24) = true ∧ issues (insI 6 1 9 0 24) = true ∧ issues (insR 6 2 0 5 0 0) = true := by decide +kernel

/-- The job of `cru`. -/
def job : CruJob := ⟨0, 1, pl, 1, 0, none⟩
/-- SREAD of selector `k`. -/
def sel (k : Nat) : Ins := insI 0 5 9 0 k

theorem witness_CrucibleSreadAndTrap :
    [0, 0x17].all (fun k => issues (sel k) && decide ((cru (sel k).enc).job me.slice me.seq = some job)) = true ∧
    [0x18, 0xFFFFFFFF].all (fun k => decide ((cru (sel k).enc).pick 2 = some me) &&
      decide (((cru (sel k).enc).fetchIns me).map Ins.dec = some (sel k))) = true ∧
    issues (insR 0 4 0 0 0 0) = true := by decide +kernel

/-- EXIT or DISCARD. -/
def leave (opc : Nat) : Ins := insR 0 opc 0 0 0 0
/-- A fragment bundle. -/
def frag (live : BitVec 16) : Bundle := { me live with kind := 2 }
/-- Core 2 is to issue `w` of a fragment bundle. -/
def cruF (w : Nat) (live : BitVec 16) : State :=
  { cru w with cru := { (cru w).cru with
      jobs := [⟨0, 1, pl, 1, 0, some { RasterSt.start pl 8 8 with sh := some ⟨2, 2, 8, 8, 64⟩ }⟩], bundles := [frag live] } }

theorem witness_CrucibleExitAndDiscard :
    (issues (leave 2) = true ∧ me.live &&& ~~~((leave 2).lanes me) ≠ 0) ∧
    ((cruF (leave 3).enc 0xFFFF).Issues 2 (frag 0xFFFF) (leave 3) ∧ (cruF (leave 3).enc 0xFFFF).mayDiscard (frag 0xFFFF) = true ∧
      (frag 0xFFFF).live &&& ~~~((leave 3).lanes (frag 0xFFFF)) ≠ 0) ∧
    (issues (leave 2) .exited 0x0FF5 = true ∧ (leave 2).lanes (me 0x0FF5) ≠ 0 ∧ (me 0x0FF5).live &&& ~~~((leave 2).lanes (me 0x0FF5)) = 0 ∧
      (cru (leave 2).enc .exited 0x0FF5).job 0 1 = some job ∧
      ∀ x ∈ (cru (leave 2).enc .exited 0x0FF5).cru.bundles, x.sameGroup (me 0x0FF5) → x.at_ 0 2 0 = true ∨ x.st = .exited) ∧
    ((cruF (leave 3).enc 0x0FF5).Issues 2 (frag 0x0FF5) (leave 3) ∧ (cruF (leave 3).enc 0x0FF5).mayDiscard (frag 0x0FF5) = true ∧
      (leave 3).lanes (frag 0x0FF5) ≠ 0 ∧ (frag 0x0FF5).live &&& ~~~((leave 3).lanes (frag 0x0FF5)) = 0) ∧
    ((cruF (leave 2).enc 0x0FF5).Issues 2 (frag 0x0FF5) (leave 2) ∧ (leave 2).lanes (frag 0x0FF5) ≠ 0) ∧
    (issues (leave 3) = true ∧ (cru (leave 3).enc).mayDiscard me = false) := by decide +kernel

/-- An access of class `cls` and size code `sz`. -/
def acc (cls sz d a b : Nat) (opc := 0) (md := 0) : Ins := insR cls opc d a b (8 * sz + (if cls = 8 then 4 else 0)) md
/-- The surface the access names. -/
def glob : Surface := surf 2 512 (List.replicate 300 9)
/-- The hypotheses of a global access. -/
def globMet (i : Ins) : Bool :=
  issues i && decide ((cru i.enc).job 0 1 = some job) && decide ((cru i.enc).jobSurf job i.surf = some glob) &&
    job.writable i.surf && decide (i.inRange me glob.bytes) && decide (cru i.enc).fresh1
/-- The hypotheses of a scratch access. -/
def scratchMet (i : Ins) : Bool := issues i && decide ((cru i.enc).group me = some wgrp) && decide (i.inRange me (wgrp.scrKib * 1024))

theorem witness_CrucibleScratch :
    scratchMet (acc 7 4 12 4 0 (md := 8)) = true ∧ scratchMet (acc 7 6 0 4 4 1 (md := 8)) = true ∧
    (List.range 11).all (fun k => scratchMet (acc 7 4 12 4 5 (k + 2))) = true := by decide +kernel
theorem witness_CrucibleGlobal :
    globMet (acc 8 4 12 4 0 (md := 8)) = true ∧ globMet (acc 8 6 0 4 4 1 (md := 8)) = true ∧
    (List.range 11).all (fun k => globMet (acc 8 4 12 4 5 (k + 2))) = true := by decide +kernel

/-- SAMPLE (0) or FETCH (1) with sampler 1. -/
def smp (opc : Nat) : Ins := insI 9 opc 12 6 1
/-- A bundle that waits for words to return. -/
def waits : Bundle := { me with pend := [⟨false, 8, 1, [(8, 0, 5), (8, 0, 7), (9, 3, 1)]⟩] }

theorem witness_CrucibleSamplingAndReturns :
    [0, 1].all (fun o => issues (smp o) && decide (cru (smp o).enc).fresh1 && decide (∀ l ∈ lanesOf ((smp o).lanes me),
      (cru (smp o).enc).texSurf me ((smp o).sampler me l) = some (tex 3) ∧
      samplerBad (decide (o = 1)) (some (tex 3)) ((smp o).sampler me l) = false)) = true ∧
    (({ cru 0 with cru := { (cru 0).cru with bundles := [waits] } } : State).bundle 0 2 0 = some waits ∧
      ∀ p ∈ waits.pend, ∀ e ∈ p.vals, e.2.1 < 16) := by decide +kernel

/-- ACQ, TRY or REL of lock 7. -/
def lck (opc : Nat) : Ins := insI 10 opc (if opc = 1 then 2 else 0) 0 7
/-- The hypotheses of a lock instruction when lock 7 is `x`. -/
def lckMet (opc : Nat) (x : Lock) : Bool :=
  let s := cru (lck opc).enc
  decide (({ s with locks := s.locks.set 7 x } : State).Issues 2 me (lck opc)) && decide ((lanesOf ((lck opc).lanes me)).head? = some 0) &&
    decide (7 < s.locks.length) && decide (s.locks.length = 64) && decide (({ s with locks := s.locks.set 7 x } : State).lock 7 = x)
/-- A TRY that no lane executes. -/
def idleTry : Ins := { lck 1 with pe := true, pg := 3, pn := true }

theorem witness_CrucibleLocks :
    [0, 1, 2].all (fun o => lckMet o Lock.free && lckMet o ⟨.strand (me.strand 0), [2], []⟩) = true ∧
    (issues idleTry = true ∧ idleTry.lanes me = 0) := by decide +kernel

/-- BAR. -/
def bar : Ins := insR 11 0 0 0 0 0
/-- The bundle with every live lane active. -/
def full : Bundle := { me with exec := 0xFFFF }
/-- Core 2 is to issue BAR, when `n` bundles of the workgroup have come to the barrier. -/
def cruB (n : Nat) : State :=
  { cru bar.enc .barrier with cru := { (cru bar.enc .barrier).cru with
      wgs := [{ wgrp with barCount := n }], bundles := [{ bun 1 1 0xFFFF 0xFFFF with st := .barrier }, full] } }

theorem witness_CrucibleBarrier :
    ((cruF bar.enc 0xFFFF).Issues 2 (frag 0xFFFF) bar ∧ (frag 0xFFFF).kind ≠ 0) ∧
    (issues bar = true ∧ (cru bar.enc).job 0 1 = some job ∧ (cru bar.enc).group me = some wgrp ∧ me.exec ≠ me.live) ∧
    [0, 1].all (fun n => decide ((cruB n).Issues 2 full bar) && decide ((cruB n).job 0 1 = some job) &&
      decide ((cruB n).group full = some { wgrp with barCount := n }) && full.exec == full.live && !wgrp.exited) = true ∧
    job.groupBundles = 2 := by decide +kernel

/-- Core 2 is to issue an instruction outside the code. -/
def outside : State := { cru 0 with cru := { (cru 0).cru with bundles := [{ me with pc := 64 }] } }
/-- The instruction of the word `w`. -/
def reads (w : Nat) : Bool := decide ((cru w).pick 2 = some me) && decide (((cru w).fetchIns me).map Ins.dec = some (Ins.dec w))

theorem witness_CrucibleFaults :
    (outside.pick 2 = some { me with pc := 64 } ∧ outside.fetchIns { me with pc := 64 } = none) ∧
    (reads 0x3F = true ∧ (Ins.dec 0x3F).defined = false) ∧
    (reads (insR 2 1 (c := 1)).enc = true ∧ (shapeOf (insR 2 1 (c := 1))).valid (insR 2 1 (c := 1)) me.regs = false) ∧
    (let i := acc 8 4 0 4 4 1
     (cruF i.enc 0xFFFF).Issues 2 (frag 0xFFFF) i ∧ (lanesOf (i.lanes (frag 0xFFFF))).head? = some 0) ∧
    (let i := { acc 8 4 12 4 0 with c := 34 }
     issues i = true ∧ (cru i.enc).accSurf me i = none) ∧
    (let i := acc 8 4 12 5 0
     issues i = true ∧ (cru i.enc).jobSurf job i.surf = some glob ∧
       (lanesOf (i.lanes me)).find? (fun l => i.offset me l % 4 != 0) = some 2) ∧
    (let i := acc 8 4 12 4 0 (md := 0x180)
     issues i = true ∧ (cru i.enc).jobSurf job i.surf = some glob ∧ (∀ k ∈ lanesOf (i.lanes me), i.offset me k % 4 = 0) ∧
       ((lanesOf (i.lanes me)).find? (fun l => i.offset me l < 0 || (glob.bytes : Int) < i.offset me l + 4)).isSome = true) := by
  decide +kernel

theorem witness_CrucibleWordsReadBack :
    (insR 2 1 (c := 0)).wf = true ∧ (Ins.dec 0x0000000502080122).rsv = false := by decide +kernel

end W10
/-! ## Billets of sessions, surfaces, the compositor and outputs -/

namespace W20

def devD : State := dev.modSlice 1 (fun x => {x with dirty := some ⟨130, 0x100000, 0x800, [1,2,77], 3, false⟩})
def tm (mode : Nat) (vfp := 4) := pay [(1,1),(1,1),(1,mode),(1,0),(4,148500),(2,1920),(2,88),(2,44),(2,148),(2,1080),(2,vfp),(2,5),(2,36)]
def devE : State := devO.modOu 1 (fun o => { o with enabled := true, gen := .run, set := some 0 })
def devA : State := devO.setReg (R.SCN_OUT_ALLOC 1) (1920 + 2^16*1080)
def devB : State := dev.modSlice 1 (fun x => {x with ringEn := false})
def devO2 : State := {devO with disp := {devO.disp with owner := List.replicate 192 0xFF}}
def devSl : State := dev.modSlice 0 (fun x => {x with slots := putAt (putAt x.slots 3 {Slot.empty with st := .done, value := 0x123456789A, status := 2}) 4 {Slot.empty with st := .pending}})
/-- States and operands that meet the hypotheses of every clause of `Obligations.BilletsSession`. -/
theorem witness_BilletsSession :
    (goes dev 0 0 [] []) = true ∧
    (goes dev 1 1 [] []) = true ∧
    (goes dev 0 5 [] (pay [(1,1),(1,0),(2,0)])) = true ∧
    (goes devB 0 4 [] (pay [(1,1),(1,1),(1,0),(1,0),(4,2),(8,0),(8,0),(4,3),(4,20)])) = true ∧
    (goes devB 0 4 [] (pay [(1,1),(1,1),(1,0),(1,0),(4,9),(8,0),(8,0),(4,3),(4,20)])) = true ∧
    (goes devB 0 4 [] (pay [(1,1),(1,2),(1,0),(1,0),(4,0),(6,0x112233445566),(2,7),(4,0x777),(2,3),(2,0),(4,3),(4,20)])) = true :=
  by decide +kernel

/-- States and operands that meet the hypotheses of every clause of `Obligations.BilletsDirtyLog`. -/
theorem witness_BilletsDirtyLog :
    (goes dev 0 6 [(1,1)] (pay [(1,1),(1,0),(2,0),(4,64),(8,0x100000),(8,0x800),(8,0)])) = true ∧
    (goes devD 0 6 [(1,2)] (pay [(1,1),(1,0),(2,0),(4,130),(8,0x100000),(8,0x800),(8,0)])) = true ∧
    (goes devD 0 6 [(1,3)] (pay [(1,1),(1,0),(2,0),(4,130),(8,0x100000),(8,0x800),(8,0)])) = true :=
  by decide +kernel

/-- States and operands that meet the hypotheses of every clause of `Obligations.BilletsImmediate`. -/
theorem witness_BilletsImmediate :
    (goesNow devSl 0 2 (pay [(1,3),(1,2),(2,0)])) = true ∧
    (goesNow devSl 0 2 (pay [(1,4),(1,0),(2,0)])) = true ∧
    (goesNow devSl 0 3 (pay [(8,0x18)])) = true ∧
    (goesNow dev 0 7 (pay [(4,R.DRC_CFG)])) = true ∧
    (goesNow dev 0 7 (pay [(4,R.GLB_SNAP_TRIG)])) = true ∧
    (goesNow dev 0 8 (pay [(4,R.AUD_CFG),(4,0x501),(4,15)])) = true ∧
    (goesNow dev 0 8 (pay [(4,R.SLG_FMASK),(4,0x501),(4,15)])) = true ∧
    (goesNow dev 0 0xB01 (pay [(4,0xF),(4,0)])) = true :=
  by decide +kernel

/-- States and operands that meet the hypotheses of every clause of `Obligations.BilletsSurfaces`. -/
theorem witness_BilletsSurfaces :
    (goes dev 1 0x100 [] (pay [(2,7),(1,6),(1,0),(2,8),(2,4),(4,64),(4,0)])) = true ∧
    (goes dev 1 0x100 [] (pay [(2,7),(1,6),(1,1),(2,8),(2,4),(4,64),(4,0)])) = true ∧
    (goes devS 0 0x101 [] (pay [(2,5),(2,0)])) = true ∧
    (goes devS 0 0x103 [] (pay [(2,5),(2,0),(4,12),(4,3),(3,0x123456)])) = true ∧
    (goes devS 0 0x102 [] (pay [(2,5),(2,0),(2,1),(2,1),(2,2),(2,2),(4,32),(8,0x9000),(8,0)])) = true ∧
    (goes devS 0 0x104 [] (pay [(2,5),(2,0),(2,1),(2,1),(2,2),(2,2),(4,32),(8,0x9000),(8,0)])) = true ∧
    (goes devS 0 0x105 [] (pay [(2,5),(2,0),(2,1),(2,1),(2,2),(2,2),(4,32)])) = true ∧
    (goes devS 0 0x106 [] (pay [(2,5),(2,6),(2,1),(2,1),(2,2),(2,2),(2,1),(2,1)])) = true :=
  by decide +kernel

/-- States and operands that meet the hypotheses of every clause of `Obligations.BilletsCompositor`. -/
theorem witness_BilletsCompositor :
    (goes devS 0 0x200 [] (pay [(1,3),(1,1),(1,2),(1,9),(1,0xFF),(3,0)])) = true ∧
    (goes devS 0 0x200 [] (pay [(1,3),(1,0xFF),(1,0),(1,0),(1,0xFF),(3,0)])) = true ∧
    (goes devS 0 0x201 [] (pay [(1,3),(1,1),(1,0),(1,255),(2,5),(2,0),(2,0),(2,0),(2,8),(2,4),(2,10),(2,11),(2,8),(2,4)])) = true ∧
    (goes devL 0 0x201 [] (pay [(1,3),(1,1),(1,0),(1,255),(2,5),(2,0),(2,0),(2,0),(2,8),(2,4),(2,10),(2,11),(2,8),(2,4)]) (group := 4)) = true ∧
    (goes devL 0 0x202 [] (pay [(1,2),(3,0)])) = true ∧
    (goes devL 0 0x203 [] (pay [(1,2),(3,0)])) = true ∧
    (goes devS 0 0x204 [] (pay [(1,1),(1,0),(2,0),(4,0)])) = true ∧
    (goes dev 0 0x304 [] (pay ([(1,1),(1,1),(2,5),(2,3),(2,0)] ++ [(4,7),(4,8),(4,9)]))) = true ∧
    (goes dev 0 0x304 [] (pay ([(1,1),(1,0),(2,0),(2,12),(2,0)] ++ (List.range 12).map (fun k => (4,k+100))))) = true ∧
    (goes dev 0 0x305 [] (pay ([(1,1),(1,0),(1,5),(1,1),(4,0)] ++ [(2,0),(2,0),(2,0),(2,4096),(2,0),(2,0),(2,0),(2,0)]))) = true ∧
    (goes (dev.modLay 3 (fun _ => ⟨some 0, 1, 4, some 1, LayerCfg.zero⟩)) 0 0x305 [] (pay ([(1,1),(1,1),(1,5),(1,1),(4,0)] ++ [(2,0),(2,0),(2,0),(2,4096),(2,0),(2,0)]))) = true :=
  by decide +kernel

/-- States and operands that meet the hypotheses of every clause of `Obligations.BilletsOutputs`. -/
theorem witness_BilletsOutputs :
    (goes dev 0 0x300 [] (pay [(1,1),(1,0),(1,4),(1,8),(2,3),(2,0),(2,1),(2,2),(2,3),(2,4)])) = true ∧
    (goes devO 0 0x301 [(2,0)] (tm 0)) = true ∧
    (goes devO 0 0x301 [(2,0)] (tm 0) (deadline := 0xFFFFFFF0)) = true ∧
    (goes devE 0 0x301 [(2,1)] (tm 1 8)) = true ∧
    (goes devE 0 0x301 [(2,2)] (tm 2)) = true ∧
    (goes devA 0 0x302 [(1,1)] (pay [(1,1),(1,0),(2,0)])) = true ∧
    (goes devE 0 0x302 [(1,1)] (pay [(1,1),(1,0),(2,0)])) = true ∧
    (goes devE 0 0x302 [(1,0)] (pay [(1,1),(1,0),(2,0)])) = true ∧
    (goes devA 0 0x302 [(1,0)] (pay [(1,1),(1,0),(2,0)])) = true ∧
    (goes devA 0 0x303 [] (pay [(1,1),(1,0),(2,0),(2,0),(2,0)])) = true ∧
    (goes devA 0 0x306 [] (pay [(1,1),(1,0),(2,0x4321),(2,500),(2,0)])) = true ∧
    (goes (devO2.setReg R.ANV_STAT 7) 0 0x303 [] (pay [(1,1),(1,0),(2,64),(2,32),(2,0)])) = true :=
  by decide +kernel

end W20
/-! ## Billets of Hardy, jobs, audio, touch, the network, power, diagnostics and the pair -/

namespace W21

def gr : List Byte := []
def devH : State := (dev.modHd 1 (fun d => {d with granules := [10,11,12,13], last := some 7, st := (List.range 16).map (fun r => {HVerdict.reset with latched := true, count := 3, recent := [(7, r % 2 == 1), (6,true)]})})).modOu 1 (fun o => {o with set := some 0})
def devH2 : State := {devH with regs := devO.regs, cfg := devO.cfg}
def devP (f sh : Bool) (tr : Option Nat) : State := (dev.modOu 0 (fun o => {o with enabled := true, gen := .run})).modLimp (fun l => {l with forced := f, shown := sh, trigger := tr})
def devJ : State := dev.modSlice 0 (fun x => {x with surfaces := [surf 1 512 [], surf 2 512 [], surf 3 512 [], (devS.slice 0).surfaces.headD (tex 5)]})
def g1 : Gain := ⟨some 256, none⟩
def devA : State := dev.modAud (fun a => {(a.setCross 37 g1) with inGain := putAt a.inGain 3 g1, streams := [⟨0,4,2,1,4096,0x1000,0x2000,0,0,some (1,77)⟩], players := [⟨some ⟨3,false,false,1,0,1,1,0,false,some (0,5),0⟩,none⟩,⟨none,none⟩,⟨none,none⟩,⟨none,none⟩], inOwner := putAt (putAt a.inOwner 4 0) 5 0})
def devT : State := (dev.modTg 2 (fun t => {t with configured := true, slice := 0, haptic := some 1, th := 20, rel := 10, neg := 30, enabled := false, els := (List.range 12).map (fun k => {TouchEl.reset with role := if k < 6 then 1 else 0, raw := 100 + k, base := 90, delta := 10, suspect := k == 3})})).modHap 1 (fun h => {h with st := .idle})
def devTE : State := devT.modTg 2 (fun t => {t with enabled := true, ctls := putAt t.ctls 2 ⟨true, 3, 0, none⟩})
def tgp : List Byte := pay [(1,2),(1,0),(1,1),(1,0)] ++ [1,1,2,2,0,0,0,0,0,0,0,0] ++ pay [(2,50),(2,40),(2,30),(2,0),(1,3),(7,0)]
def devN : State := {dev with net := {dev.net with avtp := [⟨77,0,true,1,0,1,0,0,0,0,0,0,[]⟩]}}
def devW : State := {dev with power := {dev.power with sources := 0x3F, alarm := 5}}
def devG : State := (dev.slagErr 5 3 7).slagWarn 6 2 1
def devU : State := {dev with fuses := {dev.fuses with pair := true}}.setFlag R.ULX_STAT 2 true
/-- States and operands that meet the hypotheses of every clause of `Obligations.BilletsHardy`. -/
theorem witness_BilletsHardy :
    (goes devH2 1 0x400 [] (pay [(1,1),(1,4),(1,3),(1,2),(2,0),(2,0),(2,10),(2,12),(4,0)])) = true ∧
    (goes devH2 1 0x401 [] (pay [(1,1),(3,0),(4,100),(4,3),(3,0x123456)])) = true ∧
    (goes (devH2.modSlice 1 (fun x => {x with surfaces := (devS.slice 0).surfaces})) 1 0x402 [] (pay [(2,5),(1,1),(1,0),(4,0),(4,100),(4,3)])) = true ∧
    (goes devH2 1 0x403 [] (pay [(1,1),(3,0)])) = true ∧
    (goes devH2 1 0x404 [] (pay [(1,1),(1,0),(2,0x00FF)])) = true ∧
    (goes devH2 1 0x405 [] (pay [(1,0),(3,0),(4,100),(3,0x123456)])) = true ∧
    (goes devH2 1 0x405 [] (pay [(1,1),(3,0),(4,10),(3,0x123456)])) = true ∧
    ([devP false false none, devP true true none, devP false true none].all (fun d => goes d 1 0x406 [(0,1)] (pay [(1,1),(3,0)]))) = true ∧
    ([devP false false none, devP true true none, devP false true none].all (fun d => goes d 1 0x406 [(0,2)] (pay [(1,1),(3,0)]))) = true ∧
    ([devP false false none, devP true true none, devP false true none].all (fun d => goes d 1 0x406 [(0,0)] (pay [(1,1),(3,0)]))) = true :=
  by decide +kernel

/-- States and operands that meet the hypotheses of every clause of `Obligations.BilletsJobs`. -/
theorem witness_BilletsJobs :
    (goes devJ 0 0x500 [] (pay [(2,1),(2,0),(4,16),(4,32),(2,5),(2,0),(2,0),(2,0),(2,0),(2,0),(2,0),(2,0),(4,0)])) = true ∧
    (goes devJ 0 0x501 [] pl) = true :=
  by decide +kernel

/-- States and operands that meet the hypotheses of every clause of `Obligations.BilletsAudio`. -/
theorem witness_BilletsAudio :
    (goes devA 0 0x600 [] (pay [(1,2),(1,5),(2,0x8000),(2,0),(2,0)])) = true ∧
    (goes devA 0 0x600 [] (pay [(1,2),(1,5),(2,0xFF00),(2,10),(2,0)])) = true ∧
    (goes devA 0 0x600 [] (pay [(1,2),(1,6),(2,0xFF00),(2,10),(2,0)])) = true ∧
    (goes devA 0 0x600 [] (pay [(1,2),(1,6),(2,0x8000),(2,10),(2,0)])) = true ∧
    (goes devA 0 0x601 [] (pay [(1,0),(1,3),(2,0xFF00),(2,10),(2,0)])) = true ∧
    (goes devA 0 0x601 [] (pay [(1,1),(1,3),(2,0x8000),(2,10),(2,0)])) = true ∧
    (goes (devA.modAudOut 3 (fun o => {o with gain := Gain.off})) 0 0x601 [] (pay [(1,1),(1,3),(2,0x8000),(2,10),(2,0)])) = true ∧
    (goes devA 0 0x602 [(0,1)] (pay [(1,1),(1,8),(1,2),(1,1),(4,8192),(8,0x4000),(8,0x3000)])) = true ∧
    (goes devA 0 0x602 [(0,2)] (pay [(1,1),(1,4),(1,2),(1,1),(4,8192),(8,0x4000),(8,0x3000)])) = true ∧
    (goes devA 0 0x603 [] (pay [(1,3),(1,4),(2,0),(4,0xFFFFFFFF),(4,1),(4,2),(4,3),(4,4)])) = true ∧
    (goes devA 0 0x604 [] (pay [(1,3),(1,0),(2,0xFF00),(2,100),(2,100),(2,7),(2,0)])) = true ∧
    (goes devA 0 0x605 [] (pay [(1,3),(1,0),(2,0xFF00),(2,100),(1,100),(1,0)])) = true ∧
    (goes (devA.modSlice 0 (fun x => {x with nextSeq := 6, journal := [⟨5,0,.openIssued,none,⟨5,0,0x605,false,false,1,0⟩,⟨0x605,8,5,0,0,0,0,0,0,0,[]⟩,true,0,none,none⟩]})) 0 0x606 [] (pay [(4,5)])) = true ∧
    (goes devA 0 0x607 [] (pay [(1,0),(1,3),(1,1),(1,0)])) = true ∧
    (goes devA 0 0x607 [] (pay [(1,1),(1,3),(1,1),(1,0)])) = true :=
  by decide +kernel

/-- States and operands that meet the hypotheses of every clause of `Obligations.BilletsTouch`. -/
theorem witness_BilletsTouch :
    (goes devT 0 0x700 [] tgp) = true ∧
    (goes devT 0 0x701 [(1,1)] (pay [(1,2),(1,1),(2,0)])) = true ∧
    (goes devTE 0 0x701 [(1,1)] (pay [(1,2),(1,1),(2,0)])) = true ∧
    (goes devT 0 0x701 [(1,0)] (pay [(1,2),(1,0),(2,0)])) = true ∧
    (goes devTE 0 0x701 [(1,0)] (pay [(1,2),(1,0),(2,0)])) = true ∧
    (goes devTE 0 0x702 [] (pay [(1,2),(3,0),(4,64),(8,0x7000)])) = true ∧
    (goes dev 0 0x703 [] (pay [(1,2),(1,1),(2,150),(2,0x4000),(2,77),(8,0)])) = true ∧
    (goes (dev.modHap 2 (fun h => {h with st := .play, stopping := true,  next := some ⟨1,2,none⟩})) 0 0x703 [] (pay [(1,2),(1,1),(2,150),(2,0x4000),(2,77),(8,0)])) = true ∧
    (goes (((dev.modHap 2 (fun h => {h with st := .play, next := some ⟨1,2,none⟩})).setReg (banked R.HAP_DRV 2) (150 + 65536*0x4000)).setReg (banked R.HAP_TIM 2) 77) 0 0x703 [] (pay [(1,2),(1,0),(2,150),(2,0x4000),(2,77),(8,0)])) = true ∧
    (goes devT 0 0x704 [] (pay [(1,1),(1,5),(1,200),(1,0)])) = true ∧
    (goes (devT.modHap 1 (fun h => {h with st := .play, next := some ⟨1,2,none⟩})) 0 0x704 [] (pay [(1,1),(1,5),(1,200),(1,0)])) = true ∧
    (goes devT 0 0x705 [] (pay [(1,2),(1,5),(1,20),(1,1)])) = true ∧
    (goes devT 0 0x705 [] (pay [(1,2),(1,5),(1,0xFF),(1,1)])) = true :=
  by decide +kernel

/-- States and operands that meet the hypotheses of every clause of `Obligations.BilletsNetwork`. -/
theorem witness_BilletsNetwork :
    (goes devN 0 0x800 [] (pay [(8,78),(1,3),(1,2),(1,1),(1,1),(4,0)])) = true ∧
    (goes ((devN.setReg (R.NET_P_CBS 1) 0x1F402EE).setReg R.NET_PCP_MAP 0xFAC688 |>.setReg (R.NET_P_STAT 1) 9) 0 0x801 [] (pay [(8,78),(6,0x112233445566),(2,3*8192+5),(1,3),(1,2),(1,1),(1,1),(4,2000)])) = true ∧
    (goes devN 0 0x802 [] (pay [(8,77)])) = true ∧
    (goes devN 0 0x802 [] (pay [(8,78)])) = true ∧
    (goes devN 0 0x803 [] (pay [(1,1),(1,2),(2,0),(4,300),(8,99),(4,100),(1,3),(3,0),(4,200),(1,5),(3,0)])) = true :=
  by decide +kernel

/-- States and operands that meet the hypotheses of every clause of `Obligations.BilletsPower`. -/
theorem witness_BilletsPower :
    (goes devW 0 0xA00 [(0,0)] (pay [(1,0),(3,0)])) = true ∧
    (goes devW 0 0xA00 [(0,1)] (pay [(1,1),(3,0)])) = true ∧
    (goes devW 0 0xA00 [(0,2)] (pay [(1,1),(3,0)])) = true ∧
    (goes devW 0 0xA00 [(0,3)] (pay [(1,1),(3,0)])) = true ∧
    (goes devW 0 0xA00 [(0,4)] (pay [(1,1),(3,0)])) = true ∧
    (goes devW 0 0xA00 [(0,5)] (pay [(1,1),(3,0)])) = true ∧
    (goes devW 0 0xA01 [] (pay [(4,0x3B),(4,0),(8,1234)])) = true :=
  by decide +kernel

/-- States and operands that meet the hypotheses of every clause of `Obligations.BilletsDiagnostics`. -/
theorem witness_BilletsDiagnostics :
    (goes devG 1 0xB00 [] (pay [(2,0),(2,0)])) = true ∧
    (goes devG 1 0xB00 [] (pay [(2,2),(2,0)])) = true ∧
    (goes ((devS.setReg (R.CRC_U_CTRL 2) 1).modSlice 0 (fun x => {x with perm := 7})) 0 0xB02 [] (pay [(1,2),(1,0),(2,5),(4,8),(4,16),(4,0)])) = true ∧
    (goes dev 0 0xB03 [(0,0)] (pay [(1,2),(1,0),(2,0)])) = true ∧
    (goes (dev.modHap 2 (fun h => {h with st := .idle})) 0 0xB03 [(0,1)] (pay [(1,1),(1,2),(2,0)])) = true ∧
    (goes dev 0 0xB03 [(0,2)] (pay [(1,2),(1,0),(2,0)])) = true ∧
    (goes devG 0 0xB04 [] (pay [(4,7),(4,0x1234)])) = true ∧
    (goes dev 0 0xB04 [] (pay [(4,7),(4,0x1234)])) = true :=
  by decide +kernel

/-- States and operands that meet the hypotheses of every clause of `Obligations.BilletsPair`. -/
theorem witness_BilletsPair :
    (goes devU 0 0x900 [] (pay [(1,1),(3,0)])) = true ∧
    (goes devU 0 0x903 [] (pay [(1,1),(3,0)])) = true :=
  by decide +kernel

end W21
/-! ## The mirrored pair -/

namespace W30

def hd0 : UlxHdr := ⟨8, 3, true⟩
def pr (r : Role) (ph : Nat) : State := ((({dev with fuses := {dev.fuses with pair := true}, pair := {dev.pair with role := r, rseq := 7, unacked := [(3, .tkoRelease 1), (4, .tkoRelease 2)], cutOk := List.replicate 8 3, cutFrame := List.replicate 8 9, frames := [1,2,3,4,5,6,7,8]}}.setFlag R.ULX_STAT 2 true).setFld R.ULX_STAT 0 2 (match r with | .solo => 0 | .active => 1 | .standby => 2)).setFld R.ULX_STAT 6 3 ph).setFld R.ULX_HOLD 0 16 0xFF00
def ent (st : JState) (code : Nat) (q : Word) (pl : List Byte) : JEntry := ⟨q, 5, st, some 4, ⟨q,0,BitVec.ofNat 12 code,true,false,1,4⟩, ⟨BitVec.ofNat 16 code, BitVec.ofNat 16 pl.length, q, 0,0,0,0,0,0,5,pl⟩, true, 0, none, none⟩
def withE (s : State) (e : JEntry) : State := s.modSlice 0 (fun x => {x with journal := [e], nextSeq := e.seq + 1, slots := putAt x.slots 4 {Slot.empty with st := .pending, seq := e.seq}})
def wel (ph : Nat) : State := let s := pr .solo ph; withE {s with pair := {s.pair with weld := some (5, 1)}} (ent .openIssued 0x900 5 (pay [(1,1),(3,0)]))
def uw : Billet := bil (pr .active 5) 0 0x901 [] (pay [(4,0)])
def hyp_idleFrame_1 (s : State) (h : UlxHdr) : Bool :=
  decide (s.safe = true) && decide (s.flag R.ULX_STAT 2 = true) && decide (s.pair.waiting = []) && decide (h.good = true) &&
    decide (h.lseq = s.pair.rseq)
def hyp_idleFrame_2 (s : State) (h : UlxHdr) : Bool :=
  decide (s.safe = true) && decide (s.flag R.ULX_STAT 2 = true) && decide ((h.good = false ∨ h.lseq ≠ s.pair.rseq))
def hyp_ulxRetransmit_1 (s : State) : Bool :=
  decide (s.safe = true) && decide (s.flag R.ULX_STAT 2 = true)
def hyp_ulxTrained_1 (s : State) (lat : Half) : Bool :=
  decide (s.safe = true) && decide (s.fuses.pair = true) && decide (s.flag R.ULX_CTRL 0 = true) && decide (s.pair.waiting = [])
def hyp_ulxLinkDown_1 (s : State) : Bool :=
  decide (s.safe = true) && decide (s.flag R.ULX_STAT 2 = true)
def hyp_ulxLatencyMeasure_1 (s : State) (lat : Half) : Bool :=
  decide (s.safe = true) && decide (s.flag R.ULX_STAT 2 = true)
def hyp_hbPresent_1 (s : State) (tko : Bool) : Bool :=
  decide (s.safe = true) && decide (s.fuses.pair = true)
def hyp_pairFrames (s : State) (h : UlxHdr) : Bool :=
  decide (s.safe = true) && decide (s.flag R.ULX_STAT 2 = true) && decide ((h.good = false ∨ h.lseq ≠ s.pair.rseq + 1))
/-- States and operands that meet the hypotheses of every clause of `Obligations.PairLink`. -/
theorem witness_PairLink :
    (hyp_idleFrame_1 (pr .active 5) ⟨7,3,true⟩) = true ∧
    (hyp_idleFrame_2 (pr .active 5) ⟨9,3,true⟩) = true ∧
    (hyp_ulxRetransmit_1 (pr .active 5)) = true ∧
    (hyp_ulxTrained_1 ((pr .active 5).setFlag R.ULX_CTRL 0 true) 77) = true ∧
    (hyp_ulxLinkDown_1 (pr .active 5)) = true ∧
    (hyp_ulxLatencyMeasure_1 (pr .active 5) 99) = true ∧
    (hyp_hbPresent_1 (pr .active 5) true) = true ∧
    (hyp_pairFrames (pr .active 5) ⟨9, 3, true⟩) = true ∧
    (hyp_pairFrames (pr .active 5) ⟨8, 3, false⟩) = true :=
  by decide +kernel

def hyp_hello_1 (s : State) (h : UlxHdr) (m : Hello) : Bool :=
  decide (s.safe = true) && decide (s.InOrder h) && decide (s.phase ≤ 1) && decide (s.pair.weld = none)
def hyp_hello_2 (s : State) (h : UlxHdr) (m : Hello) (q : Word) (p : Nat) : Bool :=
  decide (s.InOrder h) && decide (s.phase = 1) && decide (s.pair.weld = some (q, p)) && decide (s.Owes 0 q)
def hyp_weldTimeout_1 (s : State) (q : Word) (p : Nat) : Bool :=
  decide (s.phase = 1) && decide (s.pair.weld = some (q, p)) && decide (s.Owes 0 q)
def hyp_weldDrain_1 (s : State) : Bool :=
  decide (s.safe = true) && decide (s.phase = 2) && decide (s.pair.toActive = true)
def hyp_weldFreeze_1 (s : State) : Bool :=
  decide (s.safe = true) && decide (s.phase = 3) && decide (s.pair.toActive = true) && decide (s.workIssued = false)
def hyp_stateFrame_1 (s : State) (h : UlxHdr) (l : List (Nat × Word)) : Bool :=
  decide (s.InOrder h) && decide (s.phase = 2) && decide (s.pair.toActive = false) && decide (s.safe = true) &&
    decide ((l.map Prod.fst).Nodup)
def hyp_stateFrame_2 (s : State) (h : UlxHdr) (n : Nat) (x : Slice) : Bool :=
  decide (s.InOrder h) && decide (s.phase = 2) && decide (s.pair.toActive = false) && decide (s.safe = true) && decide (n < 16)
def hyp_stateFrame_3 (s : State) (h : UlxHdr) (l : List Layer) (c : List PCommit) (k : List ScalerSt) : Bool :=
  decide (s.safe = true) && decide (s.InOrder h) && decide (s.phase = 2) && decide (s.pair.toActive = false)
def hyp_stateFrame_4 (s : State) (h : UlxHdr) (i : Mem) (p : List Nat) : Bool :=
  decide (s.safe = true) && decide (s.InOrder h) && decide (s.phase = 2) && decide (s.pair.toActive = false)
def hyp_stateFrame_5 (s : State) (h : UlxHdr) (l : List Word) : Bool :=
  decide (s.safe = true) && decide (s.InOrder h) && decide (s.phase = 2) && decide (s.pair.toActive = false)
def hyp_stateFrame_6 (s : State) (h : UlxHdr) (x : List TouchGroup) (a : Audio) (g : List GateState) (v : List AvtpStream) : Bool :=
  decide (s.safe = true) && decide (s.InOrder h) && decide (s.phase = 2) && decide (s.pair.toActive = false)
def hyp_weldDone_1 (s : State) (q : Word) (p : Nat) : Bool :=
  decide (s.phase = 4) && decide (s.pair.toActive = true) && decide (s.pair.weld = some (q, p)) && decide (s.Owes 0 q)
def hyp_weldDone_2 (s : State) : Bool :=
  decide (s.phase = 2) && decide (s.pair.toActive = false) && decide (s.safe = true) && decide (s.pair.frames.length = 8)
/-- States and operands that meet the hypotheses of every clause of `Obligations.PairWelding`. -/
theorem witness_PairWelding :
    (hyp_hello_1 (pr .solo 0) hd0 ((pr .solo 0).helloMsg 2)) = true ∧
    (hyp_hello_2 (wel 1) hd0 ((wel 1).helloMsg 2) 5 1) = true ∧
    (hyp_hello_2 (wel 1) hd0 {(wel 1).helloMsg 2 with rank := true} 5 1) = true ∧
    (hyp_hello_2 (wel 1) hd0 {(wel 1).helloMsg 1 with rank := true} 5 1) = true ∧
    (hyp_hello_2 (wel 1) hd0 {(wel 1).helloMsg 1 with rank := true, tier := 4} 5 1) = true ∧
    (let s := {wel 1 with pair := {(wel 1).pair with weld := some (5,2)}}; hyp_hello_2 s hd0 {s.helloMsg 0 with rank := true} 5 2) = true ∧
    (hyp_weldTimeout_1 (wel 1) 5 1) = true ∧
    (let s := wel 2; hyp_weldDrain_1 {s with pair := {s.pair with toActive := true}}) = true ∧
    (let s := wel 3; hyp_weldFreeze_1 {s with pair := {s.pair with toActive := true}}) = true ∧
    (hyp_stateFrame_1 (pr .solo 2) hd0 [(R.AUD_CFG, 0x505), (R.ULX_CFG, 77), (R.HRD_STAT, 5)]) = true ∧
    (hyp_stateFrame_2 (pr .solo 2) hd0 3 {Slice.reset with perm := 7}) = true ∧
    (hyp_stateFrame_3 (pr .solo 2) hd0 [] [] []) = true ∧
    (hyp_stateFrame_4 (pr .solo 2) hd0 [] [3]) = true ∧
    (hyp_stateFrame_5 (pr .solo 2) hd0 [1,2]) = true ∧
    (hyp_stateFrame_6 (pr .solo 2) hd0 [] Audio.reset [] []) = true ∧
    (let s := wel 4; hyp_weldDone_1 {s with pair := {s.pair with toActive := true}} 5 1) = true ∧
    (hyp_weldDone_2 (pr .solo 2)) = true :=
  by decide +kernel

def hyp_journal_1 (s : State) (h : UlxHdr) (n : Fin 16) (m : BilletMsg) (k : Option (Fin 64)) (r : Reply) : Bool :=
  decide (s.safe = true) && decide (s.InOrder h) && decide (s.pair.role = .standby) &&
    decide ((opOf m.opcode).any (fun d => !d.imm) = true) &&
    decide (((s.slice n.val).journal.all (fun e => e.seq != m.seq)) = true)
def hyp_jack_1 (s : State) (h : UlxHdr) (n : Fin 16) (q c : Word) (ns : Half) : Bool :=
  decide (s.safe = true) && decide (s.InOrder h) && decide (s.pair.role = .active) &&
    decide ((s.slice n.val).inHand = .staged q) &&
    decide (((s.slice n.val).entry q).any (fun e => e.check == c && (opOf e.body.opcode).any (!·.imm)) = true) &&
    decide (s.net.billetQ = [])
def hyp_replyFrame_1 (s : State) (h : UlxHdr) (n : Fin 16) (r : Option Reply) (tail head db : Word) : Bool :=
  decide (s.safe = true) && decide (s.InOrder h) && decide (s.pair.role = .standby) &&
    decide ((s.slice n.val).binding.isPcie = true)
def hyp_complete_1 (s : State) (h : UlxHdr) (n : Fin 16) (q : Word) (st : Half) (v : DWord) : Bool :=
  decide (s.safe = true) && decide (s.InOrder h) && decide (s.pair.role = .standby) && decide (s.openAt n.val q) &&
    decide ((((s.slice n.val).entry q).bind (·.slot)).any (· < 64) = true) && decide (st.toNat = S_DONE)
def hyp_complete_2 (s : State) (h : UlxHdr) (q : QuenchReq) (o : Nat) : Bool :=
  decide (s.safe = true) && decide (s.InOrder h) && decide (s.pair.role = .standby) && decide (q.slice < 16)
def hyp_event_1 (s : State) (h : UlxHdr) (ns : Nat) (b : Bool) : Bool :=
  decide (s.safe = true) && decide (s.InOrder h) && decide (s.pair.role = .standby)
def hyp_event_2 (s : State) (h : UlxHdr) (p : AudioPins) : Bool :=
  decide (s.safe = true) && decide (s.InOrder h) && decide (s.pair.role = .standby)
def hyp_cutoffFrame_1 (s : State) (h : UlxHdr) (c : CutMsg) : Bool :=
  decide (s.safe = true) && decide (s.InOrder h) && decide (s.pair.role = .standby) && decide (s.pair.cutOk.length = 8) &&
    decide (s.pair.cutFrame.length = 8) && decide (c.out < s.nOut) && decide (0 < sdiff c.frame (s.frameNo c.out))
def hyp_cutoffTimeout_1 (s : State) (n : Fin 8) : Bool :=
  decide (s.pair.role = .standby) && decide ((s.ou n.val).fabDue = true) && decide (s.safe = true) &&
    decide (s.pair.cutOk.length = 8)
def hyp_pairUnweld_1 (s : State) (b : Billet) : Bool :=
  decide (s.safe = true) && decide (s.pair.role = .active) && decide (s.takes b.slice.val (billetMsg b 0x0901 []) = true)
def hyp_pairSwitch_1 (s : State) (b : Billet) : Bool :=
  decide (s.safe = true) && decide (s.pair.role = .active) && decide (s.takes b.slice.val (billetMsg b 0x0902 []) = true)
/-- States and operands that meet the hypotheses of every clause of `Obligations.PairForwarding`. -/
theorem witness_PairForwarding :
    (hyp_journal_1 (pr .standby 5) hd0 0 (ent .done 0xA01 9 (pay [(4,1),(4,0),(8,0)])).body (some 3) (ent .done 0xA01 9 []).reply) = true ∧
    (hyp_jack_1 (let s := withE (pr .active 5) (ent .staged 0x901 5 (pay [(4,0)])); s.modSlice 0 (fun x => {x with inHand := .staged 5})) hd0 0 5 5 77) = true ∧
    (hyp_replyFrame_1 (pr .standby 5) hd0 0 none 1 2 3) = true ∧
    (hyp_complete_1 (withE (pr .standby 5) (ent .openIssued 0x901 5 (pay [(4,0)]))) hd0 0 5 2 77) = true ∧
    (hyp_complete_1 (withE (pr .standby 5) {ent .openIssued 0x901 5 (pay [(4,0)]) with here := some (2,8)}) hd0 0 5 2 77) = true ∧
    (hyp_complete_2 (pr .standby 5) hd0 ⟨0,1,2,3⟩ 2) = true ∧
    (hyp_event_1 (pr .standby 5) hd0 77 true) = true ∧
    (hyp_event_2 (pr .standby 5) hd0 ⟨[],[]⟩) = true ∧
    (hyp_cutoffFrame_1 (pr .standby 5) hd0 ⟨1, 7, [], true, false, 0x155⟩) = true ∧
    (hyp_cutoffTimeout_1 ((pr .standby 5).modOu 1 (fun o => {o with fabDue := true})) 1) = true ∧
    (hyp_pairUnweld_1 (pr .active 5) uw) = true ∧
    (hyp_pairSwitch_1 ((pr .active 5).setFld R.ULX_HOLD 0 8 0) (bil (pr .active 5) 0 0x902 [] (pay [(4,0)]))) = true :=
  by decide +kernel

def hyp_tkoRequest_1 (s : State) (h : UlxHdr) (n : Fin 8) (f : Word) : Bool :=
  decide (s.safe = true) && decide (s.InOrder h)
def hyp_tkoGrant_1 (s : State) (h : UlxHdr) (n : Fin 8) (c : Word) : Bool :=
  decide (s.safe = true) && decide (s.InOrder h) && decide (s.pair.ask.any (fun a => a.1 == n.val) = true)
def hyp_tkoRefusal_1 (s : State) (h : UlxHdr) (n : Fin 8) : Bool :=
  decide (s.safe = true) && decide (s.InOrder h) && decide (s.pair.ask.any (fun a => a.1 == n.val) = true)
def hyp_tkoAnswerTimeout_1 (s : State) (n : Fin 8) : Bool :=
  decide (s.safe = true) && decide (s.pair.ask.any (fun a => a.1 == n.val) = true)
def hyp_tkoRelease_1 (s : State) (h : UlxHdr) (n : Fin 8) : Bool :=
  decide (s.safe = true) && decide (s.InOrder h)
def hyp_hardyFrame_1 (s : State) (h : UlxHdr) (n : Fin 8) (f : Word) (r : Fin 256) (c : Word) (ok : Bool) : Bool :=
  decide (s.safe = true) && decide (s.InOrder h) && decide (s.pair.role ≠ .solo) && decide ((s.hd n.val).last ≠ some f)
def hyp_hbLost_1 (s : State) (tko : Bool) : Bool :=
  decide (s.safe = true) && decide (s.fuses.pair = true) && decide (s.flag R.ULX_STAT 3 = true)
def hyp_tkoConfirm_1 (s : State) (tko : Bool) : Bool :=
  decide (s.safe = true) && decide (s.pair.lostAt ≠ none)
def hyp_ulxSever_1 (s : State) : Bool :=
  decide (s.safe = true) && decide (s.fuses.pair = true) && decide (s.flag R.ULX_STAT 2 = false) && decide (s.pair.role ≠ .solo) &&
    decide (s.net.billetQ = []) && decide (s.noStaged = true)
def hyp_takeOutput_1 (s : State) (n : Fin 8) (c : Option Word) : Bool :=
  decide (s.safe = true) && decide ((s.pair.take.find? (fun x => x.1 == n.val)) = some (n.val, c)) &&
    decide (c.all (fun w => decide (0 ≤ sdiff (s.frameNo n.val) w)) = true) && decide (s.scanning n.val = true) &&
    decide ((s.pair.role = .solo ∨ s.pair.cause = 1 ∨ s.flag R.ULX_HOLD (8 + n.val) = false)) && decide (s.pair.switch = none)
/-- States and operands that meet the hypotheses of every clause of `Obligations.PairTakeover`. -/
theorem witness_PairTakeover :
    (hyp_tkoRequest_1 (pr .active 5) hd0 1 7) = true ∧
    (hyp_tkoGrant_1 {pr .active 5 with pair := {(pr .active 5).pair with ask := [(1,4),(2,3)]}} hd0 1 8) = true ∧
    (hyp_tkoRefusal_1 {pr .active 5 with pair := {(pr .active 5).pair with ask := [(1,4),(2,3)]}} hd0 1) = true ∧
    (hyp_tkoAnswerTimeout_1 {pr .active 5 with pair := {(pr .active 5).pair with ask := [(1,4),(2,3)]}} 1) = true ∧
    (hyp_tkoRelease_1 (pr .active 5) hd0 1) = true ∧
    (hyp_hardyFrame_1 (pr .active 5) hd0 1 7 3 88 true) = true ∧
    ([Role.solo, .active, .standby].all (fun r => hyp_hbLost_1 ((pr r 5).setFlag R.ULX_STAT 3 true) true)) = true ∧
    ([Role.solo, .active, .standby].all (fun r => hyp_tkoConfirm_1 {pr r 5 with pair := {(pr r 5).pair with lostAt := some 1}} true)) = true ∧
    ([Role.active, .standby].all (fun r => hyp_ulxSever_1 ((pr r 5).setFlag R.ULX_STAT 2 false))) = true ∧
    (let s := {devO with fuses := {dev.fuses with pair := true}, pair := {dev.pair with role := .active, cause := 1, take := [(2,none),(1,none)]}}; hyp_takeOutput_1 (s.modOu 1 (fun o => {o with enabled := true, gen := .run})) 1 none) = true :=
  by decide +kernel

end W30
/-! ## Slices -/

namespace W40

def ent (st : JState) (code : Nat) (q : Word) (pl : List Byte) : JEntry := ⟨q, 5, st, some 4, ⟨q,0,BitVec.ofNat 12 code,true,false,1,4⟩, ⟨BitVec.ofNat 16 code, BitVec.ofNat 16 pl.length, q, 0,0,0,0,0,0,5,pl⟩, true, 0, none, none⟩
def withE (s : State) (e : JEntry) : State := s.modSlice 0 (fun x => {x with journal := [e], nextSeq := e.seq + 1, slots := putAt x.slots 4 {Slot.empty with st := .pending, seq := e.seq}})
def fe : State := (withE dev (ent .done 0xA01 9 [])).modSlice 0 (fun x => {x with db := 3})
def raw (m : BilletMsg) : List Byte := msgBytes {m with check := billetCrc m 0}
def nopm : BilletMsg := ⟨0, 0, 10, 0x77, 0,0,0,0,0,0,[]⟩
def nid : NetId := {mac := 5, vlan := 2, ipv4 := 77, udp := 4}
def de : State := (dev.modSlice 0 (fun x => {x with binding := .eth nid, nextSeq := 10})).setFlag R.NET_CFG 0 true
def ac (d : Nat) : Access := ⟨.port 0, 15, BitVec.ofNat 32 d⟩
def fs : State := fe.modSlice 0 (fun x => {x with slots := putAt x.slots 33 {Slot.empty with st := .done, value := 0x1122334455, readCount := 255}})
def hyp_billetFetch_1 (s : State) (n : Fin 16) (raw : List Byte) : Bool :=
  decide (s.safe = true) && decide (s.Fetches n.val)
def hyp_billetFetch_2 (s : State) (n : Fin 16) (raw : List Byte) : Bool :=
  decide (s.safe = true) && decide (s.Fetches n.val) && decide (((s.slice n.val).entry (rawBillet raw).seq).isNone = true) &&
    decide ((s.judgeBillet n.val (rawBillet raw) (32 + (rawBillet raw).length.toNat) false).open = true)
def hyp_fenceWaitEnd_1 (s : State) (n : Fin 16) (m : BilletMsg) (len : Nat) : Bool :=
  decide (s.safe = true) && decide (s.pair.role = .solo) && decide (s.knabyRuns = true) && decide (s.net.billetQ = []) &&
    decide ((s.slice n.val).inHand = .fence m len) && decide ((s.slice n.val).openCount = 0) &&
    decide (((s.slice n.val).entry m.seq).isNone = true) && decide ((s.judgeBillet n.val m len false).open = true)
def hyp_windowWaitEnd_1 (s : State) (n : Fin 16) (m : BilletMsg) (len : Nat) : Bool :=
  decide (s.safe = true) && decide (s.pair.role = .solo) && decide (s.knabyRuns = true) && decide (s.net.billetQ = []) &&
    decide ((s.slice n.val).inHand = .window m len) && decide (((s.slice n.val).entry m.seq).isNone = true) &&
    decide ((s.judgeBillet n.val m len false).open = true)
def hyp_fenceWaitEnd_2 (s : State) (n : Fin 16) (m : BilletMsg) (len : Nat) : Bool :=
  decide (s.safe = true) && decide ((s.slice n.val).inHand = .fence m len) && decide ((s.slice n.val).openCount ≠ 0)
/-- States and operands that meet the hypotheses of every clause of `Obligations.BilletFetched`. -/
theorem witness_BilletFetched :
    ([nopm, {nopm with res14 := 1}, {nopm with opcode := 0x999}].all (fun m => hyp_billetFetch_1 fe 0 (raw m))) = true ∧
    (hyp_billetFetch_1 fe 0 (msgBytes {nopm with check := 7})) = true ∧
    (hyp_billetFetch_1 fe 0 (msgBytes {nopm with seq := 9, check := 5})) = true ∧
    (hyp_billetFetch_1 (fe.modSlice 0 (fun x => {x with journal := [{ent .done 0xA01 9 [] with check := billetCrc {nopm with seq := 9} 0}]})) 0 (raw {nopm with seq := 9})) = true ∧
    ([nopm, {nopm with flags := 1}, {nopm with opcode := 1}].all (fun m => hyp_billetFetch_2 fe 0 (raw m))) = true ∧
    (hyp_fenceWaitEnd_1 (fe.modSlice 0 (fun x => {x with inHand := .fence {nopm with flags := 4, check := billetCrc {nopm with flags := 4} 0} 32})) 0 {nopm with flags := 4, check := billetCrc {nopm with flags := 4} 0} 32) = true ∧
    (hyp_windowWaitEnd_1 (fe.modSlice 0 (fun x => {x with inHand := .window {nopm with flags := 4, check := billetCrc {nopm with flags := 4} 0} 32})) 0 {nopm with flags := 4, check := billetCrc {nopm with flags := 4} 0} 32) = true ∧
    (hyp_fenceWaitEnd_2 ((withE fe (ent .openIssued 0x100 9 [])).modSlice 0 (fun x => {x with inHand := .fence nopm 32})) 0 nopm 32) = true :=
  by decide +kernel

def hyp_billetDatagram_1 (s : State) (n : Fin 16) (d : UdpIn) : Bool :=
  decide (s.safe = true) && decide (s.pair.role = .solo) && decide (s.netUp = true) && decide (s.knabyRuns = true) &&
    decide (s.net.billetQ = []) && decide (d.fragment = false) && decide (d.sum ≠ .bad) && decide (32 ≤ d.payload.length) &&
    decide (s.sliceOf d.src = some n.val) && decide (s.drcPhase ≠ 2) && decide (s.power.st = 0) && decide (s.power.step = 0) &&
    decide ((s.slice n.val).inHand = .none) && decide (((s.slice n.val).entry (rawBillet d.payload).seq).isNone = true)
def hyp_billetDatagram_2 (s : State) (d : UdpIn) : Bool :=
  decide (s.safe = true) && decide (s.netUp = true) && decide (
    let k := if s.pair.role = .standby then 4 else if d.fragment then 0 else if d.sum = .bad then 1 else if d.payload.length < 32 then 2
      else if (s.sliceOf d.src).isNone then 3 else if 256 ≤ s.net.billetQ.length then 5 else 6
    k ≠ 6)
def hyp_replyDatagram_1 (s : State) (n : Fin 16) (id : NetId) : Bool :=
  decide (s.safe = true) && decide (s.pair.role ≠ .standby) && decide ((s.slice n.val).binding = .eth id) &&
    decide ((s.slice n.val).udpOut ≠ [])
def hyp_slcDbWrite_1 (s : State) (n : Fin 16) (a : Access) : Bool :=
  decide (s.safe = true) && decide (s.reaches n.val a)
def hyp_slcRqHeadWrite_1 (s : State) (n : Fin 16) (a : Access) : Bool :=
  decide (s.safe = true) && decide (s.reaches n.val a)
def hyp_slotValueRead_1 (s : State) (n : Fin 16) (k : Fin 64) (a : Access) : Bool :=
  decide (s.safe = true) && decide (s.reaches n.val a)
def hyp_slotReleaseWrite_1 (s : State) (n : Fin 16) (hi : Bool) (a : Access) : Bool :=
  decide (s.safe = true) && decide (s.reaches n.val a)
def hyp_windowDenied (s : State) (n : Fin 16) (a : Access) : Bool :=
  decide (s.safe = true) && decide (s.served = true) && decide ((s.winMaster n.val a.req).isNone = true) && decide (a.be ≠ 0)
/-- States and operands that meet the hypotheses of every clause of `Obligations.SliceWindow`. -/
theorem witness_SliceWindow :
    ([raw nopm, raw nopm ++ [0]].all (fun r => hyp_billetDatagram_1 de 0 ⟨nid, false, .good, r⟩)) = true ∧
    ([UdpIn.mk nid true .good [], ⟨nid, false, .good, []⟩, ⟨{nid with mac := 4}, false, .good, raw nopm⟩].all (fun d => hyp_billetDatagram_2 de d)) = true ∧
    (hyp_replyDatagram_1 (de.modSlice 0 (fun x => {x with udpOut := List.replicate 70 ⟨1,2,3,false,false,1,1⟩})) 0 nid) = true ∧
    ([3, 300, 2].all (fun v => hyp_slcDbWrite_1 fe 0 (ac v))) = true ∧
    (hyp_slcRqHeadWrite_1 fe 0 (ac 4)) = true ∧
    ([33, 4, 2].all (fun k => hyp_slotValueRead_1 fs 0 k (ac 0))) = true ∧
    ([true, false].all (fun k => hyp_slotReleaseWrite_1 fs 0 k (ac 0x12))) = true ∧
    (hyp_windowDenied dev 3 (ac 5)) = true :=
  by decide +kernel

def hyp_effectIssue_1 (s : State) (n : Fin 16) (e : JEntry) : Bool :=
  decide (s.safe = true) && decide ((s.slice n.val).nextIssue = some e) &&
    decide ((opOf e.body.opcode).all (fun d => !s.issueReady n.val e d) = true)
def hyp_effectIssue_2 (s : State) (n : Fin 16) (e : JEntry) : Bool :=
  decide (s.Owes n.val e.seq) && decide ((s.slice n.val).nextIssue = some e) && decide ((s.slice n.val).entry e.seq = some e) &&
    decide (e.body.opcode.toNat = 0x0B00) && decide (s.mayIssue n.val e.seq = true)
def hyp_effectComplete_1 (s : State) (n : Fin 16) (q : Word) (r : EffResult) (e : JEntry) : Bool :=
  decide (s.Owes n.val q) && decide (s.knabyRuns = true) && decide ((s.slice n.val).entry q = some e) &&
    decide (e.st = .openIssued) && decide (r.status.toNat = S_DONE)
def hyp_effectComplete_2 (s : State) (n : Fin 16) (q : Word) (r : EffResult) (e : JEntry) : Bool :=
  decide (s.Owes n.val q) && decide (s.knabyRuns = true) && decide ((s.slice n.val).entry q = some e) &&
    decide (e.st = .openIssued) && decide (r.status.toNat ≠ S_DONE) &&
    decide ([0x0102, 0x0104, 0x0105].contains e.body.opcode.toNat = true) &&
    decide ((s.surf n.val (u16 e.body.payload 0)).isSome = true)
/-- States and operands that meet the hypotheses of every clause of `Obligations.EffectsIssueAndEnd`. -/
theorem witness_EffectsIssueAndEnd :
    (let e := ent .openWait 0xB00 9 (pay [(2,1)]); hyp_effectIssue_1 ((withE dev e).modOu 1 (fun o => {o with zeroSeq := some 3})) 0 e) = true ∧
    (let s := (withE dev (ent .openWait 0xB00 9 (pay [(2,1)]))).slagErr 3 4 5; hyp_effectIssue_2 s 0 (ent .openWait 0xB00 9 (pay [(2,1)]))) = true ∧
    (let e := (ent .openIssued 0x102 9 (pay [(2,5),(2,0),(2,1),(2,1),(2,2),(2,2),(4,32),(8,0x9000),(8,0)])); hyp_effectComplete_1 ((withE devS e).setReg (R.CRC_U_CTRL 2) 1) 0 9 ⟨2, 0, (List.replicate 16 9)⟩ e) = true ∧
    (let e := (ent .openIssued 0x104 9 (pay [(2,5),(2,0),(2,1),(2,1),(2,2),(2,2),(4,32),(8,0x9000),(8,0)])); hyp_effectComplete_1 ((withE devS e).setReg (R.CRC_U_CTRL 2) 1) 0 9 ⟨2, 0, []⟩ e) = true ∧
    (let e := (ent .openIssued 0x105 9 (pay [(2,5),(2,0),(2,1),(2,1),(2,2),(2,2),(4,32)])); hyp_effectComplete_1 ((withE devS e).setReg (R.CRC_U_CTRL 2) 1) 0 9 ⟨2, 0, []⟩ e) = true ∧
    (let e := (ent .openIssued 0x106 9 (pay [(2,5),(2,6),(2,1),(2,1),(2,2),(2,2),(2,1),(2,1)])); hyp_effectComplete_1 ((withE devS e).setReg (R.CRC_U_CTRL 2) 1) 0 9 ⟨2, 0, []⟩ e) = true ∧
    (let e := (ent .openIssued 0xB02 9 (pay [(1,2),(1,0),(2,5),(4,8),(4,16),(4,0)])); hyp_effectComplete_1 ((withE devS e).setReg (R.CRC_U_CTRL 2) 1) 0 9 ⟨2, 0, []⟩ e) = true ∧
    (let e := (ent .openIssued 0xB03 9 (pay [(1,2),(1,3),(2,0)])); hyp_effectComplete_1 ((withE devS e).setReg (R.CRC_U_CTRL 2) 1) 0 9 ⟨2, 0, [3]⟩ e) = true ∧
    (let e := (ent .openIssued 0x402 9 (pay [(2,5),(1,1),(1,0),(4,0),(4,100),(4,3)])); hyp_effectComplete_1 ((withE devS e).setReg (R.CRC_U_CTRL 2) 1) 0 9 ⟨2, 0, []⟩ e) = true ∧
    (let e := (ent .openIssued 0x102 9 (pay [(2,5),(2,0),(2,1),(2,1),(2,2),(2,2),(4,32),(8,0x9000),(8,0)])); hyp_effectComplete_2 (withE devS e) 0 9 ⟨0x8105, 0, []⟩ e) = true ∧
    (let e := (ent .openIssued 0x105 9 (pay [(2,5),(2,0),(2,1),(2,1),(2,2),(2,2),(4,32),(8,0x9000),(8,0)])); hyp_effectComplete_2 (withE devS e) 0 9 ⟨0x8105, 0, []⟩ e) = true :=
  by decide +kernel

end W40
/-! ## Quench -/

namespace W50

def ent (st : JState) (code : Nat) (q : Word) (k : Option Nat) (pl : List Byte) : JEntry := ⟨q, 5, st, k, ⟨q,0,BitVec.ofNat 12 code,true,false,1,4⟩, ⟨BitVec.ofNat 16 code, BitVec.ofNat 16 pl.length, q, 0,0,0,0,0,0,5,pl⟩, true, 0, none, none⟩
def withEs (s : State) (n : Nat) (l : List JEntry) : State := s.modSlice n (fun x => {x with journal := l, nextSeq := 20, slots := l.foldl (fun sl e => match e.slot with | some k => putAt sl k {Slot.empty with st := .pending, seq := e.seq} | none => sl) x.slots})
def ac (d : Nat) : Access := ⟨.port 0, 15, BitVec.ofNat 32 d⟩
def qd : State := {withEs (withEs devS 0 [ent .openIssued 0x500 5 (some 4) [], ent .openWait 0x501 6 (some 5) [], ent .openIssued 0x105 7 (some 6) [], ent .done 0x105 8 (some 7) []]) 1 [ent .openWait 0x501 6 (some 5) []] with cru := {Cluster.reset with jobs := [⟨0,5,[],0,0,none⟩]}, aud := {Audio.reset with streams := [⟨0,4,2,1,4096,0x1000,0x2000,0,0,some (1,77)⟩]}}
def nid : NetId := {mac := 5, vlan := 2, ipv4 := 77, udp := 4}
def de : State := (dev.modSlice 0 (fun x => {x with binding := .eth nid, nextSeq := 10})).setFlag R.NET_CFG 0 true
def qm : BilletMsg := ⟨0xF00, 0, 10, 0x77, 2,0,0,0,0,0,[]⟩
def hyp_quenchJob_1 (s : State) (n : Fin 16) (arg : Word) (a : Access) : Bool :=
  decide (s.safe = true) && decide (s.Quenches n.val a) && decide (s.journalWf n.val = true) &&
    decide (a.data.toNat / 256 % 256 = 0) && decide (
    let hit := fun (e : JEntry) => [0x0500, 0x0501].contains e.body.opcode.toNat && (arg == 0xFFFFFFFF || e.seq == arg)
    (s.slice n.val).journal.all (fun e => !e.isOpen || !hit e || (e.slot.isSome && e.applied.isNone)) = true)
def hyp_quenchDma_1 (s : State) (n : Fin 16) (arg : Word) (a : Access) : Bool :=
  decide (s.safe = true) && decide (s.Quenches n.val a) && decide (s.journalWf n.val = true) &&
    decide (a.data.toNat / 256 % 256 = 0) && decide (
    let hit := fun (e : JEntry) => isDma e.body && (arg == 0xFFFFFFFF || e.seq == arg)
    (s.slice n.val).journal.all (fun e => !e.isOpen || !hit e || (e.slot.isSome && e.applied.isNone)) = true)
def hyp_quenchAudio_1 (s : State) (n : Fin 16) (arg : Word) (a : Access) : Bool :=
  decide (s.safe = true) && decide (s.Quenches n.val a)
def hyp_quenchComposition_1 (s : State) (n : Fin 16) (arg : Word) (a : Access) : Bool :=
  decide (s.safe = true) && decide (s.Quenches n.val a)
def hyp_quenchSlice_1 (s : State) (n : Fin 16) (arg : Word) (a : Access) : Bool :=
  decide (s.safe = true) && decide (s.Quenches n.val a)
def hyp_quenchDevice_1 (s : State) (n : Fin 16) (arg : Word) (a : Access) : Bool :=
  decide (s.safe = true) && decide (s.Quenches n.val a)
def hyp_quench_1 (s : State) (d : UdpIn) (n : Fin 16) : Bool :=
  decide (s.safe = true) && decide (s.pair.role = .solo) && decide (s.netUp = true) && decide (s.knabyRuns = true) &&
    decide (s.net.billetQ = []) && decide (s.net.quenchQ = []) && decide (d.fragment = false) && decide (d.sum ≠ .bad) &&
    decide (32 ≤ d.payload.length) && decide (s.sliceOf d.src = some n.val) && decide (s.power.st = 0) &&
    decide (s.power.step = 0)
def hyp_quenchBusy (s : State) (n : Fin 16) (a : Access) : Bool :=
  decide (s.safe = true) && decide (s.reaches n.val a) && decide ((s.slice n.val).qstat.busy = true)
/-- States and operands that meet the hypotheses of every clause of `Obligations.QuenchScopes`. -/
theorem witness_QuenchScopes :
    ([0xFFFFFFFF, 6, 9].all (fun arg => hyp_quenchJob_1 qd 0 arg (ac 0x770001))) = true ∧
    ([0xFFFFFFFF, 7, 9].all (fun arg => hyp_quenchDma_1 qd 0 arg (ac 0x770001))) = true ∧
    ([(0xFFFFFFFF, 0), (0,2), (0,40)].all (fun (arg, t) => hyp_quenchAudio_1 qd 0 arg (ac (0x770000 + 256 * t)))) = true ∧
    ([(0xFFFFFFFF, 0), (0,2), (0,40)].all (fun (arg, t) => hyp_quenchAudio_1 qd 1 arg (ac (0x770000 + 256 * t)))) = true ∧
    ([(0, 2), (4,2), (0,1)].all (fun (arg, t) => hyp_quenchComposition_1 (qd.modOu 2 (fun o => {o with pass := .running})) 0 arg (ac (0x770000 + 256 * t)))) = true ∧
    ([(0, 2), (4,2), (0,1)].all (fun (arg, t) => hyp_quenchComposition_1 (qd.modOu 2 (fun o => {o with pass := .running})) 1 arg (ac (0x770000 + 256 * t)))) = true ∧
    ([(0, 0), (4,0), (0,9)].all (fun (arg, t) => hyp_quenchSlice_1 qd 0 arg (ac (0x770000 + 256 * t)))) = true ∧
    ([(0, 0), (4,0), (0,9)].all (fun (arg, t) => hyp_quenchSlice_1 qd 1 arg (ac (0x770000 + 256 * t)))) = true ∧
    ([(0, 0), (0, 1), (4,0)].all (fun (arg, t) => hyp_quenchDevice_1 (qd.modHap 2 (fun h => {h with st := .play, next := some ⟨1,2,none⟩})) 0 arg (ac (0x770000 + 256 * t)))) = true ∧
    (hyp_quenchDevice_1 qd 1 0 (ac 0)) = true ∧
    ([msgBytes qm, msgBytes {qm with check := billetCrc qm 0}, msgBytes qm ++ [0]].all (fun r => hyp_quench_1 de ⟨nid, false, .good, r⟩ 0)) = true ∧
    (hyp_quenchBusy (qd.modSlice 0 (fun x => {x with qstat := {x.qstat with busy := true}})) 0 (ac 1)) = true :=
  by decide +kernel

end W50
/-! ## Composition and Hardy -/

namespace W51

def ent (st : JState) (code : Nat) (q : Word) (k : Option Nat) (pl : List Byte) : JEntry := ⟨q, 5, st, k, ⟨q,0,BitVec.ofNat 12 code,true,false,1,4⟩, ⟨BitVec.ofNat 16 code, BitVec.ofNat 16 pl.length, q, 0,0,0,0,0,0,5,pl⟩, true, 0, none, none⟩
def withEs (s : State) (n : Nat) (l : List JEntry) : State := s.modSlice n (fun x => {x with journal := l, nextSeq := 20, slots := l.foldl (fun sl e => match e.slot with | some k => putAt sl k {Slot.empty with st := .pending, seq := e.seq} | none => sl) x.slots})
def cm (b : List (Nat × Word)) : PCommit := ⟨0, 5, [.layer 3 {LayerCfg.zero with planeAlpha := 9}], [1], b, 0, 2, false, [], []⟩
def dc (b : List (Nat × Word)) : State := {withEs devL 0 [ent .openIssued 0x202 5 (some 4) []] with disp := {devL.disp with commits := [cm b]}}
def dln (d : Word) (s : State) : State := s.modSlice 0 (fun x => {x with journal := x.journal.map (fun e => {e with body := {e.body with deadline := d}})})
def live (s : State) : State := ((s.modOu 1 (fun o => {o with enabled := true, gen := .run, set := some 0, linkCfg := true, pass := .complete})).storeLink 1 (pay [(1, 1), (1, 0), (1, 4), (1, 8), (2, 3), (2, 0), (2, 1), (2, 2), (2, 3), (2, 4)])).loadTiming 1 0 ⟨148500, 4, 88, 44, 148, 2, 4, 5, 36, 0⟩
def hl : State := (live dev).modHd 1 (fun d => {d with granules := [10,11,12,13], last := some 4, results := [(5, 3, 77)], regs := putAt (putAt d.regs 3 ⟨3, 2, 0,0,1,1⟩) 2 ⟨3, 2, 0,0,1,1⟩})
def ow (w : Nat) : State := {dev with disp := {dev.disp with owner := List.replicate 192 w}}
def hyp_commitBind_1 (s : State) (n : Fin 16) (q : Word) (c : PCommit) : Bool :=
  decide (s.safe = true) && decide (s.pair.role = .solo) && decide (s.boot.warmStep = 0) &&
    decide (s.disp.commits.find? (fun c => c.slice == n.val && c.seq == q) = some c) && decide (c.bound = []) &&
    decide (c.members ≠ []) && decide (c.members.all (fun m => !s.blocked c m) = true) &&
    decide (((s.slice n.val).entry q).all (fun e => !missesDeadline e.body.deadline (s.frameNo (c.members.headD 0) + 2)) = true)
def hyp_commitBind_2 (s : State) (n : Fin 16) (q : Word) (c : PCommit) : Bool :=
  decide (s.Owes n.val q) && decide (s.boot.warmStep = 0) &&
    decide (s.disp.commits.find? (fun c => c.slice == n.val && c.seq == q) = some c) && decide (c.slice = n.val) &&
    decide (c.seq = q) && decide (c.bound = []) && decide (c.members ≠ []) &&
    decide (c.members.all (fun m => !s.blocked c m) = true) &&
    decide (((s.slice n.val).entry q).any (fun e => missesDeadline e.body.deadline (s.frameNo (c.members.headD 0) + 2)) = true)
def hyp_cutOff_1 (s : State) (n : Fin 8) (e : BitVec 28) : Bool :=
  decide (s.safe = true) && decide (s.pair.role = .solo) && decide (n.val < s.nOut) && decide (s.scanning n.val = true) &&
    decide ((s.ou n.val).gen = .run) && decide ((n.val ≠ 0 ∨ s.limpBoot = false)) && decide (s.pair.give = [])
def hyp_cutOff_2 (s : State) (n : Fin 8) (e : BitVec 28) (k : Nat) (q : Word) : Bool :=
  decide (s.Owes 0 q) && decide (n.val < s.nOut) && decide (s.scanning n.val = true) && decide ((s.ou n.val).gen = .run) &&
    decide ((n.val ≠ 0 ∨ s.limpBoot = false)) && decide (s.pair.give = []) && decide (s.disp.commits = []) &&
    decide ((s.hd n.val).commit = none) && decide ((s.ou n.val).select = true) && decide ((s.ou n.val).next = some k) &&
    decide ((s.ou n.val).seq = some q) && decide ((n.val ≠ 0 ∨ s.disp.limp.seqs = []))
def hyp_cutOff_3 (s : State) (n : Fin 8) (e : BitVec 28) (c : PCommit) (k : Nat) (l : LayerCfg) : Bool :=
  decide (s.Owes c.slice c.seq) && decide (n.val < s.nOut) && decide (s.scanning n.val = true) &&
    decide ((s.ou n.val).gen = .run) && decide ((n.val ≠ 0 ∨ s.limpBoot = false)) && decide (s.pair.give = []) &&
    decide (s.boot.warmStep = 0) && decide (s.disp.commits = [c]) && decide (c.members = [n.val]) &&
    decide (c.bound = [(n.val, s.frameNo n.val + 1)]) && decide (c.items = [.layer k l]) && decide (k < 64) &&
    decide ((s.lay k).output = n.val) && decide ((s.hd n.val).commit = none) && decide ((s.ou n.val).select = false) &&
    decide ((n.val ≠ 0 ∨ s.disp.limp.seqs = [])) && decide (c.late = false)
def hyp_passComplete_1 (s : State) (n : Fin 8) (us : Nat) : Bool :=
  decide (s.safe = true) && decide ((s.ou n.val).pass = .running) && decide ((s.ou n.val).wbPass = none)
def hyp_passComplete_2 (s : State) (n : Fin 8) (us : Nat) (tile parity : BitVec 4) : Bool :=
  decide (s.safe = true) && decide ((s.ou n.val).pass = .running)
def hyp_scalerCopyDone_1 (s : State) (k : Fin 8) : Bool :=
  decide (s.safe = true) && decide ((s.scl k.val).busy = true) && decide (s.slices.all (fun x => x.sets.isEmpty) = true) &&
    decide (s.disp.commits = [])
def hyp_colourCopyDone_1 (s : State) (n : Fin 8) : Bool :=
  decide (s.safe = true) && decide ((s.ou n.val).colour.busy = true) && decide (s.slices.all (fun x => x.sets.isEmpty) = true) &&
    decide (s.disp.commits = [])
/-- States and operands that meet the hypotheses of every clause of `Obligations.CompositionRows`. -/
theorem witness_CompositionRows :
    (hyp_commitBind_1 (dc []) 0 5 (cm [])) = true ∧
    (hyp_commitBind_2 (dln 1 (dc [])) 0 5 (cm [])) = true ∧
    (hyp_cutOff_1 (live devL) 1 7) = true ∧
    ([PassSt.running, .idle, .abandoned 19].all (fun p => hyp_cutOff_1 ((live devL).modOu 1 (fun o => {o with pass := p})) 1 0xFFFFFF0)) = true ∧
    (hyp_cutOff_1 ((live devL).setReg (R.SCN_OUT_GL_CFG 1) 1) 1 0xFFFFFF0) = true ∧
    (hyp_cutOff_1 (((live devL).setReg (R.SCN_OUT_GL_CFG 1) 1).setFlag R.NET_PTP_STAT 0 true) 1 0xFFFFFF0) = true ∧
    (hyp_cutOff_2 ((withEs (live devL) 0 [ent .openIssued 0x301 5 (some 4) []]).modOu 1 (fun o => {o with select := true, next := some 1, seq := some 5})) 1 0 1 5) = true ∧
    (hyp_cutOff_3 (live (dc [(1, 1)])) 1 0 (cm [(1,1)]) 3 {LayerCfg.zero with planeAlpha := 9}) = true ∧
    (hyp_passComplete_1 ((live devL).modOu 1 (fun o => {o with pass := .running, gmap := [3,4]})) 1 70000) = true ∧
    (hyp_passComplete_2 ((live devL).modOu 1 (fun o => {o with pass := .running, gmap := [3,4]})) 1 70000 1 2) = true ∧
    (hyp_scalerCopyDone_1 (dev.modScl 2 (fun z => {z with busy := true})) 2) = true ∧
    (hyp_colourCopyDone_1 (dev.modOu 2 (fun o => {o with colour := {o.colour with busy := true}})) 2) = true :=
  by decide +kernel

def hyp_hardyResult_1 (s : State) (n : Fin 8) (r : Fin 256) (f crc : Word) : Bool :=
  decide (s.safe = true) && decide (s.scanning n.val = true) && decide (s.boot.hearthDown = false) &&
    decide ((n.val ≠ 0 ∨ r.val ≠ 16))
def hyp_hardyVerdict_1 (s : State) (n : Fin 8) (f : Word) (r : Nat) : Bool :=
  decide (s.safe = true) && decide (s.pair.role = .solo) && decide (s.boot.hearthDown = false) && decide (n.val ≠ 0) &&
    decide (s.scanning n.val = true) && decide ((s.hd n.val).susp = false) &&
    decide ((s.hd n.val).last.all (fun g => decide (0 < sdiff f g)) = true) && decide ((s.hd n.val).old = none) &&
    decide ((s.hd n.val).spoilt = []) && decide (s.slices.all (fun x => x.inHand == .none) = true) && decide (r < 16) &&
    decide (bit s.boot.checkerBad n.val = false)
def hyp_hardyExpectedDone_1 (s : State) (n : Fin 8) (b : Bool) (k : Nat) (q : Word) : Bool :=
  decide (s.safe = true) && decide (s.pair.role = .solo) && decide ((s.hd n.val).commit = some (k, q, .forming)) &&
    decide (((s.ou n.val).enabled = true ∨ s.scanning n.val = true))
def hyp_hardyExpectedDone_2 (s : State) (n : Fin 8) (b : Bool) (k : Nat) (q : Word) : Bool :=
  decide (s.Owes k q) && decide ((s.hd n.val).commit = some (k, q, .forming)) && decide ((s.ou n.val).enabled = false) &&
    decide (s.scanning n.val = false) &&
    decide (((s.slice k).entry q).all (fun e => !missesDeadline e.body.deadline (s.frameNo n.val)) = true)
def hyp_hardyCopybackDone_1 (s : State) (n : Fin 8) (k : Nat) (q : Word) : Bool :=
  decide (s.safe = true) && decide ((s.hd n.val).commit = some (k, q, .copying))
def hyp_xcheckTimeout_1 (s : State) (n : Fin 8) : Bool :=
  decide (s.safe = true) && decide (s.pair.role ≠ .solo)
def hyp_anvZeroFillDone_1 (s : State) (n : Fin 8) (q : Word) : Bool :=
  decide (s.safe = true) && decide (s.pair.role = .solo) && decide ((s.ou n.val).zeroSeq = some q) && decide (s.openAt 0 q) &&
    decide (((s.slice 0).entry q).all (·.slot.isNone) = true)
def hyp_bar2Write_1 (s : State) (p : Fin 2) (addr : BitVec 29) (bytes : List Byte) : Bool :=
  decide (s.safe = true) && decide (s.served = true) && decide ((s.sysMaster (.port p)).isSome = true) && decide (bytes ≠ []) &&
    decide (addr.toNat / granuleBytes / 64 < s.nDies)
/-- States and operands that meet the hypotheses of every clause of `Obligations.HardyRows`. -/
theorem witness_HardyRows :
    ([((7 : Fin 256),(5 : Word)), (7,4), (16,9)].all (fun (r, f) => hyp_hardyResult_1 hl 1 r f 99)) = true ∧
    ([2, 3, 4].all (fun r => hyp_hardyVerdict_1 hl 1 5 r)) = true ∧
    ([2, 3, 4].all (fun r => hyp_hardyVerdict_1 (hl.modHv 1 3 (fun v => {v with count := 1})) 1 5 r)) = true ∧
    (hyp_hardyExpectedDone_1 (hl.modHd 1 (fun d => {d with commit := some (0,5,.forming)})) 1 true 0 5) = true ∧
    (hyp_hardyExpectedDone_2 ((withEs dev 0 [ent .openIssued 0x403 5 (some 4) []]).modHd 1 (fun d => {d with commit := some (0,5,.forming), granules := [10,11,12,13]})) 1 true 0 5) = true ∧
    (hyp_hardyCopybackDone_1 (hl.modHd 1 (fun d => {d with commit := some (0,5,.copying)})) 1 0 5) = true ∧
    (hyp_xcheckTimeout_1 {hl with pair := {hl.pair with role := .active}} 1) = true ∧
    (hyp_anvZeroFillDone_1 ((withEs dev 0 [ent .openIssued 0x303 5 none []]).modOu 1 (fun o => {o with zeroSeq := some 5})) 1 5) = true ∧
    ([0xFF, 0x80, 3].all (fun w => hyp_bar2Write_1 (ow w) 0 0x100 [1,2,3])) = true :=
  by decide +kernel

end W51
/-! ## Outputs and links -/

namespace W52

def ent (st : JState) (code : Nat) (q : Word) (k : Option Nat) (pl : List Byte) : JEntry := ⟨q, 5, st, k, ⟨q,0,BitVec.ofNat 12 code,true,false,1,4⟩, ⟨BitVec.ofNat 16 code, BitVec.ofNat 16 pl.length, q, 0,0,0,0,0,0,5,pl⟩, true, 0, none, none⟩
def withEs (s : State) (n : Nat) (l : List JEntry) : State := s.modSlice n (fun x => {x with journal := l, nextSeq := 20, slots := l.foldl (fun sl e => match e.slot with | some k => putAt sl k {Slot.empty with st := .pending, seq := e.seq} | none => sl) x.slots})
def live (s : State) : State := ((s.modOu 1 (fun o => {o with enabled := true, gen := .run, set := some 0, linkCfg := true, pass := .complete})).storeLink 1 (pay [(1, 1), (1, 0), (1, 4), (1, 8), (2, 3), (2, 0), (2, 1), (2, 2), (2, 3), (2, 4)])).loadTiming 1 0 ⟨148500, 4, 88, 44, 148, 2, 4, 5, 36, 0⟩
def lv : State := (live (dev.setReg R.ANV_STAT 7)).modOu 1 (fun o => {o with gmap := [3,4]})
def ac (d : Nat) : Access := ⟨.port 0, 15, BitVec.ofNat 32 d⟩
def g1 (s : State) (g : GenSt) : State := s.modOu 1 (fun o => {o with gen := g})
def lk1 (s : State) (k : Nat) : State := s.setFld (R.SCN_OUT_LNK_STAT 1) 0 3 k
def hyp_switchSelect_1 (s : State) (n : Fin 8) : Bool :=
  decide (s.safe = true) && decide (s.pair.role ≠ .standby) && decide ((s.ou n.val).next.isSome = true) &&
    decide ((s.ou n.val).gen = .run) && decide (s.lineNo n.val + 4 ≤ ((s.scanTim n.val).map (·.vact)).getD 0)
def hyp_panelOnDelayEnd_1 (s : State) (n : Fin 8) : Bool :=
  decide (s.safe = true) && decide ((s.ou n.val).gen = .panelOn)
def hyp_pllLock_1 (s : State) (n : Fin 8) : Bool :=
  decide (s.safe = true) && decide (((s.ou n.val).gen = .pll ∨ (s.ou n.val).gen = .reprogPll)) &&
    decide ((n.val ≠ 0 ∨ s.limpBoot = false))
def hyp_linkStartDone_1 (s : State) (n : Fin 8) (bad : List (Nat × Nat)) (fast psr psr2 : Bool) (gran : Nat) (q : Word) : Bool :=
  decide (s.Owes 0 q) && decide ((s.ou n.val).gen = .link) && decide ((n.val ≠ 0 ∨ s.limpBoot = false)) &&
    decide ((s.ou n.val).seq = some q) && decide (s.pair.give = []) && decide (s.disp.commits = []) &&
    decide ((s.hd n.val).commit = none) && decide ((n.val ≠ 0 ∨ s.disp.limp.seqs = [])) &&
    decide ((s.ou n.val).select = false)
def hyp_backlightOnDelayEnd_1 (s : State) (n : Fin 8) : Bool :=
  decide (s.safe = true) && decide ((s.ou n.val).enabled = true) && decide ((s.ou n.val).gen = .run)
def hyp_backlightOffDelayEnd_1 (s : State) (n : Fin 8) : Bool :=
  decide (s.safe = true) && decide ((s.ou n.val).gen = .stopBl)
def hyp_panelOffDelayEnd_1 (s : State) (n : Fin 8) (q : Word) : Bool :=
  decide (s.Owes 0 q) && decide ((s.ou n.val).gen = .stopPanel) && decide ((s.ou n.val).seq = some q) &&
    decide ((n.val ≠ 0 ∨ s.disp.limp.trigger = none))
def hyp_blPwmPeriod_1 (s : State) (n : Fin 8) (us : Nat) (r : Ramp) : Bool :=
  decide (s.safe = true) && decide ((s.ou n.val).ramp = some r) && decide (r.start < 65536) && decide (r.target < 65536) &&
    decide (0 < r.ms)
def hyp_scanoutUnderrun_1 (s : State) (n : Fin 8) : Bool :=
  decide (s.safe = true) && decide (s.scanning n.val = true)
def hyp_scanoutReadError_1 (s : State) (n : Fin 8) (off : BitVec 26) : Bool :=
  decide (s.safe = true) && decide (s.scanning n.val = true)
def hyp_scanoutReadError_2 (s : State) (n : Fin 8) (off : BitVec 26) : Bool :=
  decide (s.safe = true) && decide (s.scanning n.val = true)
def hyp_anvScrubGranule_1 (s : State) (fixed : List (BitVec 21 × Bool)) : Bool :=
  decide (s.safe = true) && decide (s.flag R.ANV_SCRUB_CFG 31 = true) && decide (s.power.st ≤ 1) &&
    decide (s.dieOk (s.disp.scrubAt / 64) = true)
def hyp_anvDieFail_1 (s : State) (c : Fin 24) : Bool :=
  decide (s.safe = true) && decide (c.val / 8 < s.nDies) && decide (s.dieOk (c.val / 8) = true)
def hyp_anvHardyRelocated_1 (s : State) (n : Fin 8) : Bool :=
  decide (s.safe = true) && decide (n.val < s.nOut) && decide ((s.hd n.val).move = none) &&
    decide (s.onBadDie (s.hd n.val).granules ≠ []) && decide (s.scanning n.val = true)
/-- States and operands that meet the hypotheses of every clause of `Obligations.PanelAndAnvilRows`. -/
theorem witness_PanelAndAnvilRows :
    ([200, 400].all (fun t => hyp_switchSelect_1 (({lv with time := t}.loadTiming 1 0 ⟨148500, 4, 88, 44, 148, 200, 4, 5, 36, 0⟩).modOu 1 (fun o => {o with next := some 1})) 1)) = true ∧
    (hyp_panelOnDelayEnd_1 (g1 lv .panelOn) 1) = true ∧
    ([GenSt.pll, .reprogPll].all (fun g => hyp_pllLock_1 (g1 lv g) 1)) = true ∧
    ([[], [(4,8100)], (trainCandidates (lv.linkCfg 1) 0)].all (fun bad => hyp_linkStartDone_1 ((g1 (withEs lv 0 [ent .openIssued 0x302 5 (some 4) []]) .link).modOu 1 (fun o => {o with seq := some 5})) 1 bad true true false 4 5)) = true ∧
    (hyp_backlightOnDelayEnd_1 lv 1) = true ∧
    (hyp_backlightOffDelayEnd_1 (g1 lv .stopBl) 1) = true ∧
    (hyp_panelOffDelayEnd_1 ((g1 (withEs lv 0 [ent .openIssued 0x302 5 (some 4) []]) .stopPanel).modOu 1 (fun o => {o with seq := some 5})) 1 5) = true ∧
    ([Ramp.mk 100 60000 7, ⟨60000, 100, 7⟩, ⟨5,5,3⟩].all (fun r => [0].all (fun us => hyp_blPwmPeriod_1 (lv.modOu 1 (fun o => {o with ramp := some r})) 1 us r))) = true ∧
    (hyp_scanoutUnderrun_1 lv 1) = true ∧
    ([0, 13, 0x3ffffff].all (fun o => hyp_scanoutReadError_1 lv 1 o)) = true ∧
    ([0, 0x40, 0x48].all (fun o => hyp_scanoutReadError_2 (lv.modHd 1 (fun d => {d with granules := [10,11,12,13], regs := putAt d.regs 3 ⟨3, 2, 0,0,1,1⟩})) 1 o)) = true ∧
    ([5, 191].all (fun k => hyp_anvScrubGranule_1 ({lv with disp := {lv.disp with scrubAt := k}}.setFlag R.ANV_SCRUB_CFG 31 true) [(5,true),(8,false)])) = true ∧
    ([3, 12, 23].all (fun c => hyp_anvDieFail_1 lv c)) = true ∧
    ([3, 12, 23].all (fun c => hyp_anvDieFail_1 {lv with disp := {lv.disp with owner := List.replicate 100 0xFF ++ List.replicate 92 3}} c)) = true ∧
    (hyp_anvHardyRelocated_1 (({lv with disp := {lv.disp with owner := List.replicate 192 0xFF}}.modHd 1 (fun d => {d with granules := [10,11,12,13]})).setReg R.ANV_STAT 6) 1) = true ∧
    (hyp_anvHardyRelocated_1 (({lv with disp := {lv.disp with owner := List.replicate 192 0xFE}}.modHd 1 (fun d => {d with granules := [10,11,12,13]})).setReg R.ANV_STAT 6) 1) = true :=
  by decide +kernel

def hyp_hpdUnplug_1 (s : State) (n : Fin 8) : Bool :=
  decide (s.safe = true) && decide (n.val < s.nOut)
def hyp_hpdReplug_1 (s : State) (n : Fin 8) : Bool :=
  decide (s.safe = true) && decide (n.val < s.nOut)
def hyp_hpdIrq_1 (s : State) (n : Fin 8) (lost : Bool) : Bool :=
  decide (s.safe = true) && decide (n.val < s.nOut)
def hyp_linkRetry_1 (s : State) (n : Fin 8) : Bool :=
  decide (s.safe = true) && decide (s.lnk n.val = 3) && decide (s.scanning n.val = true) && decide (s.lnkOpt n.val 1 1 = 1)
def hyp_psrEntry_1 (s : State) (n : Fin 8) : Bool :=
  decide (s.safe = true) && decide (s.scanning n.val = true) && decide (s.lnk n.val = 2) && decide (s.psrOn n.val = true) &&
    decide (max 1 (s.lnkOpt n.val 8 4) ≤ (s.ou n.val).link.equal)
def hyp_psrRefresh_1 (s : State) (n : Fin 8) : Bool :=
  decide (s.safe = true) && decide ((s.lnk n.val = 4 ∨ (s.lnk n.val = 2 ∧ cfgLink (s.linkCfg n.val) = 3))) &&
    decide (s.lnkOpt n.val 16 8 ≠ 0) && decide (s.lnkOpt n.val 16 8 ≤ (s.ou n.val).link.since)
def hyp_teReport_1 (s : State) (n : Fin 8) : Bool :=
  decide (s.safe = true)
def hyp_teLost_1 (s : State) (n : Fin 8) : Bool :=
  decide (s.safe = true) && decide (cfgLink (s.linkCfg n.val) = 3) && decide (s.scanning n.val = true) &&
    decide ((s.ou n.val).link.noTe < 3)
def hyp_auxGo_1 (s : State) (n : Fin 8) (a : Access) : Bool :=
  decide (s.regReach a (R.SCN_OUT_AUX_CMD n.val)) && decide (s.fld (R.SCN_OUT_AUX_STAT n.val) 0 2 ≠ 1) &&
    decide (s.fld (R.SCN_OUT_AUX_STAT n.val) 0 2 ≠ 2)
def hyp_auxReply_1 (s : State) (n : Fin 8) (code : Fin 16) (data : List Byte) : Bool :=
  decide (s.safe = true) && decide ((s.fld (R.SCN_OUT_AUX_STAT n.val) 0 2 = 1 ∨ s.fld (R.SCN_OUT_AUX_STAT n.val) 0 2 = 2)) &&
    decide (data.length ≤ 16)
def hyp_auxTimeout_1 (s : State) (n : Fin 8) : Bool :=
  decide (s.safe = true) && decide ((s.fld (R.SCN_OUT_AUX_STAT n.val) 0 2 = 1 ∨ s.fld (R.SCN_OUT_AUX_STAT n.val) 0 2 = 2))
def hyp_dsiGo_1 (s : State) (n : Fin 4) (a : Access) : Bool :=
  decide (s.regReach a (R.SCN_OUT_DSI_HDR n.val)) && decide (s.fld (R.SCN_OUT_DSI_STAT n.val) 0 2 ≠ 1)
def hyp_dsiPacketSend_1 (s : State) (n : Fin 4) (fits ackErr : Bool) (resp : Option (Fin 64 × BitVec 16 × List Byte)) : Bool :=
  decide (s.safe = true) && decide (s.fld (R.SCN_OUT_DSI_STAT n.val) 0 2 = 1) && decide (s.scanning n.val = true) &&
    decide (s.drives n.val = true)
/-- States and operands that meet the hypotheses of every clause of `Obligations.LinkRows`. -/
theorem witness_LinkRows :
    ([0, 2, 4].all (fun k => hyp_hpdUnplug_1 (lk1 lv k) 1)) = true ∧
    ([0, 2, 4].all (fun k => hyp_hpdReplug_1 ((lk1 lv k).setFlag (R.SCN_OUT_LNK_OPT 1) 1 true) 1)) = true ∧
    ([0, 2, 4].all (fun k => (hyp_hpdIrq_1 (lk1 lv k) 1 true && hyp_hpdIrq_1 (lk1 lv k) 1 false))) = true ∧
    (hyp_linkRetry_1 ((lk1 lv 3).setFlag (R.SCN_OUT_LNK_OPT 1) 1 true) 1) = true ∧
    (hyp_psrEntry_1 (((lk1 lv 2).setReg (R.SCN_OUT_LNK_CFG 1) (1 + 2 ^ 28)).modOu 1 (fun o => {o with link := {o.link with psr := true, equal := 3}})) 1) = true ∧
    (hyp_psrRefresh_1 (((lk1 lv 4).setReg (R.SCN_OUT_LNK_OPT 1) (2 ^ 16)).modOu 1 (fun o => {o with link := {o.link with since := 3}})) 1) = true ∧
    (hyp_teReport_1 lv 1) = true ∧
    (hyp_teLost_1 (lv.setReg (R.SCN_OUT_LNK_CFG 1) 3) 1) = true ∧
    ([0x80001009, 0x04006008, 0x70000000].all (fun d => (hyp_auxGo_1 lv 1 (ac d) && hyp_auxGo_1 (lk1 lv 1) 1 (ac d) && hyp_auxGo_1 (lv.setReg R.ULX_HOLD 0) 1 (ac d)))) = true ∧
    ([((0 : Fin 16), [1,2,3,4,5]), (8,[1]), (0, List.replicate 16 7)].all (fun p => (hyp_auxReply_1 ((lv.setReg (R.SCN_OUT_AUX_STAT 1) 2).setReg (R.SCN_OUT_AUX_CMD 1) 0x3001009) 1 p.1 p.2 && hyp_auxReply_1 (((lv.setReg (R.SCN_OUT_AUX_STAT 1) 2).setReg (R.SCN_OUT_AUX_CMD 1) 0x3001008).modOu 1 (fun o => {o with link := {o.link with defers := 7}})) 1 p.1 p.2))) = true ∧
    (hyp_auxTimeout_1 (lv.setReg (R.SCN_OUT_AUX_STAT 1) 2) 1) = true ∧
    ([0x1234567, 0xFFFFFFFF].all (fun d => hyp_dsiGo_1 lv 1 (ac d))) = true ∧
    ([none, some (5, 3, [1,2,3,4,5,6])].all (fun r => [true].all (fun f => (hyp_dsiPacketSend_1 ((lv.setReg (R.SCN_OUT_DSI_STAT 1) 1).setFlag (R.SCN_OUT_DSI_HDR 1) 24 true) 1 f true r && hyp_dsiPacketSend_1 (((lv.setReg (R.SCN_OUT_DSI_STAT 1) 1).setFlag (R.SCN_OUT_DSI_HDR 1) 24 false).modOu 1 (fun o => {o with link := {o.link with dsiWait := 15}})) 1 f true r)))) = true :=
  by decide +kernel

end W52
/-! ## Raster jobs, dispatch and quanta -/

namespace W60

def ent (st : JState) (code : Nat) (q : Word) (k : Option Nat) (pl : List Byte) : JEntry := ⟨q, 5, st, k, ⟨q,0,BitVec.ofNat 12 code,true,false,1,4⟩, ⟨BitVec.ofNat 16 code, BitVec.ofNat 16 pl.length, q, 0,0,0,0,0,0,5,pl⟩, true, 0, none, none⟩
def withEs (s : State) (n : Nat) (l : List JEntry) : State := s.modSlice n (fun x => {x with journal := l, nextSeq := 20, slots := l.foldl (fun sl e => match e.slot with | some k => putAt sl k {Slot.empty with st := .pending, seq := e.seq} | none => sl) x.slots})
def hdrw (kind regs : Nat) : Nat := (insI 0 1 0 0 (regs + 256 * kind)).enc
def cbytes (c : List Byte) : List Byte := List.replicate 16 0 ++ c ++ List.replicate (48 - c.length) 0 ++ leBytes 8 (hdrw 1 24) ++ leBytes 8 (hdrw 2 24) ++ leBytes 8 (hdrw 0 24) ++ [0,0,1,0,2,0,200,0]
def rpl : List Byte := leBytes 2 1 ++ leBytes 2 0 ++ leBytes 4 16 ++ leBytes 4 32 ++ leBytes 2 7 ++ leBytes 2 0 ++ leBytes 4 0 ++ leBytes 2 8 ++ List.replicate 10 0
def colf (f : Nat) : Surface := ⟨7, f, 40, 20, 160, none, Mem.cells none 0 (List.replicate 3200 5)⟩
def dps : Surface := ⟨8, 0x10, 40, 20, 160, none, Mem.cells none 0 (List.replicate 3200 5)⟩
def rst : RasterSt := {RasterSt.start rpl 40 20 with vCount := 9}
def rj (r : RasterSt) : CruJob := ⟨0, 5, rpl, 0, 3, some r⟩
def rs (c : List Byte) (r : RasterSt := rst) (f : Nat := 6) (n : Nat := 8192) : State :=
  let s := withEs (dev.modSlice 0 (fun x => {x with surfaces := [⟨1, 0, n, 1, n, none, Mem.cells none 0 (cbytes c)⟩, colf f, dps]})) 0 [ent .openIssued 0x500 5 (some 4) rpl]
  {s with cru := {Cluster.reset with jobs := [rj r]}}
def cmd (l : List (Nat × Nat)) : List Byte := let b := pay l; b ++ List.replicate (16 - b.length) 0
def shd : Shaders := ⟨2, 0, 64, 72, 256⟩
def rsh : RasterSt := {rst with sh := some shd}
def lim (k : Nat) : CruJob := {rj rst with pl := (rpl.take 0x1C) ++ leBytes 4 k}
def wd : State := let s := withEs (cru 0) 0 [ent .openIssued 0x501 1 (some 4) pl]; (s.modSlice 0 (fun x => {x with surfaces := [surf 1 64 (List.replicate 8 0 ++ leBytes 8 (hdrw 0 24)), surf 2 512 [], tex 3]}))
def jb : CruJob := ⟨0, 1, (pl.take 8) ++ leBytes 2 3 ++ pl.drop 10, 1, 0, none⟩
def wdj (j : CruJob) : State := {wd with cru := {wd.cru with jobs := [j]}}
def dr : Draw := ⟨0, 0, 3, 20, 0, 16, [], 0, [], []⟩
def rd : RasterSt := {rsh with draw := some dr}
def fr (x y : Nat) : Frag := ⟨x, y, true, 5, [1,2]⟩
def hyp_rasCmdNop_1 (s : State) (j : CruJob) (r : RasterSt) (c : List Byte) : Bool :=
  decide (s.rasAt j r c (u8 c 0)) && decide (0x0B < u8 c 0)
def hyp_rasCmdNop_2 (s : State) (j : CruJob) (r : RasterSt) : Bool :=
  decide (s.safe = true) && decide (s.rasterJob = some (j, r)) && decide (r.draw = none) &&
    decide (u32 j.pl 4 + u32 j.pl 8 ≤ r.pos)
def hyp_rasRow (k : Nat) (s : State) (j : CruJob) (r : RasterSt) (c : List Byte) : Bool :=
  decide ((rasRows.drop k).head?.any (fun x => decide (s.rasAt j r c x.op)) = true)
/-- States and operands that meet the hypotheses of every clause of `Obligations.RasterStateCommands`. -/
theorem witness_RasterStateCommands :
    (hyp_rasCmdNop_1 (rs (cmd [(1,0x0C)])) (rj rst) rst (cmd [(1,0x0C)])) = true ∧
    (let r := {rst with pos := 48}; hyp_rasCmdNop_2 (rs [] r) (rj r) r) = true ∧
    (let c := cmd [(1,0)]; hyp_rasRow 0 (rs c) (rj rst) rst c) = true ∧
    (let c := cmd [(4,2),(2,1),(2,1),(2,5),(2,6)]; hyp_rasRow 1 (rs c) (rj rst) rst c) = true ∧
    (let c := cmd [(4,3),(2,1),(2,1),(2,5),(2,6)]; hyp_rasRow 2 (rs c) (rj rst) rst c) = true ∧
    (let c := cmd [(1,4),(1,2),(1,1),(1,1)]; hyp_rasRow 3 (rs c) (rj rst) rst c) = true ∧
    (let c := cmd [(1,5),(1,3),(1,1),(1,1)]; hyp_rasRow 4 (rs c) (rj rst) rst c) = true ∧
    (let c := cmd [(1,6),(1,1),(1,2),(1,3),(1,4),(1,5),(1,6),(1,7),(1,1)]; hyp_rasRow 5 (rs c) (rj rst) rst c) = true ∧
    (let c := cmd [(1,7),(1,0),(1,3),(1,5)]; hyp_rasRow 6 (rs c) (rj rst) rst c) = true ∧
    (let c := cmd [(1,8),(1,2),(1,3),(1,0),(4,64),(4,72),(4,256)]; hyp_rasRow 7 (rs c) (rj rst) rst c) = true ∧
    (let c := cmd [(4,9),(4,3),(4,4),(4,5)]; hyp_rasRow 8 (rs c) (rj rst) rst c) = true :=
  by decide +kernel

def hyp_rasDraw_1 (s : State) (j : CruJob) (r : RasterSt) (c : List Byte) (h : Shaders) : Bool :=
  decide (s.rasAt j r c 0x0A) && decide (u8 c 3 = 0) && decide (u8 c 1 ≤ 2) && decide (u8 c 2 ≤ 2) && decide (r.sh = some h) &&
    decide ((u8 c 2 = 0 → u32 c 4 + u32 c 8 ≤ r.vCount)) &&
    decide ((u8 c 2 ≠ 0 → u32 c 0xC + 2 * u8 c 2 * u32 c 8 ≤ s.cmdSize j ∧ (s.jobSurf j 0).any (fun u => (List.range (u32 c 8)).all (fun i => decide (leNat (u.read (u32 c 0xC + 2 * u8 c 2 * i) (2 * u8 c 2)) < r.vCount))) = true)) &&
    decide (r.prims + (if u8 c 1 = 0 then u32 c 8 / 3 else u32 c 8 - 2) < 2 ^ 32)
def hyp_rasDraw_2 (s : State) (j : CruJob) (r : RasterSt) (c : List Byte) : Bool :=
  decide (s.rasAt j r c 0x0A) && decide (u8 c 3 = 0) && decide (u8 c 1 ≤ 2) && decide (u8 c 2 = 0)
def hyp_rasClear_1 (s : State) (j : CruJob) (r : RasterSt) (c : List Byte) (u : Surface) : Bool :=
  decide (s.rasAt j r c 0x0B) && decide (u8 c 2 = 0) && decide (u8 c 3 = 0) && decide (u8 c 1 < 4) &&
    decide (r.targets.length = 5) && decide (s.surf j.slice (r.tgt (u8 c 1)).handle = some u) &&
    decide ((r.tgt (u8 c 1)).handle ≠ 0) && decide (s.job j.slice j.seq = some j) && decide (j.ras = some r) &&
    decide (u16 c 4 = 0) && decide (u16 c 6 = 0) && decide (u.width ≤ u16 c 8) && decide (u.height ≤ u16 c 0xA) &&
    decide (u.width ≤ 8192) && decide (u.height ≤ 8192) && decide (0 < u.width) && decide (0 < u.height) &&
    decide ((r.tgt (u8 c 1)).flags = [])
def hyp_rasClear_2 (s : State) (j : CruJob) (r : RasterSt) (c : List Byte) : Bool :=
  decide (s.rasAt j r c 0x0B) && decide (u8 c 2 = 0) && decide (u8 c 3 = 0)
def hyp_rasEnd_1 (s : State) (j : CruJob) (r : RasterSt) (c : List Byte) : Bool :=
  decide (s.rasAt j r c 1) && decide (s.Owes j.slice j.seq) && decide ((List.range 15).all (fun k => u8 c (k + 1) == 0) = true)
/-- States and operands that meet the hypotheses of every clause of `Obligations.RasterDrawClearEnd`. -/
theorem witness_RasterDrawClearEnd :
    ([cmd [(1,10),(1,0),(1,0),(1,0),(4,2),(4,6)], cmd [(1,10),(1,1),(1,0),(1,0),(4,2),(4,2)], cmd [(1,10),(1,2),(1,1),(1,0),(4,2),(4,3),(4,88)]].all (fun c => hyp_rasDraw_1 (rs c rsh) (rj rsh) rsh c shd)) = true ∧
    (let c := cmd [(1,10),(1,0),(1,0),(1,0),(4,2),(4,6)]; [rst, {rsh with vCount := 3}, {rsh with prims := 2^32-2}].all (fun r => hyp_rasDraw_2 (rs c r) (rj r) r c)) = true ∧
    (let c := cmd [(1,11),(1,0),(1,0),(1,0),(2,0),(2,0),(2,40),(2,50),(4,77)]; [rst, rst.modTgt 0 (fun g => {g with touched := [0,1], cache := [(3,4)]})].all (fun r => hyp_rasClear_1 (rs c r) (rj r) r c (colf 6))) = true ∧
    ([cmd [(1,11),(1,0),(1,0),(1,0),(2,0),(2,0),(2,40),(2,50),(4,77)], cmd [(1,11),(1,5),(1,0),(1,0),(2,0),(2,0),(2,40),(2,50),(4,77)], cmd [(1,11),(1,1),(1,0),(1,0),(2,0),(2,0),(2,40),(2,50),(4,77)]].all (fun c => hyp_rasClear_2 (rs c) (rj rst) rst c)) = true ∧
    (let c := cmd [(1,1)]; let r := rst.modTgt 0 (fun g => {g with touched := [0], flags := [1], value := 9, cache := [(3,4)]}); hyp_rasEnd_1 (rs c r) (rj r) r c) = true :=
  by decide +kernel

def hyp_quantumBoundary_1 (s : State) : Bool :=
  decide (s.safe = true) && decide (s.cruRuns = true) && decide (s.cru.turn < s.nSlices) &&
    decide (s.cru.jobs.all (fun j => j.slice != s.cru.turn || u32 j.pl (if j.ras.isSome then 0x1C else 0x14) == 0 || decide (j.quanta + 1 < u32 j.pl (if j.ras.isSome then 0x1C else 0x14))) = true)
def hyp_quantumBoundary_2 (s : State) (j : CruJob) : Bool :=
  decide (s.cruRuns = true) && decide (s.Owes j.slice j.seq) && decide (s.cru.turn = j.slice) && decide (s.cru.jobs = [j]) &&
    decide (u32 j.pl (if j.ras.isSome then 0x1C else 0x14) ≠ 0) &&
    decide (u32 j.pl (if j.ras.isSome then 0x1C else 0x14) ≤ j.quanta + 1)
def hyp_quantumBoundary_3 (s : State) (bad : BitVec 48) : Bool :=
  decide (s.safe = true) && decide (s.cruRuns = true) && decide (s.cru.jobs = []) && decide (s.cru.turn < s.nSlices)
def hyp_issueStall_1 (s : State) (c : Fin 48) (b : Bundle) (j : CruJob) : Bool :=
  decide (s.safe = true) && decide (s.pick c.val = some b) && decide (c.val < s.nCores) &&
    decide (s.cru.failed.getLsbD c.val = false) && decide (s.cru.jobs = [j]) && decide (j.slice = b.slice) &&
    decide (j.seq = b.seq) && decide (j.ras = none) && decide (b ∈ s.cru.bundles) && decide (b.core = c.val)
def hyp_workgroupDispatch_1 (s : State) (j : CruJob) (regs c o : Nat) : Bool :=
  decide (s.safe = true) && decide (s.cruRuns = true) && decide (s.shadingWaits = false) && decide (s.waitingJob = some j) &&
    decide (s.job j.slice j.seq = some j) && decide (s.cru.old = []) && decide (s.header j (u32 j.pl 4) 0 8 = some regs) &&
    decide (c < s.nCores) && decide (s.cru.failed.getLsbD c = false) &&
    decide ((∀ d : Nat, d < s.nCores → s.cru.failed.getLsbD d = false → (s.bundlesFit j.slice d (ceilDiv (u16 j.pl 0xE) 16) regs = true ∧ (s.scratchUsed j.slice d).length < 64 ∧ (s.scratchFit (s.scratchUsed j.slice d) (u16 j.pl 0x10)).isSome = true) → c ≤ d)) &&
    decide (s.bundlesFit j.slice c (ceilDiv (u16 j.pl 0xE) 16) regs = true) && decide ((s.scratchUsed j.slice c).length < 64) &&
    decide (s.scratchFit (s.scratchUsed j.slice c) (u16 j.pl 0x10) = some o)
def hyp_workgroupDispatch_2 (s : State) (j : CruJob) : Bool :=
  decide (s.cruRuns = true) && decide (s.shadingWaits = false) && decide (s.waitingJob = some j) &&
    decide (s.Owes j.slice j.seq)
def hyp_shadingDispatch_1 (s : State) (j : CruJob) (r : RasterSt) (h : Shaders) (d : Draw) (regs c : Nat) : Bool :=
  decide (s.safe = true) && decide (s.rasterJob = some (j, r)) && decide (r.sh = some h) && decide (r.draw = some d) &&
    decide (d.quads = []) && decide (d.next < d.count) && decide (s.header j h.vs 1 (4 + h.vary) = some regs) &&
    decide (16 * regs + 16 * (s.header j h.fs 2 (max (4 + h.vary) (if h.flags.testBit 0 then 17 else 16))).getD 0 ≤ 32768 / s.nSlices) &&
    decide (s.healthyCores.find? (fun c => s.bundlesFit j.slice c 1 regs) = some c)
def hyp_shadingDispatch_2 (s : State) (j : CruJob) (r : RasterSt) (h : Shaders) (d : Draw) (q : List Frag) (qs : List (List Frag)) (f : Frag) (regs c : Nat) : Bool :=
  decide (s.safe = true) && decide (s.rasterJob = some (j, r)) && decide (r.sh = some h) && decide (r.draw = some d) &&
    decide (d.quads = q :: qs) && decide (q.head? = some f) && decide (q.length ≤ 16) &&
    decide (s.header j h.fs 2 (max (4 + h.vary) (if h.flags.testBit 0 then 17 else 16)) = some regs) &&
    decide ((let half := s.healthyCores.filter (fun c => c % 2 == (f.x / 16 + f.y / 16) % 2); (if half = [] then s.healthyCores else half).find? (fun c => s.bundlesFit j.slice c 1 regs) = some c))
/-- States and operands that meet the hypotheses of every clause of `Obligations.DispatchAndQuanta`. -/
theorem witness_DispatchAndQuanta :
    (hyp_quantumBoundary_1 (rs [])) = true ∧
    (hyp_quantumBoundary_1 {cru 0 with boot := {(cru 0).boot with log2n := 2}}) = true ∧
    (hyp_quantumBoundary_2 {rs [] with cru := {(rs []).cru with jobs := [lim 4]}} (lim 4)) = true ∧
    (hyp_quantumBoundary_3 {rs [] with cru := {(rs []).cru with jobs := [], failed := 2}} 0x800000000007) = true ∧
    (hyp_issueStall_1 (cru (insR 2 1 0 0 0 0).enc) 2 me ⟨0, 1, pl, 1, 0, none⟩) = true ∧
    (hyp_workgroupDispatch_1 (wdj jb) jb 24 0 0) = true ∧
    (let j := {jb with pl := (jb.pl.take 0xE) ++ leBytes 2 37 ++ jb.pl.drop 0x10, next := 2}; let s := wdj j; let s := {s with cru := {s.cru with failed := 1, wgs := s.cru.wgs.map (fun g => {g with core := 1})}}; hyp_workgroupDispatch_1 s j 24 1 1) = true ∧
    (let j := {jb with pl := jb.pl.take 4 ++ leBytes 4 16 ++ jb.pl.drop 8}; hyp_workgroupDispatch_2 (wdj j) j) = true ∧
    (let j := {jb with pl := jb.pl.take 0xE ++ leBytes 2 1024 ++ jb.pl.drop 0x10}; let s := wdj j; hyp_workgroupDispatch_2 {s with boot := {s.boot with log2n := 4}} j) = true ∧
    (hyp_shadingDispatch_1 (rs [] rd) (rj rd) rd shd dr 24 0) = true ∧
    (let d := {dr with next := 0}; let r := {rd with draw := some d}; hyp_shadingDispatch_1 (rs [] r) (rj r) r shd d 24 0) = true ∧
    (let d := {dr with index := 1, ioff := 88, count := 3, next := 0}; let r := {rd with draw := some d}; hyp_shadingDispatch_1 (rs [] r) (rj r) r shd d 24 0) = true ∧
    (let q := [fr 16 0, fr 17 0, fr 16 1, fr 17 1]; let d := {dr with quads := [q, []]}; let r := {rd with draw := some d}; hyp_shadingDispatch_2 (rs [] r) (rj r) r shd d q [[]] (fr 16 0) 24 1) = true :=
  by decide +kernel

end W60
/-! ## DRAM -/

namespace W61

def ac (d : Nat) : Access := ⟨.port 0, 15, BitVec.ofNat 32 d⟩
def acm (m : Fin 32) (d : Nat) : Access := ⟨.master m, 15, BitVec.ofNat 32 d⟩
def dd : State := {(devS.setReg R.DRC_STAT 0x18) with dram := {devS.dram with credits := (List.range 21).map (· + 1)}}
def rq (port : Fin 21) (m : Fin 32) (t : DramTarget) (wr := false) (ch : Fin 4 := 0) (bank : Fin 32 := 3) (row := 7) (at_ := 100) : DramReq := ⟨port, m, ch, bank, row, wr, t, at_⟩
def wt : State := {(dd.setReg R.DRC_LAT 0x141428).setFld R.DRC_CFG 0 13 6400 with dram := {dd.dram with rows := [(0,5,8)], waiting := [rq 20 15 (.surface 0 5) (at_ := 1), rq 4 0 (.surface 0 5) (at_ := 3), rq 3 1 .objects (bank := 5) (row := 8) (at_ := 50), rq 1 1 .objects (at_ := 2)]}}
def rt : State := dd.setReg R.DRC_RT_CFG 0x1050000
def mt (p : TestPos) : State := {dd.setReg R.HRT_MT_CFG 0x707D0 with memtest := [p,p,p]}
def hyp_dramRequest_1 (s : State) (q : DramReq) (now : Nat) : Bool :=
  decide (s.safe = true) && decide (q.chan.val < s.nDrc) && decide (s.fwPasses q = false)
def hyp_dramRequest_2 (s : State) (q : DramReq) (now : Nat) : Bool :=
  decide (s.safe = true) && decide (q.chan.val < s.nDrc) && decide (s.fwPasses q = true) && decide (s.drcAwake) &&
    decide (3 ≤ q.port.val) && decide (s.dram.waiting.all (fun w => w.chan != q.chan) = true)
def hyp_dramRequest_3 (s : State) (q : DramReq) (now : Nat) : Bool :=
  decide (s.safe = true) && decide (q.chan.val < s.nDrc) && decide (s.fwPasses q = true) && decide (s.drcAwake) &&
    decide ((s.dram.waiting ++ [q]).any (fun w => w.chan == q.chan && w.port.val != 20 && decide (0 < s.dram.credits.getD w.port.val 0)) = true)
def hyp_dramRequest_4 (s : State) (q : DramReq) (now : Nat) : Bool :=
  decide (s.safe = true) && decide (q.chan.val < s.nDrc) && decide (s.fwPasses q = true) && decide (s.flag R.DRC_STAT 1 = false) &&
    decide (s.flag R.DRC_STAT 2 = true)
def hyp_dramRequest_5 (s : State) (q : DramReq) (now : Nat) : Bool :=
  decide (s.safe = true) && decide (q.chan.val < s.nDrc) && decide (s.fwPasses q = true) && decide (s.flag R.DRC_STAT 1 = true) &&
    decide (s.flag R.DRC_STAT 2 = false)
def hyp_accountingWindow_1 (s : State) : Bool :=
  decide (s.safe = true) && decide (s.flag R.DRC_CFG 14 = false)
def hyp_srIdleExpire_1 (s : State) (done : Bool) : Bool :=
  decide (s.safe = true) && decide (s.drcAwake) && decide (s.flag R.DRC_SR_CFG 16 = true) && decide (s.dram.waiting = [])
def hyp_srExit_1 (s : State) : Bool :=
  decide (s.safe = true) && decide (s.flag R.DRC_STAT 1 = true) && decide (s.dram.waiting = []) && decide (s.dram.deferred = [])
def hyp_mr4Poll_1 (s : State) (ch rate : Fin 4) (c : Nat) : Bool :=
  decide (s.safe = true) && decide (ch.val < s.nDrc) && decide (s.dram.mr4.length = 4) && decide (s.dram.temp.length = 4)
def hyp_refreshDue_1 (s : State) (ch : Fin 4) (bank : Fin 32) (now : Nat) : Bool :=
  decide (s.safe = true) && decide (ch.val < s.nDrc)
def hyp_drcRetrain_1 (s : State) (ch : Fin 4) (ps : Nat) (neg : Bool) : Bool :=
  decide (s.safe = true) && decide (ch.val < s.nDrc) && decide (s.flag R.DRC_RT_CFG 24 = true) &&
    decide (ch.val < s.dram.drift.length)
def hyp_dramScrubRead_1 (s : State) (ch : Fin 4) (r : EccResult) (addr : DWord) : Bool :=
  decide (s.safe = true) && decide (ch.val < s.nDrc) && decide (s.flag R.DRC_CFG 14 = true)
def hyp_drcPhaseWrite_1 (s : State) (a : Access) (m : Nat) : Bool :=
  decide (s.regReach a R.DRC_CTRL) && decide (s.sysMaster a.req = some m) && decide (a.data.toNat < 16)
/-- States and operands that meet the hypotheses of every clause of `Obligations.DramRows`. -/
theorem witness_DramRows :
    ([rq 4 20 .training, rq 4 0 (.surface 0 9), rq 4 0 .unassigned].all (fun q => hyp_dramRequest_1 dd q 100)) = true ∧
    ([rq 3 1 .objects true, rq 20 15 (.surface 0 5)].all (fun q => hyp_dramRequest_2 dd q 100)) = true ∧
    ([rq 4 3 .flags].all (fun q => hyp_dramRequest_2 {dd with dram := {dd.dram with credits := List.replicate 21 0}} q 100)) = true ∧
    ([0, 3000].all (fun now => hyp_dramRequest_3 wt (rq 4 3 .flags) now)) = true ∧
    (hyp_dramRequest_4 (dd.setFlag R.DRC_STAT 2 true) (rq 4 3 .flags) 3) = true ∧
    (hyp_dramRequest_5 (dd.setFlag R.DRC_STAT 1 true) (rq 4 3 .flags) 3) = true ∧
    (hyp_accountingWindow_1 ((((dd.setReg R.DRC_CFG (0x10000+6400)).setReg R.DRC_RSV0 0x200050).setReg R.DRC_RSV1 0x80008))) = true ∧
    ([true, false].all (fun b => hyp_srIdleExpire_1 (dd.setReg R.DRC_SR_CFG 0x10032) b)) = true ∧
    (hyp_srExit_1 (dd.setFlag R.DRC_STAT 1 true)) = true ∧
    ([(0 : Fin 4), 2, 3].all (fun r => hyp_mr4Poll_1 dd 1 r 44)) = true ∧
    ([0, 7, 8].all (fun n => (hyp_refreshDue_1 {dd with dram := dd.dram.setPostponed 1 3 n} 1 3 50 && hyp_refreshDue_1 {wt with dram := {wt.dram with waiting := [rq 0 1 .objects (ch := 1)], postponed := [(1,3,n)], rows := [(1,3,3)]}} 1 3 5000))) = true ∧
    ([rt, rt.setFlag R.DRC_STAT 1 true].all (fun s => (hyp_drcRetrain_1 s 1 9 true && hyp_drcRetrain_1 s 1 9 false && hyp_drcRetrain_1 s 1 5 true))) = true ∧
    ([EccResult.clean, .checkBit, .uncorrectable].all (fun r => hyp_dramScrubRead_1 (dd.setFlag R.DRC_CFG 14 true) 1 r 0x1234567890)) = true ∧
    ([0, 3, 5].all (fun c => hyp_drcPhaseWrite_1 (dd.setFld R.DRC_STAT 3 3 c) (acm 1 (1 + 2*c)) 1)) = true ∧
    (hyp_drcPhaseWrite_1 dd (ac 9) 16) = true :=
  by decide +kernel

def hyp_temperOpDone_1 (s : State) (fails : Half) (bits : Word) : Bool :=
  decide (s.safe = true) && decide (s.flag R.DRC_T_STAT 0 = true)
def hyp_memtestWindow_1 (s : State) (mem : Fin 3) (core : Fin 48) (bank : Fin 8) : Bool :=
  decide (s.safe = true) && decide (s.flag R.HRT_MT_CFG (16 + mem.val) = true) && decide ((mem.val ≠ 1 ∨ core.val < s.nCores)) &&
    decide (s.memtest.length = 3)
def hyp_memtestWindow_2 (s : State) (mem : Fin 3) (core : Fin 48) (bank : Fin 8) : Bool :=
  decide (s.safe = true) && decide (s.flag R.HRT_MT_CFG (16 + mem.val) = true) && decide ((mem.val ≠ 1 ∨ core.val < s.nCores)) &&
    decide (s.memtest.length = 3)
def hyp_memtestWindow_3 (s : State) (mem : Fin 3) (core : Fin 48) (bank : Fin 8) : Bool :=
  decide (s.safe = true) && decide (s.flag R.HRT_MT_CFG (16 + mem.val) = true) && decide ((mem.val ≠ 1 ∨ core.val < s.nCores)) &&
    decide (s.memtest.length = 3)
def hyp_memtestWindow_4 (s : State) (mem : Fin 3) (core : Fin 48) (bank : Fin 8) : Bool :=
  decide (s.safe = true) && decide (s.flag R.HRT_MT_CFG (16 + mem.val) = true) && decide ((mem.val ≠ 1 ∨ core.val < s.nCores)) &&
    decide (s.memtest.length = 3)
def hyp_memtestBorrowTimeout_1 (s : State) (mem : Fin 3) : Bool :=
  decide (s.safe = true) && decide (s.memtest.length = 3) && decide ((s.testPos mem.val).borrowed = true) &&
    decide ((s.testPos mem.val).preempts < 15)
def hyp_jtagRawAccess_1 (s : State) (w : Fin 32768) (wr : Bool) (p : PortA) : Bool :=
  decide (s.safe = true)
def hyp_temperIdle_1 (s : State) (a : Access) : Bool :=
  decide (s.regReach a R.DRC_T_CTRL) && decide (s.flag R.DRC_T_STAT 0 = false)
def hyp_temperWrite_1 (s : State) (a : Access) : Bool :=
  decide (s.regReach a R.DRC_T_CTRL) && decide (s.flag R.DRC_T_STAT 0 = false)
def hyp_temperReadCmp_1 (s : State) (a : Access) : Bool :=
  decide (s.regReach a R.DRC_T_CTRL) && decide (s.flag R.DRC_T_STAT 0 = false)
def hyp_temperMpcRd_1 (s : State) (a : Access) : Bool :=
  decide (s.regReach a R.DRC_T_CTRL) && decide (s.flag R.DRC_T_STAT 0 = false)
def hyp_temperCbt_1 (s : State) (a : Access) : Bool :=
  decide (s.regReach a R.DRC_T_CTRL) && decide (s.flag R.DRC_T_STAT 0 = false)
def hyp_temperLevel_1 (s : State) (a : Access) : Bool :=
  decide (s.regReach a R.DRC_T_CTRL) && decide (s.flag R.DRC_T_STAT 0 = false)
/-- States and operands that meet the hypotheses of every clause of `Obligations.TemperAndMemoryTestRows`. -/
theorem witness_TemperAndMemoryTestRows :
    ([dd.setFld R.DRC_STAT 3 3 1, dd.setReg R.DRC_T_STAT 2].all (fun s => [0x80000140].all (fun d => (hyp_temperIdle_1 s (ac d) && hyp_temperWrite_1 s (ac d) && hyp_temperReadCmp_1 s (ac d) && hyp_temperMpcRd_1 s (ac d) && hyp_temperCbt_1 s (ac d) && hyp_temperLevel_1 s (ac d))))) = true ∧
    ([2, 5].all (fun k => hyp_temperOpDone_1 (((dd.setReg R.DRC_T_STAT 1).setReg R.DRC_T_CTRL k).setReg R.DRC_T_FAIL 0x888) 7 0x1233)) = true ∧
    ([⟨0,5,true,3⟩, ⟨7,31,true,15⟩, ⟨7,255,true,14⟩].all (fun p => [(0:Fin 3)].all (fun m => (hyp_memtestWindow_1 (mt p) m 3 2 && hyp_memtestWindow_2 (mt p) m 3 2 && hyp_memtestWindow_3 (mt p) m 3 2 && hyp_memtestWindow_4 (mt p) m 3 2)))) = true ∧
    (hyp_memtestBorrowTimeout_1 (mt ⟨0,5,true,3⟩) 1) = true ∧
    ([PortA.idle, .read, .write].all (fun p => hyp_jtagRawAccess_1 dd 55 true p)) = true :=
  by decide +kernel

end W61
/-! ## Touch and haptics -/

namespace W62

def ent (st : JState) (code : Nat) (q : Word) (k : Option Nat) (pl : List Byte) : JEntry := ⟨q, 5, st, k, ⟨q,0,BitVec.ofNat 12 code,true,false,1,4⟩, ⟨BitVec.ofNat 16 code, BitVec.ofNat 16 pl.length, q, 0,0,0,0,0,0,5,pl⟩, true, 0, none, none⟩
def withEs (s : State) (n : Nat) (l : List JEntry) : State := s.modSlice n (fun x => {x with journal := l, nextSeq := 20, slots := l.foldl (fun sl e => match e.slot with | some k => putAt sl k {Slot.empty with st := .pending, seq := e.seq} | none => sl) x.slots})
def elr (role base raw : Nat) : TouchEl := {TouchEl.reset with role := role, base := base, raw := raw, delta := (raw : Int) - base}
def tgp : TouchGroup := {TouchGroup.reset with configured := true, slice := 1, th := 40, rel := 20, neg := 30, debounce := 3, enabled := true, seq := 77, els := [elr 1 1000 1050, elr 1 1000 1000, elr 1 900 950, TouchEl.reset, elr 0x12 1000 1010, elr 0x12 1000 1060, elr 0 0 0, elr 0 0 0, elr 0 0 0, elr 0 0 0, elr 0 0 0, elr 1 500 400], scans := 20}
def tsx (f : TouchGroup → TouchGroup) : State := ({dev with touch := putAt dev.touch 1 (f tgp)}.setReg (banked R.TCH_GRP_OPT 1) (0x0100000 + 2 ^ 8 * 5)).setFld R.TCH_GSTAT 0 3 2
def ts := tsx id
def raws1 : List Half := [1040, 1060, 0xFFFF, 9, 1000, 1050, 0,0,0,0,0, 5]
def ctl (p : Bool) (a b : Nat) : TouchCtl := ⟨p, a, b, none⟩
def acql : List Nat := (List.range 16).map (· + 1000)
def hp (f : Hap → Hap) : State := (({withEs dev 0 [ent .openIssued 0x704 5 (some 4) []] with haps := putAt dev.haps 3 (f {Hap.reset with st := .boot, cur := some ⟨17, 200, some (0, 5)⟩})}.setReg (banked R.HAP_DRV 3) 0x2000096).setT 3 333333).setReg (banked R.HAP_TIM 3) 100
def pls : List Hap := [{Hap.reset with st := .play, wins := 2, openRun := 3, clampRun := 4, brakeRun := 1}, {Hap.reset with st := .brake, brakeRun := 1}, {Hap.reset with st := .play, gapBrake := true, wins := 7}]
def hyp_touchScan_1 (s : State) (g : Fin 8) (raws : List Half) : Bool :=
  decide (s.safe = true) && decide (s.scanned g.val) && decide (raws.length = 12)
def hyp_touchPress_1 (s : State) (g : Fin 8) (c : Fin 12) : Bool :=
  decide (s.safe = true) && decide (s.scanned g.val) && decide (s.keyAt g.val c.val) &&
    decide (((s.tg g.val).ctl c.val).pressed = false) && decide ((s.tg g.val).debounce ≤ ((s.tg g.val).ctl c.val).pressRun) &&
    decide ((s.tg g.val).haptic = none)
def hyp_touchPress_2 (s : State) (g ch : Fin 8) (c : Fin 12) (e edge : Nat) : Bool :=
  decide (s.safe = true) && decide (s.scanned g.val) && decide (s.keyAt g.val c.val) &&
    decide (((s.tg g.val).ctl c.val).pressed = false) && decide ((s.tg g.val).debounce ≤ ((s.tg g.val).ctl c.val).pressRun) &&
    decide ((s.tg g.val).haptic = some ch.val) && decide ((s.tg g.val).binds = [⟨c.val, e, edge⟩]) && decide (edge % 2 = 1) &&
    decide ((s.hap ch.val).st = .idle) && decide ((s.hap ch.val).stopping = false)
def hyp_touchRelease_1 (s : State) (g : Fin 8) (c : Fin 12) : Bool :=
  decide (s.safe = true) && decide (s.scanned g.val) && decide (s.keyAt g.val c.val) &&
    decide (((s.tg g.val).ctl c.val).pressed = true) && decide ((s.tg g.val).debounce ≤ ((s.tg g.val).ctl c.val).relRun) &&
    decide ((s.tg g.val).haptic = none)
def hyp_touchBaselineDone_1 (s : State) (g : Fin 8) (e : Fin 12) (l : List Nat) : Bool :=
  decide (s.safe = true) && decide (s.scanned g.val) && decide ((s.tg g.val).enabling = none) &&
    decide (((s.tg g.val).el e.val).acq = some l) && decide (l.length = 16) &&
    decide ((∀ k : Nat, k < 12 → k ≠ e.val → ((s.tg g.val).el k).acq = none))
def hyp_touchBaselineDone_2 (s : State) (g : Fin 8) (n : Nat) (q : Word) : Bool :=
  decide (s.scanned g.val) && decide ((s.tg g.val).enabling = some (n, q)) && decide (s.Owes n q) &&
    decide (16 ≤ (s.tg g.val).scans) && decide ((∀ k : Nat, k < 12 → ((s.tg g.val).el k).acq = none))
def hyp_touchFollow_1 (s : State) (g : Fin 8) : Bool :=
  decide (s.safe = true) && decide (s.scanned g.val) &&
    decide (max 1 (s.fld (banked R.TCH_GRP_OPT g.val) 8 8) ≤ (s.tg g.val).follow) && decide ((s.tg g.val).anyPressed = false) &&
    decide ((∀ k : Nat, k < 12 → ((s.tg g.val).el k).acq = none))
def hyp_touchFollow_2 (s : State) (g : Fin 8) : Bool :=
  decide (s.safe = true) && decide (s.scanned g.val) && decide ((s.tg g.val).anyPressed = true) &&
    decide (max 1 (s.fld (banked R.TCH_GRP_OPT g.val) 8 8) ≤ (s.tg g.val).follow)
def hyp_touchNegReacq_1 (s : State) (g : Fin 8) (e : Fin 12) : Bool :=
  decide (s.safe = true) && decide (s.scanned g.val) && decide (8 ≤ ((s.tg g.val).el e.val).negRun)
def hyp_touchStuck_1 (s : State) (g : Fin 8) (c : Fin 12) : Bool :=
  decide (s.safe = true) && decide (s.scanned g.val) && decide (s.keyAt g.val c.val) &&
    decide (((s.tg g.val).ctl c.val).pressed = true) && decide (((s.tg g.val).ctl c.val).relRun < (s.tg g.val).debounce) &&
    decide ((s.tg g.val).haptic = none)
def hyp_touchElectrodeFault_1 (s : State) (g : Fin 8) (e : Fin 12) : Bool :=
  decide (s.safe = true) && decide (s.scanned g.val) && decide (s.keyAt g.val e.val) &&
    decide ((8 ≤ ((s.tg g.val).el e.val).openRun ∨ 8 ≤ ((s.tg g.val).el e.val).shortRun))
def hyp_touchRateStep_1 (s : State) : Bool :=
  decide (s.safe = true) && decide (s.power.st = 0) && decide (s.fld R.TCH_GSTAT 0 3 < 4) &&
    decide (s.fld R.TCH_RATE (8 * s.fld R.TCH_GSTAT 0 3) 8 ≠ 0) &&
    decide ((∀ g : Nat, g < s.nOut → (s.tg g).enabled = true → (s.tg g).els.all (fun x => x.kind == 0 || decide (x.delta < (s.tg g).th)) = true))
/-- States and operands that meet the hypotheses of every clause of `Obligations.TouchRows`. -/
theorem witness_TouchRows :
    ([0, 2, 3].all (fun m => [raws1].all (fun r => hyp_touchScan_1 ((tsx (fun t => {t with ctls := putAt t.ctls 0 (ctl true 1 2), els := putAt t.els 2 {elr 1 3 9 with acq := some [1,2]}})).setFld (banked R.TCH_GRP_OPT 1) 0 2 m) 1 r))) = true ∧
    (hyp_touchScan_1 ((tsx (fun t => {t with reports := some (1, 16, 4096), ctls := putAt t.ctls 4 (ctl true 1 2)})).setFld (banked R.TCH_GRP_OPT 1) 0 2 1) 1 raws1) = true ∧
    ([none, some (2, 16, 4096)].all (fun r => hyp_touchPress_1 (tsx (fun t => {t with reports := r, ctls := putAt t.ctls 2 (ctl false 3 0)})) 1 2)) = true ∧
    ([none, some (2, 16, 4096)].all (fun r => hyp_touchPress_2 ((tsx (fun t => {t with reports := r, haptic := some 3, binds := [⟨2, 17, 1⟩], ctls := putAt t.ctls 2 (ctl false 3 0)})).modHap 3 (fun h => {h with st := .idle})) 1 3 2 17 1)) = true ∧
    ([none, some (2, 16, 4096)].all (fun r => hyp_touchRelease_1 (tsx (fun t => {t with reports := r, ctls := putAt t.ctls 2 (ctl true 3 3)})) 1 2)) = true ∧
    ([none, some (2, 16, 4096)].all (fun r => hyp_touchBaselineDone_1 ((tsx (fun t => {t with reports := r, els := putAt t.els 2 {elr 1 3 9 with acq := some acql, atEnable := true}})).setReg (R.TCH_REF 7) 950) 1 2 acql)) = true ∧
    (hyp_touchBaselineDone_2 (withEs (tsx (fun t => {t with enabling := some (0, 5), els := putAt t.els 2 {elr 1 3 9 with suspect := true}})) 0 [ent .openIssued 0x701 5 (some 4) []]) 1 0 5) = true ∧
    (hyp_touchFollow_1 (tsx (fun t => {t with follow := 5})) 1) = true ∧
    (hyp_touchFollow_2 (tsx (fun t => {t with follow := 5, ctls := putAt t.ctls 2 (ctl true 3 3)})) 1) = true ∧
    (hyp_touchNegReacq_1 (tsx (fun t => {t with els := putAt t.els 2 {elr 1 3 9 with negRun := 8}})) 1 2) = true ∧
    ([none, some (2, 16, 4096)].all (fun r => hyp_touchStuck_1 (tsx (fun t => {t with reports := r, ctls := putAt t.ctls 2 (ctl true 3 1)})) 1 2)) = true ∧
    ([some (1,16,4096)].all (fun r => [true, false].all (fun p => (hyp_touchElectrodeFault_1 (tsx (fun t => {t with reports := r, ctls := putAt t.ctls 2 (ctl p 3 1), els := putAt t.els 2 {elr 1 3 9 with openRun := 8}})) 1 2 && hyp_touchElectrodeFault_1 (tsx (fun t => {t with reports := r, ctls := putAt t.ctls 2 (ctl p 3 1), els := putAt t.els 2 {elr 1 3 9 with shortRun := 9}})) 1 2)))) = true ∧
    (hyp_touchRateStep_1 ((tsx (fun t => {t with els := List.replicate 12 (elr 1 10 10)})).setReg R.TCH_RATE 0x03030303)) = true :=
  by decide +kernel

def hyp_hapBootDone_1 (s : State) (n : Fin 8) (x : BitVec 12) (h : HapTrig) : Bool :=
  decide (s.safe = true) && decide (s.pair.role = .solo) && decide ((s.hap n.val).st = .boot) &&
    decide ((s.hap n.val).cur = some h) && decide (x ≠ 0) && decide (x ≠ 4095)
def hyp_hapBootDone_2 (s : State) (n : Fin 8) (x : BitVec 12) : Bool :=
  decide (s.safe = true) && decide (s.pair.role = .solo) && decide (s.pair.completions = []) &&
    decide ((s.hap n.val).st = .boot) && decide ((x = 0 ∨ x = 4095)) && decide ((s.hap n.val).stopping = false)
def hyp_hapSenseWindow_1 (s : State) (n : Fin 8) (s0 s1 s2 s3 : BitVec 12) (rising : Bool) : Bool :=
  decide (s.safe = true) && decide (s.pair.role = .solo) && decide (((s.hap n.val).st = .play ∨ (s.hap n.val).st = .brake)) &&
    decide ([s0, s1, s2, s3].all (fun x => x != 0 && x != 4095) = true)
def hyp_hapOpenFault_1 (s : State) (n : Fin 8) : Bool :=
  decide (s.safe = true) && decide (s.pair.role = .solo) && decide (s.pair.completions = []) &&
    decide ((s.hap n.val).st = .play) && decide (4 ≤ (s.hap n.val).openRun) && decide ((s.hap n.val).stopping = false)
def hyp_hapUnlock_1 (s : State) (n : Fin 8) : Bool :=
  decide (s.safe = true) && decide (8 ≤ (s.hap n.val).clampRun)
def hyp_hapSegmentEnd_1 (s : State) (n : Fin 8) (d : HapSeg) (r : List HapSeg) : Bool :=
  decide (s.safe = true) && decide ((s.hap n.val).st = .play) && decide ((s.hap n.val).gapBrake = false) &&
    decide ((s.hap n.val).segs = d :: r) && decide ((match d with | .gap _ => false | _ => true) = true)
def hyp_hapGapEnd_1 (s : State) (n : Fin 8) (ms : Nat) (r : List HapSeg) : Bool :=
  decide (s.safe = true) && decide ((s.hap n.val).st = .play) && decide ((s.hap n.val).segs = .gap ms :: r)
def hyp_hapBrakeEnd_1 (s : State) (n : Fin 8) (h : HapTrig) : Bool :=
  decide (s.safe = true) && decide (s.pair.role = .solo) && decide (s.pair.completions = []) &&
    decide ((s.hap n.val).st = .brake) && decide (2 ≤ (s.hap n.val).brakeRun) && decide ((s.hap n.val).cur = some h) &&
    decide ((s.hap n.val).stopping = false)
def hyp_hapBrakeTimeout_1 (s : State) (n : Fin 8) : Bool :=
  decide (s.safe = true) && decide (s.pair.role = .solo) && decide (s.pair.completions = []) &&
    decide ((s.hap n.val).st = .brake) && decide ((s.hap n.val).next = none) && decide ((s.hap n.val).stopping = true)
def hyp_hapBrakeTimeout_2 (s : State) (n : Fin 8) : Bool :=
  decide (s.safe = true) && decide ((s.hap n.val).st = .play) && decide ((s.hap n.val).gapBrake = true)
/-- States and operands that meet the hypotheses of every clause of `Obligations.HapticRows`. -/
theorem witness_HapticRows :
    ([(2048 : BitVec 12), 1791, 2305].all (fun x => hyp_hapBootDone_1 (hp id) 3 x ⟨17, 200, some (0, 5)⟩)) = true ∧
    ([(0 : BitVec 12), 4095].all (fun x => hyp_hapBootDone_2 (hp id) 3 x)) = true ∧
    ([(2000,2100), (2000,2000), (1,2)].all (fun p => pls.all (fun h => hyp_hapSenseWindow_1 ((hp (fun _ => h)).setReg (banked R.HAP_LIM 3) 0x1000000) 3 (BitVec.ofNat 12 p.1) 5 6 (BitVec.ofNat 12 p.2) true))) = true ∧
    (hyp_hapOpenFault_1 (hp (fun h => {h with st := .play, openRun := 4})) 3) = true ∧
    (hyp_hapUnlock_1 (hp (fun h => {h with st := .play, clampRun := 8})) 3) = true ∧
    ([effectSegs 3, effectSegs 17, [.cycles 1, .timed 5]].all (fun l => hyp_hapSegmentEnd_1 (hp (fun h => {h with st := .play, segs := l})) 3 (l.headD (.gap 4)) (l.drop 1))) = true ∧
    (hyp_hapGapEnd_1 (hp (fun h => {h with st := .play, segs := [.gap 60, .cycles 1]})) 3 60 [.cycles 1]) = true ∧
    ([none, some ⟨9, 3, none⟩].all (fun x => hyp_hapBrakeEnd_1 (hp (fun h => {h with st := .brake, next := x, brakeRun := 2})) 3 ⟨17, 200, some (0, 5)⟩)) = true ∧
    (hyp_hapBrakeTimeout_1 (hp (fun h => {h with st := .brake, stopping := true})) 3) = true ∧
    (hyp_hapBrakeTimeout_2 (hp (fun h => {h with st := .play, gapBrake := true})) 3) = true :=
  by decide +kernel

end W62
/-! ## Audio -/

namespace W63

def ent (st : JState) (code : Nat) (q : Word) (k : Option Nat) (pl : List Byte) : JEntry := ⟨q, 5, st, k, ⟨q,0,BitVec.ofNat 12 code,true,false,1,4⟩, ⟨BitVec.ofNat 16 code, BitVec.ofNat 16 pl.length, q, 0,0,0,0,0,0,5,pl⟩, true, 0, none, none⟩
def withEs (s : State) (n : Nat) (l : List JEntry) : State := s.modSlice n (fun x => {x with journal := l, nextSeq := 20, slots := l.foldl (fun sl e => match e.slot with | some k => putAt sl k {Slot.empty with st := .pending, seq := e.seq} | none => sl) x.slots})
def au (f : Audio → Audio) : State := {((((withEs dev 0 [ent .openIssued 0x605 5 (some 4) []]).setReg R.AUD_CFG 0x501).setReg R.AUD_STAT 1).setReg R.AUD_DUCK 0x0A05F800) with aud := f dev.aud}
def tdm (s : State) : State := ((((s.setReg (R.AUD_TDM_CFG 1) (1 + 8*3 + 2^7)).setReg (R.AUD_TDMIN_MAP 0) (0x80000000 + 1 + 16*2)).setReg (R.AUD_TDMIN_MAP 1) (0x80000001)).setReg (R.AUD_TDM_CFG 2) (1 + 2^7*2))
def pins : AudioPins := ⟨List.replicate 8 77, [[], [0x40000000, 5, 0xA0000000, 9], [3], []]⟩
def mxa (a : Audio) : Audio := {a with xp := [(16*24+3, ⟨some (-1536), none⟩), (16*25+3, Gain.unity), (16*25+4, ⟨none, none⟩)], outs := putAt (putAt a.outs 3 {AudOut.reset with map := 0x00030001, limit := -512}) 5 {AudOut.reset with map := 0x00020001}}
def rmp (toOff : Bool) (nx : Option (Int × Nat)) (src : Option (Nat × Word)) : Gain := ⟨some 5, some ⟨5, 9, 10, 11, toOff, nx, src⟩⟩
def re (m : Option Word) : State := ((au (fun a => {a with inGain := putAt (putAt a.inGain 3 (rmp false none (some (0,5)))) 4 ⟨some 5, some ⟨5, 9, 10, 10, false, none, none⟩⟩, xp := [(17, rmp true (some (7, 3)) (some (0,5))), (18, rmp true none none)], outs := putAt a.outs 3 {AudOut.reset with gain := rmp true (some (7,8)) none, duck := rmp false none none, mapGain := rmp true none none, mapNext := m}})).setReg R.AUD_DUCK_STAT 0x18)
def ac (d : Nat) : Access := ⟨.port 0, 15, BitVec.ofNat 32 d⟩
def ch (safety : Bool) (started : Nat) (times := 3) : Chime := ⟨9, safety, false, 0x18, 0, times, started, 0, false, some (0, 5), 2⟩
def plr (x : Player) : State := au (fun a => {a with players := putAt a.players 2 x})
def gs : GuestStream := ⟨0, 3, 2, 1, 8192, 0x4000, 0x9000, 640, 48, none⟩
def av (l : Bool) : AvtpStream := ⟨77, 0, l, 1, 3, 2, 1, 2000, 0x112233, 2, 0, 3, (List.range 7).map (fun i => (i * 100, [(i : Int) * 65536, -5]))⟩
def avs (l : Bool) : State := (let s := au id; {s with net := {s.net with avtp := [av l]}}).setReg (R.NET_P_CFG 1) 1
def hyp_audSample_1 (s : State) (pins : AudioPins) (now : DWord) : Bool :=
  decide (s.safe = true) && decide (s.pair.role = .solo) && decide (s.audioPath = true) &&
    decide (s.reg R.AUD_PDM_CFG % 256 = 0) && decide (s.aud.streams = []) && decide (s.net.avtp = []) &&
    decide ((∀ p : Nat, p < 4 → s.player p = ⟨none, none⟩)) &&
    decide ((∀ p : Nat, p < 4 → s.flag (R.AUD_TDM_CFG p) 2 = false)) && decide ((s.aud.xp.map (·.1)).Nodup)
def hyp_audSample_2 (s : State) (pins : AudioPins) (now : DWord) : Bool :=
  decide (s.safe = true) && decide (s.pair.role = .solo) && decide (s.audioPath = true) &&
    decide (s.reg R.AUD_PDM_CFG % 256 = 0) && decide (s.aud.streams = []) && decide (s.net.avtp = []) &&
    decide ((∀ p : Nat, p < 4 → s.player p = ⟨none, none⟩)) &&
    decide ((∀ p : Nat, p < 4 → s.flag (R.AUD_TDM_CFG p) 2 = false ∧ s.aud.tdmDrop.getD p 0 = 0)) &&
    decide (s.flag R.AUD_STAT 1 = false) &&
    decide ((∀ j : Nat, j < 16 → (s.aud.out j).delay = 0 ∧ (s.aud.out j).mapGain = Gain.unity))
def hyp_audRampEnd_1 (s : State) : Bool :=
  decide (s.safe = true) && decide (s.pair.role = .solo) && decide (s.pair.completions = [])
def hyp_audRampEnd_2 (s : State) (i : Fin 32) (r : GainRamp) (n : Nat) (q : Word) : Bool :=
  decide (s.Owes n q) && decide ((s.aud.inGain.getD i.val Gain.unity).ramp = some r) && decide (r.n < r.k) &&
    decide (r.next = none) && decide (r.src = some (n, q))
def hyp_audRampEnd_3 (s : State) (j : Fin 16) (m : Word) : Bool :=
  decide (s.safe = true) &&
    decide ((s.aud.out j.val).mapGain.ramp.any (fun r => r.toOff && decide (r.n < r.k) && r.next.isNone) = true) &&
    decide ((s.aud.out j.val).mapNext = some m)
def hyp_audOutMapWrite_1 (s : State) (j : Fin 16) (a : Access) : Bool :=
  decide (s.regReach a (R.AUD_OUT_MAP j.val)) && decide ((s.aud.out j.val).mapGain = Gain.unity) &&
    decide (s.aud.safetyOn j.val = false)
/-- States and operands that meet the hypotheses of every clause of `Obligations.AudioMixerRows`. -/
theorem witness_AudioMixerRows :
    (hyp_audSample_1 (tdm (au mxa)) pins 5) = true ∧
    (hyp_audSample_1 (tdm (au (fun a => {mxa a with inGain := putAt a.inGain 25 ⟨some 1024, some ⟨0, 512, 10, 3, false, none, none⟩⟩}))) pins 5) = true ∧
    (hyp_audSample_2 (tdm (au mxa)) pins 5) = true ∧
    (hyp_audRampEnd_1 (re none)) = true ∧
    (hyp_audRampEnd_2 (re none) 3 ⟨5, 9, 10, 11, false, none, some (0,5)⟩ 0 5) = true ∧
    (hyp_audRampEnd_3 (re (some 77)) 3 77) = true ∧
    ([0x30001, 0, 0xFFFFFFFF].all (fun d => hyp_audOutMapWrite_1 (au id) 3 (ac d))) = true :=
  by decide +kernel

def hyp_chimeBlock_1 (s : State) (p : Fin 4) (c : Chime) : Bool :=
  decide (s.safe = true) && decide (s.pair.role = .solo) && decide (s.pair.completions = []) && decide (s.audioPath = true) &&
    decide (s.quiet) && decide (s.player p.val = ⟨some c, none⟩) && decide (c.started = 0) && decide (c.stop = false) &&
    decide (c.fault = false) && decide (s.alone p.val)
def hyp_chimeBlock_2 (s : State) (p : Fin 4) (c : Chime) (n : Nat) (q : Word) : Bool :=
  decide (s.Owes n q) && decide (s.audioPath = true) && decide (s.quiet) && decide (s.player p.val = ⟨some c, none⟩) &&
    decide (c.src = some (n, q)) && decide (c.fault = false) && decide (s.alone p.val) &&
    decide ((c.stop = true ∨ c.started ≠ 0 ∧ c.times ≠ 0 ∧ c.times ≤ c.started ∧ (chimeTimes (c.num / 8)).1 * 48 ≤ c.pos))
def hyp_chimeBlock_3 (s : State) (p : Fin 4) (c d : Chime) (n : Nat) (q : Word) : Bool :=
  decide (s.Owes n q) && decide (s.audioPath = true) && decide (s.quiet) && decide (s.player p.val = ⟨some c, some d⟩) &&
    decide (c.src = some (n, q)) && decide (c.fault = false) && decide (d.fault = false) && decide (d.stop = false) &&
    decide (s.alone p.val)
def hyp_tdmSlip_1 (s : State) (p : Fin 4) (again : Bool) : Bool :=
  decide (s.flag (R.AUD_TDM_CFG p.val) 0 = true) && decide (s.flag (R.AUD_TDM_CFG p.val) 1 = false) && decide (s.safe = true) &&
    decide (p.val < s.aud.tdmDrop.length)
def hyp_audStreamPos_1 (s : State) (i : Fin 16) (w : Word) (g : GuestStream) (p : Nat) (id : BitVec 20) : Bool :=
  decide (s.safe = true) && decide (s.pair.role = .solo) && decide (s.aud.streams = [g]) && decide (g.first = i.val) &&
    decide (48 ≤ g.count) && decide ((s.slice g.slice).binding = .pcie p id) && decide (s.portRuns g.slice = true) &&
    decide ((s.port p).held = [])
def hyp_audPllLock_1 (s : State) : Bool :=
  decide (s.safe = true)
def hyp_audPllUnlock_1 (s : State) : Bool :=
  decide (s.safe = true) && decide (s.flag R.AUD_STAT 0 = true)
def hyp_avtpPacketRx_1 (s : State) (p : Fin 4) (stream pres now : DWord) (frames : List (List Word)) (a : AvtpStream) : Bool :=
  decide (s.safe = true) && decide (s.pair.role = .solo) && decide (s.ethOn p.val = true) && decide (s.net.avtp = [a]) &&
    decide (a.streamId = stream.toNat) && decide (a.listener = true) && decide (a.port = p.val) && decide (frames.length ≤ 6) &&
    decide (frames.all (fun f => f.length == a.channels) = true)
def hyp_avtpPacketTx_1 (s : State) (stream : DWord) (a : AvtpStream) (f : Nat × List Int) : Bool :=
  decide (s.safe = true) && decide (s.pair.role = .solo) && decide (s.net.avtp = [a]) && decide (a.streamId = stream.toNat) &&
    decide (a.listener = false) && decide (6 ≤ a.frames.length) && decide (a.frames.head? = some f)
/-- States and operands that meet the hypotheses of every clause of `Obligations.AudioEventRows`. -/
theorem witness_AudioEventRows :
    ([true, false].all (fun b => hyp_chimeBlock_1 (plr ⟨some (ch b 0), none⟩) 2 (ch b 0))) = true ∧
    ([{ch true 2 with stop := true}, {ch false 3 with pos := 320*48}].all (fun c => hyp_chimeBlock_2 (plr ⟨some c, none⟩) 2 c 0 5)) = true ∧
    (hyp_chimeBlock_3 (plr ⟨some (ch false 2), some {ch true 0 with src := none}⟩) 2 (ch false 2) {ch true 0 with src := none} 0 5) = true ∧
    ([true, false].all (fun b => hyp_tdmSlip_1 (tdm (au id)) 1 b)) = true ∧
    (hyp_audStreamPos_1 (au (fun a => {a with streams := [gs]})) 3 7 gs 0 1) = true ∧
    (hyp_audPllLock_1 ((au id).setReg R.AUD_STAT 0)) = true ∧
    (hyp_audPllUnlock_1 (au id)) = true ∧
    ([5, 500].all (fun now => hyp_avtpPacketRx_1 (avs true) 1 77 100 (BitVec.ofNat 64 now) [[1,2],[3,0xFFFFFF]] (av true))) = true ∧
    (hyp_avtpPacketTx_1 (avs false) 77 (av false) (0, [0, -5])) = true :=
  by decide +kernel

end W63
/-! ## Host interfaces, network, locks and mailboxes -/

namespace W64

def ent (st : JState) (code : Nat) (q : Word) (k : Option Nat) (pl : List Byte) : JEntry := ⟨q, 5, st, k, ⟨q,0,BitVec.ofNat 12 code,true,false,1,4⟩, ⟨BitVec.ofNat 16 code, BitVec.ofNat 16 pl.length, q, 0,0,0,0,0,0,5,pl⟩, true, 0, none, none⟩
def withEs (s : State) (n : Nat) (l : List JEntry) : State := s.modSlice n (fun x => {x with journal := l, nextSeq := 20, slots := l.foldl (fun sl e => match e.slot with | some k => putAt sl k {Slot.empty with st := .pending, seq := e.seq} | none => sl) x.slots})
def ac (d : Nat) : Access := ⟨.port 0, 15, BitVec.ofNat 32 d⟩
def chCfg (snd rcv : Nat) (bell : Bool := false) : Nat := snd + 256*rcv + (if bell then 65536 else 0) + 2^17
def lks (s : State) : State := {s with locks := ((s.locks.set 3 ⟨.master 16, [1], []⟩).set 5 ⟨.master 1, [16], []⟩), chans := s.chans.set 4 ⟨[[1,2,3,4]], 5, [7,8,9], false, false, false, 3⟩}.setReg (R.MBX_CH_CFG 4) (chCfg 0 16)
def hld (q : PciPort → PciPort) : State := dev.modPort 0 (fun p => q {p with held := [HostReq.mem 1 0x1000 [1,2], .msi 2, .flush 1 0x3000 [1], .mem 1 0x2000 [3]]})
def fetch : State := dev.modSlice 0 (fun x => {x with db := 2})
def upl : State := withEs devS 0 [ent .openIssued 0x102 5 (some 4) (pay [(2,5),(2,0),(4,0),(4,16),(8,0x5000)])]
def uple := ent .openIssued 0x102 5 (some 4) (pay [(2,5),(2,0),(4,0),(4,16),(8,0x5000)])
def u5 : Surface := ⟨5, 6, 8, 4, 64, none, Mem.cells none 0 (List.replicate 200 3)⟩
def gs : GuestStream := ⟨0, 3, 2, 1, 8192, 0x4000, 0x9000, 640, 48, none⟩
def gst : State := {dev with aud := {dev.aud with streams := [gs]}}
def mx (pend : Bool) (f : PciPort → PciPort := id) : State := dev.modPort 0 (fun p => f {p with msix := p.msix.set 5 ⟨4, 1, 77, true, pend⟩})
def nt : State := ((((((dev.setReg (R.NET_P_CFG 0) 9).setReg (R.NET_P_CFG 1) 1).setReg (R.NET_P_CFG 3) 1).setReg (R.NET_VLAN 0) (0x80000000 + 1 + 4096 * 11)).setReg (R.NET_VLAN 1) (0x80000000 + 2 + 4096*3 + 65536)).setReg R.NET_MAC_LO 9).setReg R.NET_CFG 1 |>.setReg R.NET_IP 0x0A000001 |>.setReg R.NET_PCP_MAP 0xFAC688
def fr (d : Nat) (vl : Nat) (k : FrameKind := .plain) (len := 100) : EthFrame := ⟨BitVec.ofNat 48 d, 0x222222222222, BitVec.ofNat 12 vl, 3, k, false, len⟩
def ntf (e : Nat) : State := {nt with net := {nt.net with fwd := [⟨5, 1, e⟩, ⟨0x222222222222, 1, 3⟩]}}
def pt (st good : Nat) : State := {((nt.setReg R.NET_PTP_CFG 1).setReg R.NET_PTP_STAT st) with net := {nt.net with goodSyncs := good}}
def tk : AvtpStream := ⟨77, 0, false, 0, 3, 2, 1, 2000, 0x112233, 2, 5000, 3, []⟩
def rsv (sl : Nat) : State := {nt.setReg (R.NET_P_CBS 0) sl with net := {nt.net with avtp := [tk, {tk with tc := 2, rsv := 100}]}}
def gl : GateList := ⟨1000, 50, [⟨1,50⟩]⟩
def gts : State := {nt with net := {nt.net with gates := nt.net.gates.set 1 ⟨none, some gl⟩}}
def lk (l : Lock) : State := {dev with locks := dev.locks.set 7 l}
def tid : StrandId := ⟨0,1,0,3⟩
def cm (c : Channel) (snd := 16) (rcv := 1) (bell := false) : State := {dev with chans := dev.chans.set 4 c}.setReg (R.MBX_CH_CFG 4) (chCfg snd rcv bell)
def c0 : Channel := ⟨[], 5, [7,8,9], false, false, false, 3⟩
def hyp_pcieFlr_1 (s : State) (p : Fin 2) : Bool :=
  decide (s.safe = true) && decide ((p.val = 0 ∨ s.boot.bond = false))
def hyp_pcieHoldStart_1 (s : State) (p : Fin 2) (c : HoldCause) : Bool :=
  decide (s.safe = true) && decide ((p.val = 0 ∨ s.boot.bond = false))
def hyp_pcieHoldEnd_1 (s : State) (p : Fin 2) (c : HoldCause) (w : Fin 16) (v : Fin 8) : Bool :=
  decide (s.safe = true) && decide ((p.val = 0 ∨ s.boot.bond = false))
def hyp_pciePerst_1 (s : State) (p : Fin 2) : Bool :=
  decide (s.safe = true) && decide ((p.val = 0 ∨ s.boot.bond = false))
def hyp_pcieCplError_1 (s : State) (n : Fin 16) : Bool :=
  decide (s.safe = true) && decide (s.mayFetch n.val = true)
def hyp_pcieCplError_2 (s : State) (n : Fin 16) (e : JEntry) (u : Surface) : Bool :=
  decide (s.Owes n.val e.seq) && decide (s.knabyRuns = true) && decide ((s.slice n.val).entry e.seq = some e) &&
    decide (e.st = .openIssued) && decide (e.body.opcode = 0x0102) && decide (s.surf n.val (u16 e.body.payload 0) = some u) &&
    decide ((s.slice n.val).inHand = .none)
def hyp_pcieCplError_3 (s : State) (n : Fin 16) (g : GuestStream) : Bool :=
  decide (s.safe = true) && decide (s.pair.role = .solo) && decide (g ∈ s.aud.streams) && decide (g.slice = n.val) &&
    decide ((s.slice n.val).binding.portId.1 < 2) && decide ((s.slice n.val).binding.isPcie = true)
def hyp_pcieCplTimeout_1 (s : State) (n : Fin 16) : Bool :=
  decide (s.safe = true) && decide (s.mayFetch n.val = true)
def hyp_pcieCplTimeout_2 (s : State) (n : Fin 16) (e : JEntry) (u : Surface) : Bool :=
  decide (s.Owes n.val e.seq) && decide (s.knabyRuns = true) && decide ((s.slice n.val).entry e.seq = some e) &&
    decide (e.st = .openIssued) && decide (e.body.opcode = 0x0102) && decide (s.surf n.val (u16 e.body.payload 0) = some u) &&
    decide ((s.slice n.val).inHand = .none)
def hyp_pcieCplTimeout_3 (s : State) (n : Fin 16) (g : GuestStream) : Bool :=
  decide (s.safe = true) && decide (s.pair.role = .solo) && decide (g ∈ s.aud.streams) && decide (g.slice = n.val) &&
    decide ((s.slice n.val).binding.portId.1 < 2) && decide ((s.slice n.val).binding.isPcie = true)
def hyp_fetchRetry_1 (s : State) (n : Fin 16) : Bool :=
  decide (s.safe = true)
def hyp_msixUnmask_1 (s : State) (p : Fin 2) (e : Fin 64) : Bool :=
  decide (s.safe = true)
/-- States and operands that meet the hypotheses of every clause of `Obligations.PcieRows`. -/
theorem witness_PcieRows :
    ([0, 1].all (fun (p : Fin 2) => hyp_pcieFlr_1 (lks dev) p)) = true ∧
    ([HoldCause.linkDown, .pasidOff, .d3hot].all (fun c => [0].all (fun (p : Fin 2) => hyp_pcieHoldStart_1 (lks dev) p c))) = true ∧
    (hyp_pcieHoldEnd_1 (hld (fun p => {p with linkUp := false})) 0 .linkDown 4 3) = true ∧
    (hyp_pcieHoldEnd_1 (hld (fun p => {p with bme := false})) 0 .busMasterOff 4 3) = true ∧
    (hyp_pcieHoldEnd_1 (hld (fun p => {p with pasidEn := false})) 0 .pasidOff 4 3) = true ∧
    (hyp_pcieHoldEnd_1 (hld (fun p => {p with d3 := true})) 0 .d3hot 4 3) = true ∧
    (hyp_pcieHoldEnd_1 (hld (fun p => {p with d3 := true, bme := false})) 0 .d3hot 4 3) = true ∧
    ([0, 1].all (fun (p : Fin 2) => hyp_pciePerst_1 (lks dev) p)) = true ∧
    (hyp_pcieCplError_1 fetch 0) = true ∧
    (hyp_pcieCplTimeout_1 fetch 0) = true ∧
    (hyp_pcieCplError_2 upl 0 uple u5) = true ∧
    (hyp_pcieCplTimeout_2 upl 0 uple u5) = true ∧
    (hyp_pcieCplError_3 gst 0 gs) = true ∧
    (hyp_pcieCplTimeout_3 gst 0 gs) = true ∧
    (hyp_fetchRetry_1 (dev.modSlice 3 (fun x => {x with fetchRetry := true})) 3) = true ∧
    ((hyp_msixUnmask_1 (mx false) 0 5 && hyp_msixUnmask_1 (mx true) 0 5 && hyp_msixUnmask_1 (mx true (fun p => {p with d3 := true})) 0 5 && hyp_msixUnmask_1 (mx true) 1 5)) = true :=
  by decide +kernel

def hyp_ethFrameRx_1 (s : State) (p : Fin 4) (f : EthFrame) : Bool :=
  decide (s.safe = true) && decide (s.ethOn p.val = true) && decide (f.kind ≠ .gptp)
def hyp_ethFrameRx_2 (s : State) (p : Fin 4) (f : EthFrame) (k : Nat) : Bool :=
  decide (s.safe = true) && decide (s.ethOn p.val = true) && decide (f.kind = .plain) && decide (f.len ≤ 9018) &&
    decide (s.vlanEntry f.vlan.toNat = some k) && decide ((s.fld (R.NET_VLAN k) 12 4).testBit p.val = true) &&
    decide (f.dst.toNat ≠ s.netMac) && decide (s.net.fwd.length < 1024) &&
    decide (s.flag (R.NET_VLAN k) 16 = false ∨ f.dst.toNat / 2 ^ 40 % 2 = 0)
def hyp_arpRequest_1 (s : State) (p : Fin 4) (v : BitVec 12) (x ip : Word) (mac : BitVec 48) (k : Nat) : Bool :=
  decide (s.safe = true) && decide (s.ethOn p.val = true) && decide (s.flag R.NET_CFG 0 = true) &&
    decide (x.toNat = s.reg R.NET_IP) && decide (s.vlanEntry v.toNat = some k) && decide (s.flag (R.NET_VLAN k) 16 = true) &&
    decide ((s.fld (R.NET_VLAN k) 12 4).testBit p.val = true) && decide (p.val < s.nEth)
def hyp_icmpEcho_1 (s : State) (p : Fin 4) (v : BitVec 12) (x ip : Word) (mac : BitVec 48) (data : List Byte) (k : Nat) : Bool :=
  decide (s.safe = true) && decide (s.ethOn p.val = true) && decide (s.flag R.NET_CFG 0 = true) &&
    decide (x.toNat = s.reg R.NET_IP) && decide (s.vlanEntry v.toNat = some k) && decide (s.flag (R.NET_VLAN k) 16 = true) &&
    decide ((s.fld (R.NET_VLAN k) 12 4).testBit p.val = true) && decide (p.val < s.nEth)
def hyp_gptpSync_1 (s : State) (p : Fin 4) (now : DWord) (o : Word) : Bool :=
  decide (s.safe = true) && decide (s.flag R.NET_PTP_CFG 0 = true) && decide (s.ethOn p.val = true) &&
    decide (s.flag (R.NET_P_CFG p.val) 3 = true) && decide (s.pair.role = .solo)
def hyp_gptpSyncTimeout_1 (s : State) (gm : Bool) : Bool :=
  decide (s.safe = true) && decide (s.flag R.NET_PTP_CFG 0 = true) && decide (s.flag R.NET_PTP_STAT 1 = false)
def hyp_ethLinkChange_1 (s : State) (p : Fin 4) (r : Fin 5) : Bool :=
  decide (s.safe = true) && decide (s.ethOn p.val = true)
def hyp_gateCycleStart_1 (s : State) (p : Fin 4) (now : DWord) (l : GateList) : Bool :=
  decide (s.safe = true) && decide (p.val < s.nEth) && decide ((s.net.gates.getD p.val ⟨none, none⟩).loaded = some l)
def hyp_mdioC22Read_1 (s : State) (a : Access) : Bool :=
  decide (s.regReach a R.NET_MDIO) && decide (s.flag R.NET_MDIO 29 = false)
def hyp_mdioC22Write_1 (s : State) (a : Access) : Bool :=
  decide (s.regReach a R.NET_MDIO) && decide (s.flag R.NET_MDIO 29 = false)
def hyp_mdioC45Address_1 (s : State) (a : Access) : Bool :=
  decide (s.regReach a R.NET_MDIO) && decide (s.flag R.NET_MDIO 29 = false)
def hyp_mdioC45Write_1 (s : State) (a : Access) : Bool :=
  decide (s.regReach a R.NET_MDIO) && decide (s.flag R.NET_MDIO 29 = false)
def hyp_mdioC45Read_1 (s : State) (a : Access) : Bool :=
  decide (s.regReach a R.NET_MDIO) && decide (s.flag R.NET_MDIO 29 = false)
def hyp_mdioDone_1 (s : State) (v : BitVec 16) : Bool :=
  decide (s.safe = true) && decide (s.flag R.NET_MDIO 29 = true)
/-- States and operands that meet the hypotheses of every clause of `Obligations.NetworkRows`. -/
theorem witness_NetworkRows :
    ([fr 5 1 .unsupported, fr 5 7, fr 5 1].all (fun f => [0].all (fun (p : Fin 4) => hyp_ethFrameRx_1 nt p f))) = true ∧
    ((hyp_ethFrameRx_1 ((nt.setReg (R.NET_P_CFG 2) 1)) 2 (fr 5 1))) = true ∧
    ([nt, ntf 0, ntf 2].all (fun s => hyp_ethFrameRx_2 s 0 (fr 5 1) 0)) = true ∧
    (hyp_ethFrameRx_2 nt 0 (fr 0x010000000005 1) 0) = true ∧
    (hyp_ethFrameRx_2 nt 1 (fr 5 2) 1) = true ∧
    (hyp_arpRequest_1 nt 0 2 0x0A000001 5 6 1) = true ∧
    (hyp_icmpEcho_1 nt 0 2 0x0A000001 5 6 [1,2] 1) = true ∧
    ([(2, 5, (50 : Int)), (1,3,1000), (0,5,5000)].all (fun (a, b, o) => hyp_gptpSync_1 (pt a b) 0 12345 (BitVec.ofInt 32 o))) = true ∧
    ([(0, true), (0,false), (1,false)].all (fun (a, g) => hyp_gptpSyncTimeout_1 (pt a 7) g)) = true ∧
    ([rsv 100, rsv (750 + 65536*500), nt].all (fun s => [0].all (fun (r : Fin 5) => hyp_ethLinkChange_1 s 0 r))) = true ∧
    ([999, 1000].all (fun now => hyp_gateCycleStart_1 gts 1 now gl)) = true ∧
    (hyp_mdioC22Read_1 nt (ac 0x31234567)) = true ∧
    (hyp_mdioC22Write_1 nt (ac 0x21234567)) = true ∧
    (hyp_mdioC45Address_1 nt (ac 0x31234567)) = true ∧
    (hyp_mdioC45Write_1 nt (ac 0xFFFFFFFF)) = true ∧
    (hyp_mdioC45Read_1 nt (ac 0x21234567)) = true ∧
    (hyp_mdioC45Read_1 {nt with pair := {nt.pair with role := .standby}} (ac 0x21234567)) = true ∧
    ([0, 2, 3].all (fun o => hyp_mdioDone_1 (nt.setReg R.NET_MDIO (0x21234567 + o * 2^26)) 0xABCD)) = true :=
  by decide +kernel

def hyp_lckAcq_1 (s : State) (k : Fin 64) (a : Access) (m : Nat) : Bool :=
  decide (s.regReach a (R.LCK_REQ k.val)) && decide (s.sysMaster a.req = some m) && decide (s.lockMaster m = true) &&
    decide (a.data.toNat < 4)
def hyp_lckTry_1 (s : State) (k : Fin 64) (a : Access) (m : Nat) : Bool :=
  decide (s.regReach a (R.LCK_REQ k.val)) && decide (s.sysMaster a.req = some m) && decide (s.lockMaster m = true) &&
    decide (a.data.toNat < 4)
def hyp_lckCancel_1 (s : State) (k : Fin 64) (a : Access) (m : Nat) : Bool :=
  decide (s.regReach a (R.LCK_REQ k.val)) && decide (s.sysMaster a.req = some m) && decide (s.lockMaster m = true) &&
    decide (a.data.toNat < 4)
def hyp_lckRel_1 (s : State) (k : Fin 64) (a : Access) (m : Nat) : Bool :=
  decide (s.regReach a (R.LCK_REQ k.val)) && decide (s.sysMaster a.req = some m) && decide (s.lockMaster m = true) &&
    decide (a.data.toNat < 4) && decide (m ∉ (s.lock k.val).waiting)
def hyp_lockView (s : State) (k : Fin 64) (m : Nat) : Bool :=
  decide (s.safe = true) && decide (m ∉ (s.lock k.val).waiting) && decide ((s.lock k.val).holder.id.all (· < 256) = true)
/-- States and operands that meet the hypotheses of every clause of `Obligations.LocksByRegister`. -/
theorem witness_LocksByRegister :
    ([Lock.free, ⟨.master 1, [2], []⟩, ⟨.strand tid, [], []⟩].all (fun l => (hyp_lckAcq_1 (lk l) 7 (ac 0) 16 && hyp_lckTry_1 (lk l) 7 (ac 1) 16 && hyp_lckCancel_1 (lk l) 7 (ac 3) 16))) = true ∧
    ([Lock.free, ⟨.master 16, [3], [tid]⟩, ⟨.master 1, [2], []⟩].all (fun l => hyp_lckRel_1 (lk l) 7 (ac 2) 16)) = true ∧
    (hyp_lockView (lk ⟨.master 16, [1], []⟩) 7 16) = true :=
  by decide +kernel

def hyp_lckRel_2 (s : State) (k : Fin 64) (a : Access) (m : Nat) : Bool :=
  decide (s.regReach a (R.LCK_REQ k.val)) && decide (s.sysMaster a.req = some m) && decide (s.lockMaster m = true) &&
    decide (a.data.toNat < 4)
def hyp_mbxSend_1 (s : State) (k : Fin 32) (a : Access) (m : Nat) : Bool :=
  decide (s.regReach a (R.MBX_CH_TX k.val 3)) && decide (s.sysMaster a.req = some m) && decide (s.chOn k.val = true) &&
    decide (s.chSender k.val = m) && decide ((s.chan k.val).rxReset = false) && decide (s.chReceiver k.val ≠ 4)
def hyp_mbxSend_2 (s : State) (k : Fin 32) (a : Access) (m : Nat) : Bool :=
  decide (s.regReach a (R.MBX_CH_TX k.val 3)) && decide (s.sysMaster a.req = some m) && decide (s.chOn k.val = true)
def hyp_mbxReceive_1 (s : State) (k : Fin 32) (a : Access) (m : Nat) : Bool :=
  decide (s.safe = true) && decide (s.served = true) && decide (a.be ≠ 0) && decide (s.sysMaster a.req = some m) &&
    decide (s.chOn k.val = true)
def hyp_mbxLock_1 (s : State) (a : Access) : Bool :=
  decide (s.regReach a R.MBX_LOCK) && decide (a.data.toNat < 2)
/-- States and operands that meet the hypotheses of every clause of `Obligations.LockGrantsAndMailboxes`. -/
theorem witness_LockGrantsAndMailboxes :
    ([c0, {c0 with msgs := List.replicate 7 [1,2,3,4], dropped := true}, {c0 with msgs := List.replicate 8 [1,2,3,4]}].all (fun c => [false].all (fun b => hyp_mbxSend_1 (cm c 16 1 b) 4 (ac 6) 16))) = true ∧
    ((hyp_mbxSend_1 (cm c0 16 1 true) 4 (ac 5) 16 && hyp_mbxSend_1 (cm c0 16 2 true) 4 (ac 5) 16)) = true ∧
    ((hyp_mbxSend_2 (cm c0 0 1) 4 (ac 6) 16 && hyp_mbxSend_2 (cm {c0 with rxReset := true} 16 1) 4 (ac 6) 16 && hyp_mbxSend_2 (cm {c0 with foreign := 255} 1 16) 4 (ac 6) 16)) = true ∧
    ([cm c0 1 16 true, cm {c0 with msgs := [[1,2,3,4],[2]]} 1 16, cm c0 0 1].all (fun s => hyp_mbxReceive_1 s 4 (ac 0) 16)) = true ∧
    ([dev, {dev with mbxLockDone := true}].all (fun s => [0].all (fun d => hyp_mbxLock_1 s (ac d)))) = true ∧
    ([Lock.free, ⟨.master 16, [3, 1], [tid, tid]⟩].all (fun l => hyp_lckRel_2 (lk l) 7 (ac 2) 16)) = true :=
  by decide +kernel

end W64
/-! ## Check units and configuration -/

namespace W65

def ac (d : Nat) (be : BitVec 4 := 15) : Access := ⟨.port 0, be, BitVec.ofNat 32 d⟩
def mk (cfg en : Nat) (own := 16) : State := ((((((((dev.setReg (R.CRC_U_OWNER 3) own).setReg (R.CRC_U_CTRL 3) en).setReg (R.CRC_U_CFG 3) cfg).setReg (R.CRC_U_INIT 3) 0xFFFFF).setReg (R.CRC_U_FOLD 3) 0x12345678).setReg (R.CRC_U_SEQ 3) 0xFFFFFFFF).setReg (R.CRC_U_RUN 3) 0xABCDEF01).setReg (R.CRC_U_POLY 3) 0x04C11DB7)
def hyp_crcStart_1 (s : State) (k : Fin 8) (a : Access) (m : Nat) : Bool :=
  decide (s.ownsUnit k.val a (R.CRC_U_CTRL k.val) m) && decide (a.data.toNat < 16) && decide (a.data.getLsbD 2 = false)
def hyp_crcFold_1 (s : State) (k : Fin 8) (a : Access) (m : Nat) : Bool :=
  decide (s.ownsUnit k.val a (R.CRC_U_CTRL k.val) m) && decide (a.data.toNat < 16) && decide (a.data.getLsbD 1 = false)
def hyp_crcData_1 (s : State) (k : Fin 8) (a : Access) (m : Nat) : Bool :=
  decide (s.safe = true) && decide (s.served = true) && decide (a.be ≠ 0) && decide (s.sysMaster a.req = some m) &&
    decide (s.fld (R.CRC_U_OWNER k.val) 0 8 = m) && decide (s.flag (R.CRC_U_CTRL k.val) 3 = false)
def hyp_crcData_2 (s : State) (k : Fin 8) (a : Access) (m : Nat) : Bool :=
  decide (s.safe = true) && decide (s.served = true) && decide (a.be = 15) && decide (s.sysMaster a.req = some m) &&
    decide (s.fld (R.CRC_U_OWNER k.val) 0 8 = m) && decide (s.flag (R.CRC_U_CTRL k.val) 3 = true)
def hyp_cfgOpen_1 (s : State) (a : Access) : Bool :=
  decide (s.regReach a R.CFG_CTRL) && decide (a.data.toNat &&& 0xFFFFFFC8 = 0) && decide (a.data.getLsbD 2 = false)
def hyp_cfgCommit_1 (s : State) (a : Access) : Bool :=
  decide (s.regReach a R.CFG_CTRL) && decide (a.data.toNat &&& 0xFFFFFFC8 = 0)
def hyp_cfgOpenTimeout_1 (s : State) : Bool :=
  decide (s.safe = true)
def hyp_cfgPass_1 (s : State) (stuck bad : BitVec 35) : Bool :=
  decide (s.safe = true) && decide (s.passesRun = true) && decide (bad = 0) && decide (s.cfg.restore = [])
def hyp_cfgPass_2 (s : State) (stuck bad : BitVec 35) : Bool :=
  decide (s.safe = true) && decide (s.passesRun = false)
def hyp_cfgRestoreTimeout_1 (s : State) : Bool :=
  decide (s.safe = true)
def hyp_slgAccWrite_1 (s : State) (a : Access) : Bool :=
  decide (s.regReach a R.SLG_ACC) && decide (a.data.toNat &&& 0xE0 = 0)
def hyp_registerWrite_1 (s : State) (k : Fin 4) (a : Access) : Bool :=
  decide (s.regReach a (R.DRC_T_PAT k.val)) && decide (s.boot.rstBlk = 0)
def hyp_registerWrite_2 (s : State) (off : BitVec 26) (a : Access) : Bool :=
  decide (s.safe = true) && decide (s.served = true) && decide (a.be ≠ 0) && decide (s.boot.rstBlk = 0) &&
    decide (0x100000 ≤ off.toNat) && decide (off.toNat % 4 = 0)
def hyp_glbSnapTrig_1 (s : State) (a : Access) : Bool :=
  decide (s.safe = true) && decide (s.served = true) && decide (a.be ≠ 0)
def hyp_notOwner (s : State) (k : Fin 8) (a : Access) (m : Nat) : Bool :=
  decide (s.safe = true) && decide (s.served = true) && decide (a.be = 15) && decide (s.sysMaster a.req = some m) &&
    decide (s.fld (R.CRC_U_OWNER k.val) 0 8 ≠ m) && decide (a.data.toNat < 16)
/-- States and operands that meet the hypotheses of every clause of `Obligations.CheckAndConfigurationRows`. -/
theorem witness_CheckAndConfigurationRows :
    ([31+32, 7+64+32+256, 11+32+512].all (fun c => [2].all (fun v => hyp_crcStart_1 (mk c 1) 3 (ac v) 16))) = true ∧
    ([31+32, 7+64+32+256, 11+32+512].all (fun c => [4].all (fun v => hyp_crcFold_1 (mk c 1) 3 (ac v) 16))) = true ∧
    ([31+32, 15, 7+64+32+256].all (fun c => [15].all (fun be => [0].all (fun en => hyp_crcData_1 (mk c en) 3 (ac 0x87654321 be) 16)))) = true ∧
    (hyp_crcData_2 (mk 15 9) 3 (ac 8) 16) = true ∧
    (hyp_cfgOpen_1 dev (ac 0x30)) = true ∧
    (hyp_cfgOpen_1 dev (ac 0x33)) = true ∧
    (hyp_cfgOpen_1 (dev.setReg R.CFG_CTRL 0) (ac 0x33)) = true ∧
    (hyp_cfgCommit_1 ((mk 31 1).setReg R.CFG_CTRL 0) (ac 0x33)) = true ∧
    ((hyp_cfgOpenTimeout_1 dev && hyp_cfgOpenTimeout_1 {dev with cfg := {dev.cfg with opened := true}})) = true ∧
    (hyp_cfgPass_2 dev 0 0) = true ∧
    ((hyp_cfgRestoreTimeout_1 dev && hyp_cfgRestoreTimeout_1 {dev with cfg := {dev.cfg with restore := [3]}})) = true ∧
    ([0, 0x00310815, 0x00311015].all (fun o => [0x15].all (fun v => hyp_slgAccWrite_1 ((dev.setReg R.SLG_ACC o).setReg R.SLG_ACC_ADDR 0x100040) (ac v)))) = true ∧
    (hyp_registerWrite_1 dev 2 (ac 0xFFFFFFFF)) = true ∧
    ([(0x100008, 15, (ac 5)), (0x117000, 3, ac 5), (0x117000, 3, ⟨.port 1, 15, 3⟩)].all (fun (o, _, a) => hyp_registerWrite_2 dev o a)) = true ∧
    ([(0x100008, 15, (ac 5)), (0x117000, 3, ac 5), (0x117000, 3, ⟨.port 1, 15, 3⟩)].all (fun (o, _, a) => hyp_registerWrite_2 (dev.setReg R.SLG_ACC 0x00310815) o a)) = true ∧
    ([ac 0 3, ⟨.port 1, 15, 3⟩, ⟨.master 2, 15, 3⟩].all (fun a => hyp_glbSnapTrig_1 (dev.setReg R.GLB_SNAP_SEQ 0xFFFFFFFF) a)) = true ∧
    (hyp_notOwner (mk 31 1 2) 3 (ac 7) 16) = true ∧
    (hyp_cfgPass_1 {(mk 31 1) with cfg := {dev.cfg with sealed := true}} 5 0) = true :=
  by decide +kernel

end W65
/-! ## Watchdogs, monitors and power -/

namespace W66

def envBad : BootEnv := { fusesOk := true, refclk := true, flashOk := true, slotA := ⟨[], true, true, [1,2,3], [], []⟩, slotB := ⟨[], true, true, [], [], []⟩, fixedOk := true, hardyCheckerFail := 0, contentFail := 0, temperFail := 0, anvFail := 0, enginesFail := 0, coresFail := 0, unitsFail := 0, bodiesBad := [] }
def puts (l : List (Nat × List Byte)) (b : List Byte) : List Byte := l.foldl (fun b e => b.take e.1 ++ e.2 ++ b.drop (e.1 + e.2.length)) b
def hdr (ver : Nat) : List Byte := puts [(0, leBytes 4 0x42385853), (4, leBytes 2 1), (7, [0xB0]), (8, leBytes 4 ver), (12, leBytes 2 3), (0x80, [1]), (0xC0, [2]), (0x100, [3]), (0x480, [4])] (List.replicate 1536 0)
def rec (ty : Nat) (d : List Byte) : List Byte := leBytes 2 ty ++ leBytes 2 d.length ++ d
def bcfg : List Byte := rec 1 (puts [(0, [1]), (8, [0xFF])] (List.replicate 16 0)) ++ rec 2 (puts [(0, leBytes 2 3200), (4, [1]), (5, [8])] (List.replicate 16 0)) ++ rec 3 (puts [(1, [1]), (14, leBytes 2 0)] (List.replicate 32 0)) ++ [0, 0]
def slA : FlashSlot := ⟨hdr 5, true, true, [1,2,3], bcfg, []⟩
def envOk : BootEnv := { envBad with slotA := slA }
def hr : State := dev
def kn (k : List Nat) (w : List Nat) : State := let s := {dev with time := 100000000, locks := dev.locks.set 3 ⟨.master 1, [2,16], []⟩}; {s with boot := {s.boot with step := 15, knabyTimes := k, warm4Times := w, limpOnEscalate := true}}
def kd : State := let s := kn [3] []; {s with boot := {s.boot with knabyDown := true}}
def hd1 : State := after .lockstepMismatch (kn [] [])
def pw (f : Power → Power) : State := {dev with power := f {dev.power with sources := 0x3F, alarm := 5}}
def hyp_knabyWatchdog_1 (s : State) (core : Fin 2) : Bool :=
  decide (s.safe = true) && decide (s.knabyAlive = true) && decide (s.hearthRuns = true)
def hyp_quenchOverdue_1 (s : State) (n : Fin 16) : Bool :=
  decide (s.safe = true) && decide (s.knabyAlive = true) && decide (s.hearthRuns = true) &&
    decide ((s.slice n.val).qstat.busy = true)
def hyp_knabyRestart_1 (s : State) : Bool :=
  decide (s.safe = true) && decide (s.boot.sealedOnce = true) && decide (s.boot.failed = false) &&
    decide (s.boot.knabyStopped = false) && decide (s.hearthRuns = true) && decide (s.power.st < 2) &&
    decide (s.boot.warmStep = 0) && decide (s.boot.rstPend / 4 % 2 = 0) && decide (s.boot.knabyDown = true) &&
    decide (s.settled) && decide (s.cfg.restore = [])
def hyp_lockstepDiffers_1 (s : State) : Bool :=
  decide (s.safe = true)
def hyp_hearthResume_1 (s : State) : Bool :=
  decide (s.safe = true) && decide (s.boot.hearthDown = true) && decide (s.pair.role = .solo)
def hyp_clockMonitor_1 (s : State) (refclk hrt : Bool) (bad : BitVec 16) : Bool :=
  decide (s.safe = true) && decide (s.hearthRuns = true) && decide (s.boot.waitRefclk = false)
def hyp_supplyTrip_1 (s : State) (bad : BitVec 12) : Bool :=
  decide (s.safe = true) && decide (s.hearthRuns = true)
def hyp_tempPoll_1 (s : State) (t0 t1 t2 t3 : Int) : Bool :=
  decide (s.safe = true) && decide (s.hearthRuns = true)
def hyp_avsTarget_1 (s : State) (v : Fin 35) : Bool :=
  decide (s.safe = true) && decide (s.hearthRuns = true)
def hyp_avsStep_1 (s : State) (ack : Bool) (read : BitVec 10) : Bool :=
  decide (s.safe = true) && decide (s.hearthRuns = true) && decide (s.fld R.HRT_AVS 0 10 ≠ s.boot.avsMv)
def hyp_mainPgTimeout_1 (s : State) : Bool :=
  decide (s.safe = true) && decide (s.boot.mainEn = true) && decide (s.boot.mainPg = false)
def hyp_wakeEvent_1 (s : State) (mask : BitVec 6) (group : Fin 8) : Bool :=
  decide (s.safe = true) && decide (s.pair.role = .solo)
def hyp_dampLinksReady_1 (s : State) : Bool :=
  decide (s.safe = true)
def hyp_powerExitDone_1 (s : State) : Bool :=
  decide (s.safe = true) && decide (s.power.exiting = true) && decide (s.settled) && decide (s.pair.role = .solo) &&
    decide (s.pair.completions = [])
def hyp_powerRestoreDone_1 (s : State) (e : BootEnv) : Bool :=
  decide (s.safe = true) && decide (s.power.restoring = true) && decide (s.settled)
/-- States and operands that meet the hypotheses of every clause of `Obligations.WatchdogsMonitorsAndPower`. -/
theorem witness_WatchdogsMonitorsAndPower :
    ([kn [] [], kn [99000000,98000000,5] [], kn [99000000,98000000,5] [1]].all (fun s => hyp_knabyWatchdog_1 s 1)) = true ∧
    ([kn [] [], kn [99000000,98000000,5] [], kn [99000000,98000000,5] [1]].all (fun s => hyp_quenchOverdue_1 (s.modSlice 2 (fun x => {x with qstat := {x.qstat with busy := true}})) 2)) = true ∧
    (hyp_knabyRestart_1 kd) = true ∧
    ((hyp_lockstepDiffers_1 (kn [] []) && hyp_lockstepDiffers_1 dev && hyp_lockstepDiffers_1 {(kn [] []).setReg R.ULX_HOLD 0x305 with pair := {dev.pair with role := .active}})) = true ∧
    (hyp_hearthResume_1 hd1) = true ∧
    ([true, false].all (fun r => [true].all (fun h => [0].all (fun b => hyp_clockMonitor_1 (kn [] []) r h b)))) = true ∧
    (hyp_clockMonitor_1 {kn [] [] with boot := {(kn [] []).boot with clockBad := 3}} true true 3) = true ∧
    ([0, 1, 0x800].all (fun b => hyp_supplyTrip_1 (kn [] []) b)) = true ∧
    ((hyp_tempPoll_1 (kn [] []) 105 126 (-5) 99 && hyp_tempPoll_1 (kn [] []) 105 105 (-5) 99)) = true ∧
    (hyp_avsTarget_1 (kn [] []) 34) = true ∧
    ([true, false].all (fun a => hyp_avsStep_1 ((kn [] []).setFld R.HRT_AVS 0 10 680) a 700)) = true ∧
    (hyp_avsStep_1 ((kn [] []).setFld R.HRT_AVS 0 10 803) true 700) = true ∧
    (hyp_mainPgTimeout_1 {dev with boot := {dev.boot with mainEn := true, mainPg := false}}) = true ∧
    ([pw id, pw (fun p => {p with st := 3, exiting := true}), pw (fun p => {p with st := 5, alarm := 0})].all (fun s => [0].all (fun m => hyp_wakeEvent_1 s m 3))) = true ∧
    ([pw id, pw (fun p => {p with step := 2, entering := true}), pw (fun p => {p with step := 2, entering := true, heldWake := some (1, 3)})].all (fun s => hyp_dampLinksReady_1 s)) = true ∧
    ([pw (fun p => {p with step := 2, entering := true})].all (fun s => hyp_dampLinksReady_1 (s.modOu 1 (fun o => {o with enabled := true})))) = true ∧
    ([1, 3, 5].all (fun k => hyp_powerExitDone_1 (pw (fun p => {p with st := k, exiting := true})))) = true ∧
    ([1, 2].all (fun k => hyp_powerRestoreDone_1 (pw (fun p => {p with restoring := true, resState := k})) envBad)) = true ∧
    (hyp_powerRestoreDone_1 (pw (fun p => {p with restoring := true, resState := 3})) {envBad with temperFail := 2}) = true ∧
    (hyp_powerRestoreDone_1 {State.reset with power := {Power.reset with restoring := true, resState := 5}} envOk) = true ∧
    (hyp_powerRestoreDone_1 {State.reset with power := {Power.reset with restoring := true, resState := 5}} {envOk with fusesOk := false}) = true :=
  by decide +kernel

end W66
/-! ## Resets -/

namespace W67

def envBad : BootEnv := { fusesOk := true, refclk := true, flashOk := true, slotA := ⟨[], true, true, [1,2,3], [], []⟩, slotB := ⟨[], true, true, [], [], []⟩, fixedOk := true, hardyCheckerFail := 0, contentFail := 0, temperFail := 0, anvFail := 0, enginesFail := 0, coresFail := 0, unitsFail := 0, bodiesBad := [] }
def puts (l : List (Nat × List Byte)) (b : List Byte) : List Byte := l.foldl (fun b e => b.take e.1 ++ e.2 ++ b.drop (e.1 + e.2.length)) b
def hdr (ver : Nat) : List Byte := puts [(0, leBytes 4 0x42385853), (4, leBytes 2 1), (7, [0xB0]), (8, leBytes 4 ver), (12, leBytes 2 3), (0x80, [1]), (0xC0, [2]), (0x100, [3]), (0x480, [4])] (List.replicate 1536 0)
def rec (ty : Nat) (d : List Byte) : List Byte := leBytes 2 ty ++ leBytes 2 d.length ++ d
def bcfg : List Byte := rec 1 (puts [(0, [1]), (8, [0xFF])] (List.replicate 16 0)) ++ rec 2 (puts [(0, leBytes 2 3200), (4, [1]), (5, [8])] (List.replicate 16 0)) ++ rec 3 (puts [(1, [1]), (14, leBytes 2 0)] (List.replicate 32 0)) ++ [0, 0]
def slA : FlashSlot := ⟨hdr 5, true, true, [1,2,3], bcfg, []⟩
def envOk : BootEnv := { envBad with slotA := slA }
def hr : State := dev
def kn (k : List Nat) (w : List Nat) : State := let s := {dev with time := 100000000, locks := dev.locks.set 3 ⟨.master 1, [2,16], []⟩}; {s with boot := {s.boot with step := 15, knabyTimes := k, warm4Times := w, limpOnEscalate := true, env := some envOk}}
def rl (pg : Bool) : State := let t := after .resetN dev; {t with boot := {t.boot with mainPg := pg}}
def mp : State := {dev with boot := {dev.boot with mainEn := true, mainPg := true}}
def mf : State := after .mainPgFall mp
def jb : State := {(kn [] []).modSlice 1 (fun x => {x with inHand := .fence ⟨0,0,0,0,0,0,0,0,0,0,[]⟩ 32}) with chans := dev.chans.set 4 ⟨[[1,2,3,4]], 5, [7,8,9], false, false, false, 3⟩}
def wm (c : Nat) : State := let s := (kn [] []).mainReset c; {s with boot := {s.boot with warmLow := c == 2}}
def rp (p : Nat) : State := {kn [] [7] with boot := {(kn [] [7]).boot with rstPend := p}}
def hyp_powerOnReset_1 (s : State) (e : BootEnv) (pg : Bool) : Bool :=
  decide (s.safe = true)
def hyp_resetN_1 (s : State) : Bool :=
  decide (s.safe = true)
def hyp_resetNRelease_1 (s : State) (e : BootEnv) : Bool :=
  decide (s.safe = true) && decide (s.boot.resetLow = true)
def hyp_resetNRelease_2 (s : State) (e : BootEnv) : Bool :=
  decide (s.safe = true) && decide (s.boot.resetLow = false)
def hyp_mainPgFall_1 (s : State) : Bool :=
  decide (s.safe = true) && decide (s.boot.mainEn = true) && decide (s.boot.mainPg = true)
def hyp_mainPgFall_2 (s : State) : Bool :=
  decide (s.safe = true) && decide ((s.boot.mainEn && s.boot.mainPg) = false)
def hyp_mainPgRise_1 (s : State) (e : BootEnv) : Bool :=
  decide (s.safe = true) && decide (s.boot.mainEn = true) && decide (s.boot.mainPg = false)
def hyp_warmN_1 (s : State) : Bool :=
  decide (s.safe = true)
def hyp_warmNRelease_1 (s : State) (e : BootEnv) : Bool :=
  decide (s.safe = true) && decide (s.boot.hearthDown = false) && decide (s.boot.failed = false)
def hyp_rstCtrlKnaby_1 (s : State) (a : Access) : Bool :=
  decide (s.regReach a R.RST_CTRL) && decide (a.data.toNat < 4)
def hyp_rstCtrlWarm_1 (s : State) (a : Access) : Bool :=
  decide (s.regReach a R.RST_CTRL) && decide (a.data.toNat < 4)
def hyp_warmReset_1 (s : State) (e : BootEnv) : Bool :=
  decide (s.safe = true) && decide (s.boot.hearthDown = false) && decide (s.boot.failed = false) &&
    decide (s.boot.warmLow = false)
def hyp_blockReset_1 (s : State) (a : Access) : Bool :=
  decide (s.regReach a R.RST_BLK) && decide (a.data.toNat < 128) && decide (s.boot.rstBlk = 0)
/-- States and operands that meet the hypotheses of every clause of `Obligations.ResetRows`. -/
theorem witness_ResetRows :
    ([envOk, envBad, {envOk with refclk := false}].all (fun e => hyp_powerOnReset_1 dev e true)) = true ∧
    (hyp_powerOnReset_1 (dev.setFlag R.HRT_AVS 20 true) envOk false) = true ∧
    (hyp_resetN_1 (dev.setFlag R.HRT_AVS 20 true)) = true ∧
    (hyp_resetN_1 (dev.slagErr 3 4 5)) = true ∧
    ([true, false].all (fun pg => hyp_resetNRelease_1 (rl pg) envOk)) = true ∧
    (hyp_resetNRelease_2 dev envOk) = true ∧
    ((hyp_mainPgFall_1 mp && hyp_mainPgFall_1 (mp.setFlag R.HRT_AVS 20 true))) = true ∧
    (hyp_mainPgFall_2 dev) = true ∧
    ((hyp_mainPgRise_1 mf envOk && hyp_mainPgRise_1 {mf with boot := {mf.boot with resetLow := true}} envOk && hyp_mainPgRise_1 {mf with boot := {mf.boot with pgHold := false}} envBad)) = true ∧
    ([jb, {dev with power := {dev.power with st := 3}}, {dev with boot := {dev.boot with warmStep := 2}}].all (fun s => hyp_warmN_1 s)) = true ∧
    ([envOk, {envOk with fixedOk := false}, {envOk with coresFail := 5, unitsFail := 3, enginesFail := 1}].all (fun e => hyp_warmNRelease_1 (wm 2) e)) = true ∧
    (hyp_warmNRelease_1 dev envOk) = true ∧
    ([0, 2, 3].all (fun v => hyp_rstCtrlKnaby_1 dev ⟨.port 0, 15, v⟩)) = true ∧
    ([0, 2, 3].all (fun v => hyp_rstCtrlWarm_1 dev ⟨.port 0, 15, v⟩)) = true ∧
    ([rp 0, rp 3, wm 3].all (fun s => hyp_warmReset_1 s envOk)) = true ∧
    ([0, 8, 127].all (fun v => hyp_blockReset_1 {(kn [] []) with net := {dev.net with billetQ := [⟨⟨1, 2, 3, 4⟩, []⟩]}} ⟨.port 0, 15, v⟩)) = true ∧
    (hyp_blockReset_1 (wm 3) ⟨.port 0, 15, 5⟩) = true :=
  by decide +kernel

end W67
/-! ## Ill-formed commands are refused -/

/-- A header with nothing in it. -/
def hdr0 : BilletHdr := ⟨0, 0, 0, 0, 0, 0⟩

theorem test_wf_payload : (Instr.nop ⟨0, hdr0, List.replicate 4065 0⟩).wf = false ∧ (Instr.nop ⟨0, hdr0, List.replicate 4064 0⟩).wf = true := by
  decide +kernel
theorem test_wf_fetch : (Instr.billetFetch 0 (List.replicate 4095 0)).wf = false := by decide +kernel
theorem test_wf_journal : (Instr.journal ⟨0, 0, true⟩ 0 ⟨0, 4, 0, 0, 0, 0, 0, 0, 0, 0, [1]⟩ none ⟨0, 0, 0, false, false, 0, 0⟩).wf = false := by
  decide +kernel
theorem test_wf_env : (Instr.powerOnReset { W67.envOk with slotB := ⟨[], true, true, [], [], []⟩ } true).wf = false := by decide +kernel
theorem test_wf_pins : (Instr.audSample ⟨[], [[], [], [], []]⟩ [] 0).wf = false ∧ (Instr.audSample ⟨List.replicate 8 0, []⟩ [] 0).wf = false := by
  decide +kernel
theorem test_wf_scan : (Instr.touchScan 0 (List.replicate 11 0)).wf = false := by decide +kernel
theorem test_wf_reply : (Instr.auxReply 0 0 (List.replicate 17 0)).wf = false := by decide +kernel
theorem test_wf_state : (StPart.slice 16 Slice.reset).wf = false ∧ (StPart.slice 0 Slice.reset).wf = true ∧ (StPart.compose [] [] []).wf = false ∧
    (StPart.output 8 false false none ⟨[], [], [], [], false⟩ none 0 0).wf = false ∧ (StPart.hardy 0 Hardy.reset [(1, 0)] []).wf = false ∧
    (StPart.limp [(2, 1), (1, 1)] (List.replicate 16 0)).wf = false ∧ (StPart.frames []).wf = false ∧
    (StPart.hmi [] State.reset.aud [] []).wf = false := by
  decide +kernel
theorem test_no_word : decodeTableWord 32 0xFFFFFFFF = none := by decide

/-! ## Worked examples of the spec -/

/-- "123456789". -/
def digits : List Byte := (List.range 9).map (fun k => BitVec.ofNat 8 (0x31 + k))

/-- R599: the check values of its table. -/
theorem test_check_values :
    (let c : CrcCfg := ⟨32, true, true, true, 0x1EDC6F41⟩; c.result (c.feed 0xFFFFFFFF digits) = 0xE3069283) ∧
    (let c : CrcCfg := ⟨16, false, false, false, 0x1021⟩; c.result (c.feed 0xFFFF digits) = 0x29B1) ∧
    (let c : CrcCfg := ⟨8, false, false, false, 7⟩; c.result (c.feed 0 digits) = 0xF4) ∧ crc32c digits = 0xE3069283 := by decide +kernel
/-- Its example of blending: straight, premultiplied, a plane alpha, and clamped. -/
theorem test_blend :
    blendPx 1 200 (unpack 6 0xC0FF8010) ⟨100, 512, 1023, 255⟩ = ⟨647, 513, 455, 255⟩ ∧
    blendPx 2 255 (unpack 6 0x80408000) ⟨800, 200, 1000, 255⟩ = ⟨655, 614, 498, 255⟩ ∧
    blendPx 2 100 (unpack 6 0x80408000) ⟨800, 200, 1000, 255⟩ = ⟨744, 363, 804, 255⟩ ∧
    blendPx 2 255 (unpack 6 0x10FF0000) ⟨1000, 0, 0, 255⟩ = ⟨1023, 0, 0, 255⟩ := by decide +kernel
/-- Its three-layer stack. -/
theorem test_stack :
    (blendPx 1 255 (unpack 3 0xA3F6) (blendPx 0 128 (unpack 1 0x8410) ⟨0, 0, 64, 255⟩)).word = 0x0E0C0574 := by decide +kernel
/-- Its upscaled pixel. -/
theorem test_scaler :
    scalePos 5 1280 1920 = 203 ∧ cubic 11 = [-241, 3824, 563, -50] ∧ tapCols 5 1280 1920 = [0, 1, 2, 3, 4, 5, 6, 7] ∧
    filter1 (cubic 0) (cubic 11) [2, 3, 4, 5] [0, 0, 0, 0] (fun c _ => 200 * c) 16368 1023 = 634 := by decide +kernel
/-- Its pixel through the colour pipeline. -/
theorem test_pipeline :
    (colourPipe 15 [3686, 410, 0, 205, 3686, 205, 0, 410, 3686, 0, 0, 0xFF8]
      [(279, 302 * 2 ^ 20), (722, 759 * 2 ^ 10), (404, 417)] 8 9006 601 301 ⟨224, 769, 372, 255⟩).word = 0x12CBE1A0 := by decide +kernel
/-- Its fragment into an ARGB8888 target. -/
theorem test_fragment : writeColour 6 1 0xF 0x802040C0 [0x3F400000, 0x3F000000, 0x3E800000, 0x3F19999A] = 0xCC7F6673 := by decide +kernel
/-- Its slider position. -/
theorem test_slider : touchPos false [10, 60, 240, 120, -5] = some 547 := by decide +kernel
/-- Its two talkers. -/
theorem test_talkers : talkerRsv 8 1 = 135 ∧ talkerRsv 8 2 = 166 := by decide +kernel
/-- The first of its six accesses. -/
theorem test_access_size :
    (after (.registerWrite 0x122008 ⟨.port 0, 3, 0⟩) dev).reg R.SLG_ACC = 0x00011001 ∧
    (after (.registerWrite 0x122008 ⟨.port 0, 3, 0⟩) dev).reg R.SLG_ACC_ADDR = 0x122008 := by decide +kernel
/-- The hypothesis of `Obligations.RegistersStayCanonical`, and a step. -/
theorem witness_RegistersStayCanonical :
    dev.regs.wf = true ∧ (match step { dev with pending := [.teReport 1] } with | .next t => t.pending == [] | _ => false) = true := by
  decide +kernel
end Sys2Proof.Tests
end

section
/-! SUPPORT. What the shared operations of slices and of host requests change and leave alone. -/
namespace Sys2Proof.Machine

/-! ## A command's end, and safe states -/

/-- A command whose meaning is one next state ends in it. -/
theorem Ends.of_next {c : Instr} {s t : State} {P : State → Prop} (h : exec c s = .next t) (ht : P t) : Ends c s P := ⟨t, h, ht⟩

/-- A statement that goes by a condition holds if it does in both cases. -/
theorem ite_of_cases {c : Prop} [Decidable c] {P Q : Prop} (hP : c → P) (hQ : ¬ c → Q) : if c then P else Q :=
  iteInduction (motive := fun p => p) hP hQ

theorem State.safe_slices_length {s : State} (h : s.safe = true) : s.slices.length = 16 := by
  simp only [State.safe, State.shape, Bool.and_eq_true, beq_iff_eq] at h
  simp only [h]

theorem State.safe_slice_lt {s : State} {n : Nat} (h : s.safe = true) (hn : n < 16) : n < s.slices.length := by
  rw [State.safe_slices_length h]
  exact hn

theorem State.safe_slots_length {s : State} {n : Nat} (h : s.safe = true) (hn : n < 16) : (s.slice n).slots.length = 64 := by
  have hlt := State.safe_slice_lt h hn
  have hall : s.slices.all (fun x => x.slots.length == 64) = true := by
    simp only [State.safe, State.shape, Bool.and_eq_true] at h
    simp only [h]
  have hm : s.slice n ∈ s.slices := by
    rw [State.slice, List.getD_eq_getElem?_getD, List.getElem?_eq_getElem hlt, Option.getD_some]
    exact List.getElem_mem hlt
  simpa using List.all_eq_true.mp hall _ hm

/-! ## Slices -/

/-- The number of slices stays. -/
@[simp] theorem State.modSlice_slices_length (s : State) (n : Nat) (f : Slice → Slice) :
    (s.modSlice n f).slices.length = s.slices.length := modAt_length _ _ _

/-- A slice after slice `n` has changed. -/
theorem State.slice_modSlice (s : State) (n k : Nat) (f : Slice → Slice) (h : n < s.slices.length) :
    (s.modSlice n f).slice k = if k = n then f (s.slice k) else s.slice k := by
  split
  · rename_i hk; subst hk; exact State.slice_modSlice_self s k f h
  · rename_i hk; exact State.slice_modSlice_other s n k f hk

/-- The entry of `q'` after a change of the entry of `q` that keeps SEQ. -/
theorem Slice.entry_modEntry (x : Slice) (q q' : Word) (f : JEntry → JEntry) (hf : ∀ e, (f e).seq = e.seq) :
    (x.modEntry q f).entry q' = (x.entry q').map (fun e => if e.seq == q then f e else e) := by
  have hp : ((fun e : JEntry => e.seq == q') ∘ fun e => if e.seq == q then f e else e) = fun e => e.seq == q' := by
    funext e
    by_cases h : e.seq = q <;> simp [h, hf]
  simp only [Slice.entry, Slice.modEntry, List.find?_map, hp]

/-! ## Host requests -/

/-- Nothing changes from `s` to `t` but the ports, what is sent, and the slices' device-write logs. -/
structure HostOnly (s t : State) : Prop where
  rest : t = { s with out := t.out, ports := t.ports, slices := t.slices }
  length : t.slices.length = s.slices.length
  slice : ∀ k, t.slice k = { s.slice k with dirty := (t.slice k).dirty }

namespace HostOnly

theorem refl (s : State) : HostOnly s s := ⟨rfl, rfl, fun _ => rfl⟩

theorem trans {s t u : State} (h : HostOnly s t) (g : HostOnly t u) : HostOnly s u where
  rest := by rw [g.rest, h.rest]
  length := g.length.trans h.length
  slice k := by rw [g.slice k, h.slice k]

theorem regs {s t : State} (h : HostOnly s t) : t.regs = s.regs := by rw [h.rest]
theorem net {s t : State} (h : HostOnly s t) : t.net = s.net := by rw [h.rest]
theorem pair {s t : State} (h : HostOnly s t) : t.pair = s.pair := by rw [h.rest]
theorem binding {s t : State} (h : HostOnly s t) (k : Nat) : (t.slice k).binding = (s.slice k).binding := by rw [h.slice k]

/-- What is the same in two states stays so after a change of slice `n` that has no part in the log. -/
theorem modSlice {s t : State} (h : HostOnly s t) (n : Nat) (f : Slice → Slice) (hn : n < s.slices.length)
    (hf : ∀ x d, f { x with dirty := d } = { f x with dirty := d }) : HostOnly (s.modSlice n f) (t.modSlice n f) where
  rest := by rw [State.modSlice, h.rest]; rfl
  length := by simp [h.length]
  slice k := by
    rw [State.slice_modSlice _ _ _ _ (h.length ▸ hn), State.slice_modSlice _ _ _ _ hn]
    split
    · rw [h.slice k, hf]
    · exact h.slice k

end HostOnly

theorem hostOnly_modPort (s : State) (p : Nat) (f : PciPort → PciPort) : HostOnly s (s.modPort p f) := ⟨rfl, rfl, fun _ => rfl⟩

theorem hostOnly_emit (s : State) (e : OutEv) : HostOnly s (s.emit e) := ⟨rfl, rfl, fun _ => rfl⟩

theorem hostOnly_issueReq (s : State) (p : Nat) (r : HostReq) : HostOnly s (s.issueReq p r) := by
  cases r with
  | mem pasid a d =>
    refine ⟨rfl, by simp [State.issueReq], fun k => ?_⟩
    simp only [State.issueReq, State.slice, List.getD_eq_getElem?_getD, List.getElem?_map]
    cases s.slices[k]? with
    | none => rfl
    | some x =>
      simp only [Option.map_some, Option.getD_some]
      split
      · split <;> rfl
      · rfl
  | flush pasid a d => exact hostOnly_emit _ _
  | msi e =>
    simp only [State.issueReq]
    split
    · exact hostOnly_modPort _ _ _
    · exact hostOnly_emit _ _

theorem hostOnly_request (s : State) (p : Nat) (r : HostReq) : HostOnly s (s.request p r) := by
  simp only [State.request]
  split
  · exact hostOnly_modPort _ _ _
  · exact hostOnly_issueReq _ _ _

theorem hostOnly_hostWrite (s : State) (n a : Nat) (d : List Byte) : HostOnly s (s.hostWrite n a d) := by
  unfold State.hostWrite
  split
  · split
    · exact hostOnly_request _ _ _
    · exact .refl s
  · exact .refl s

theorem hostOnly_irq (s : State) (n k : Nat) : HostOnly s (s.irq n k) := by
  unfold State.irq
  split
  · simp only
    split
    · exact hostOnly_modPort _ _ _
    · split
      · exact .refl s
      · exact hostOnly_request _ _ _
  · exact .refl s

/-- An interrupt sends after what has been sent. -/
theorem out_suffix_irq (s : State) (n k : Nat) : s.out <:+ (s.irq n k).out := by
  unfold State.irq State.request State.issueReq
  split
  · simp only
    split
    · exact List.suffix_rfl
    · split
      · exact List.suffix_rfl
      · split
        · exact List.suffix_rfl
        · exact List.suffix_cons _ _
  · exact List.suffix_rfl

/-- A port that holds nothing back sends a write at once (R566). -/
theorem State.hostWrite_free {s : State} {n p : Nat} {id : BitVec 20} (a : Nat) (d : List Byte) (hl : s.leads = true)
    (hb : (s.slice n).binding = .pcie p id) (hh : (s.port p).holds = false) (hq : (s.port p).held = []) :
    (s.hostWrite n a d).out = .hostWrite p id a d :: s.out ∧ (s.hostWrite n a d).ports = s.ports := by
  simp [State.hostWrite, hb, hl, State.request, hh, hq, State.issueReq]

/-! ## Replies -/

/-- A slice that has been answered: the ring advances, or the record waits for its datagram (R46, R51). -/
def Slice.replied (x : Slice) (r : Reply) : Slice :=
  match x.binding with
  | .pcie _ _ => { x with rqTail := x.rqTail + 1, sqHead := x.sqHead + 1 }
  | .eth _ => { x with udpOut := x.udpOut ++ [r] }
  | .unbound => x

/-- Two changes of slice `n` that agree on it are the same. -/
theorem State.modSlice_congr (s : State) (n : Nat) (f g : Slice → Slice) (h : f (s.slice n) = g (s.slice n)) :
    s.modSlice n f = s.modSlice n g := by
  have hl : modAt s.slices n f = modAt s.slices n g := by
    refine List.ext_getElem? fun j => ?_
    rw [modAt_getElem?, modAt_getElem?]
    split
    · rename_i hj
      subst hj
      cases hx : s.slices[j]? with
      | none => rfl
      | some x => simpa [State.slice, List.getD_eq_getElem?_getD, hx] using h
    · rfl
  rw [State.modSlice, State.modSlice, hl]

/-- A change that leaves slice `n` as it is changes nothing. -/
theorem State.modSlice_eq_self (s : State) (n : Nat) (f : Slice → Slice) (h : f (s.slice n) = s.slice n) : s.modSlice n f = s := by
  have hid : modAt s.slices n (fun x => x) = s.slices := by
    refine List.ext_getElem? fun j => ?_
    rw [modAt_getElem?]
    split <;> simp
  rw [State.modSlice_congr s n f (fun x => x) h, State.modSlice, hid]

section Reply
variable {s : State} {n : Nat} (r : Reply) (irq : Bool) (hs : s.pair.role = .solo)
include hs

theorem State.leads_of_solo : s.leads = true := by simp [State.leads, hs]

theorem State.putReply_eth {id : NetId} (hb : (s.slice n).binding = .eth id) :
    s.putReply n r irq = s.modSlice n (fun x => { x with udpOut := x.udpOut ++ [r] }) := by
  simp [State.putReply, State.leads_of_solo hs, hs, hb]

theorem State.putReply_unbound (hb : (s.slice n).binding = .unbound) : s.putReply n r irq = s := by
  simp [State.putReply, State.leads_of_solo hs, hs, hb]

/-- The order of a reply's writes: the record, the counts, the tail's shadow, the interrupt. -/
theorem State.putReply_pcie {p : Nat} {id : BitVec 20} (hb : (s.slice n).binding = .pcie p id) :
    s.putReply n r irq =
      let x := s.slice n
      let s1 := s.hostWrite n (x.rqBase.toNat + 16 * (x.rqTail.toNat % 256)) r.bytes
      let s2 := s1.modSlice n (fun y => { y with rqTail := x.rqTail + 1, sqHead := y.sqHead + 1 })
      let s3 := s2.hostWrite n (x.rqBase.toNat + 0x1000) (leBytes 4 (x.rqTail + 1).toNat)
      if irq then s3.irq n 0 else s3 := by
  simp [State.putReply, State.leads_of_solo hs, hs, hb]

/-- A reply of a SOLO device changes its slice as `Slice.replied` says, and the host sees the rest. -/
theorem hostOnly_putReply (hn : n < s.slices.length) :
    HostOnly (s.modSlice n (fun x => x.replied r)) (s.putReply n r irq) := by
  cases hb : (s.slice n).binding with
  | unbound =>
    rw [State.putReply_unbound r irq hs hb, State.modSlice_eq_self s n _ (by simp [Slice.replied, hb])]
    exact .refl s
  | eth id =>
    rw [State.putReply_eth r irq hs hb, State.modSlice_congr s n _ (fun x => { x with udpOut := x.udpOut ++ [r] })
      (by simp only [Slice.replied, hb])]
    exact .refl _
  | pcie p id =>
    rw [State.putReply_pcie r irq hs hb,
      State.modSlice_congr s n _ (fun y => { y with rqTail := (s.slice n).rqTail + 1, sqHead := y.sqHead + 1 })
        (by simp only [Slice.replied, hb])]
    have h3 := ((hostOnly_hostWrite s n ((s.slice n).rqBase.toNat + 16 * ((s.slice n).rqTail.toNat % 256)) r.bytes).modSlice n
      (fun y => { y with rqTail := (s.slice n).rqTail + 1, sqHead := y.sqHead + 1 }) hn (fun _ _ => rfl)).trans
      (hostOnly_hostWrite _ n ((s.slice n).rqBase.toNat + 0x1000) (leBytes 4 ((s.slice n).rqTail + 1).toNat))
    cases irq with
    | false => exact h3
    | true => exact h3.trans (hostOnly_irq _ _ _)

/-- The record and the tail of a reply to a port that holds nothing back are written in this order (R43, R46, R48). -/
theorem State.replyWrites_suffix {p : Nat} {id : BitVec 20} (hn : n < s.slices.length)
    (hb : (s.slice n).binding = .pcie p id) (hh : (s.port p).holds = false) (hq : (s.port p).held = []) :
    (s.replyWrites n r ++ s.out) <:+ (s.putReply n r irq).out := by
  rw [State.putReply_pcie r irq hs hb]
  dsimp only
  obtain ⟨ho1, hp1⟩ := State.hostWrite_free ((s.slice n).rqBase.toNat + 16 * ((s.slice n).rqTail.toNat % 256)) r.bytes
    (State.leads_of_solo hs) hb hh hq
  have h1 := hostOnly_hostWrite s n ((s.slice n).rqBase.toNat + 16 * ((s.slice n).rqTail.toNat % 256)) r.bytes
  have hw : s.replyWrites n r = [.hostWrite p id ((s.slice n).rqBase.toNat + 0x1000) (leBytes 4 ((s.slice n).rqTail + 1).toNat),
      .hostWrite p id ((s.slice n).rqBase.toNat + 16 * ((s.slice n).rqTail.toNat % 256)) r.bytes] := by
    simp [State.replyWrites, Binding.portId, hb]
  generalize s.hostWrite n ((s.slice n).rqBase.toNat + 16 * ((s.slice n).rqTail.toNat % 256)) r.bytes = s1 at *
  obtain ⟨ho3, -⟩ := State.hostWrite_free (p := p) (id := id)
    (s := s1.modSlice n (fun y => { y with rqTail := (s.slice n).rqTail + 1, sqHead := y.sqHead + 1 }))
    ((s.slice n).rqBase.toNat + 0x1000) (leBytes 4 ((s.slice n).rqTail + 1).toNat) (n := n)
    (State.leads_of_solo (by simpa [h1.pair] using hs))
    (by rw [State.slice_modSlice_self _ _ _ (h1.length ▸ hn)]; exact (h1.binding n).trans hb)
    (by simpa [State.port, hp1] using hh) (by simpa [State.port, hp1] using hq)
  rw [State.modSlice_out, ho1] at ho3
  rw [hw, List.cons_append, List.cons_append, List.nil_append, ← ho3]
  cases irq with
  | false => exact List.suffix_rfl
  | true => exact out_suffix_irq _ _ _

/-- The reply of a slice whose port holds nothing back is the reply `r` of `s0`, from which the slice's ring, the ports and what
has been sent have not changed. -/
theorem answered_putReply {s0 : State} {p : Nat} {id : BitVec 20} (hn : n < s.slices.length)
    (hb : (s0.slice n).binding = .pcie p id) (hh : (s0.port p).holds = false) (hq : (s0.port p).held = [])
    (hout : s.out = s0.out) (hports : s.ports = s0.ports) (hbind : (s.slice n).binding = (s0.slice n).binding)
    (hbase : (s.slice n).rqBase = (s0.slice n).rqBase) (htail : (s.slice n).rqTail = (s0.slice n).rqTail)
    (hhead : (s.slice n).sqHead = (s0.slice n).sqHead) : Answered s0 (s.putReply n r irq) n r := by
  have hport : s.port p = s0.port p := by simp [State.port, hports]
  have hx := (hostOnly_putReply r irq hs hn).slice n
  rw [State.slice_modSlice_self _ _ _ hn] at hx
  have hb' := hbind.trans hb
  have hw : s.replyWrites n r = s0.replyWrites n r := by simp [State.replyWrites, hbind, hbase, htail]
  refine ⟨?_, ?_, ?_⟩
  · rw [List.isSuffixOf_iff_suffix, ← hw, ← hout]
    exact State.replyWrites_suffix r irq hs hn hb' (hport ▸ hh) (hport ▸ hq)
  · rw [hx, Slice.replied, hb', ← htail]
  · rw [hx, Slice.replied, hb', ← hhead]

end Reply

end Sys2Proof.Machine
end

section
/-! SUPPORT. The checks of R53, one equation per judgement, and what becomes of a billet that is rejected or accepted. -/
namespace Sys2Proof.Machine

/-! ## The checks of R53 -/

/-- No check of steps 0 to 15 fails when `firstFail` names none. -/
theorem firstFail_eq_none {l : List Chk} (h : firstFail l = none) {c : Chk} (hc : c ∈ l) (hs : c.step < 16) : c.bad = false := by
  have hf := List.findSome?_eq_none_iff.mp h c.step (List.mem_range.mpr hs)
  rw [Option.map_eq_none_iff, List.find?_eq_none] at hf
  simpa using hf c hc

/-- The header checks of step 3 in their order. -/
theorem formatFault_eq (m : BilletMsg) : formatFault m =
    if m.flags.toNat / 8 ≠ 0 then some 0x0C
    else if m.group ≠ 0 ∧ (opOf m.opcode).all (!·.takesG) = true then some 0x0E
    else if m.deadline ≠ 0 ∧ (opOf m.opcode).all (!·.takesD) = true then some 0x10
    else if m.res14 ≠ 0 then some 0x14
    else if m.res18 ≠ 0 then some 0x18
    else none := by
  cases h : opOf m.opcode <;> simp [formatFault, h]

/-- A statement that goes by the header checks of step 3 goes by `formatFault`. -/
theorem formatFault_cases {m : BilletMsg} {P : Nat → Prop} {Q : Prop} (hP : ∀ o, formatFault m = some o → P o)
    (hQ : formatFault m = none → Q) :
    if m.flags.toNat / 8 ≠ 0 then P 0x0C
    else if m.group ≠ 0 ∧ (opOf m.opcode).all (!·.takesG) = true then P 0x0E
    else if m.deadline ≠ 0 ∧ (opOf m.opcode).all (!·.takesD) = true then P 0x10
    else if m.res14 ≠ 0 then P 0x14
    else if m.res18 ≠ 0 then P 0x18
    else Q := by
  rw [formatFault_eq] at hQ
  simp only [formatFault_eq] at hP
  refine ite_of_cases (fun h1 => hP _ (if_pos h1)) fun h1 => ?_
  simp only [if_neg h1] at hP hQ
  refine ite_of_cases (fun h2 => hP _ (if_pos h2)) fun h2 => ?_
  simp only [if_neg h2] at hP hQ
  refine ite_of_cases (fun h3 => hP _ (if_pos h3)) fun h3 => ?_
  simp only [if_neg h3] at hP hQ
  refine ite_of_cases (fun h4 => hP _ (if_pos h4)) fun h4 => ?_
  simp only [if_neg h4] at hP hQ
  exact ite_of_cases (fun h5 => hP _ (if_pos h5)) fun h5 => hQ (if_neg h5)

section Judge
variable {s : State} {n len : Nat} {m : BilletMsg} {v : Bool}

theorem State.judgeBillet_length (h : len ≠ 32 + m.length.toNat) : s.judgeBillet n m len v = .reject E_LENGTH len := by
  simp [State.judgeBillet, h]

variable (hlen : len = 32 + m.length.toNat)
include hlen

theorem State.judgeBillet_long (h : 4064 < m.length.toNat) :
    s.judgeBillet n m len v = .reject E_LENGTH m.length.toNat := by
  simp [State.judgeBillet, hlen, h]

variable (h1 : ¬ 4064 < m.length.toNat)
include h1

theorem State.judgeBillet_check (h : m.check ≠ billetCrc m n) : s.judgeBillet n m len v = .reject E_CHECK 0 := by
  simp [State.judgeBillet, hlen, h1, h]

variable (h2 : m.check = billetCrc m n)
include h2

theorem State.judgeBillet_format {o : Nat} (h : formatFault m = some o) : s.judgeBillet n m len v = .reject E_FORMAT o := by
  simp [State.judgeBillet, hlen, h1, ← h2, h]

variable (h3 : formatFault m = none)
include h3

theorem State.judgeBillet_gap (h : 0 < sdiff m.seq (s.slice n).nextSeq) :
    s.judgeBillet n m len v = .reject E_SEQ_GAP (s.slice n).nextSeq.toNat := by
  simp [State.judgeBillet, hlen, h1, ← h2, h3, h]

/-- A SEQ behind the window of 256, or one that the journal no longer holds (R57). -/
theorem State.judgeBillet_old (h : sdiff m.seq (s.slice n).nextSeq < 0)
    (ho : (if sdiff m.seq (s.slice n).nextSeq < -256 then none else (s.slice n).entry m.seq) = none) :
    s.judgeBillet n m len v = .reject E_SEQ_OLD (s.slice n).nextSeq.toNat := by
  simp only [State.judgeBillet, hlen, h1, ← h2, h3, h, Int.not_lt.mpr (Int.le_of_lt h), ho]
  simp

/-- A SEQ that the journal holds is a repetition or a reuse (R57). -/
theorem State.judgeBillet_held {e : JEntry} (h : sdiff m.seq (s.slice n).nextSeq < 0)
    (ho : (if sdiff m.seq (s.slice n).nextSeq < -256 then none else (s.slice n).entry m.seq) = some e) :
    s.judgeBillet n m len v =
      if e.check = m.check then .dup { e.reply with dup := true } else .reject E_SEQ_REUSE 0 := by
  simp only [State.judgeBillet, hlen, h1, ← h2, h3, h, Int.not_lt.mpr (Int.le_of_lt h), ho]
  simp

theorem State.judgeBillet_opcode (h4 : ¬ 0 < sdiff m.seq (s.slice n).nextSeq) (h5 : ¬ sdiff m.seq (s.slice n).nextSeq < 0)
    (hf : m.flags.getLsbD 2 = false ∨ (s.slice n).openCount = 0) (h : (opOf m.opcode).isNone = true) :
    s.judgeBillet n m len v = .reject E_OPCODE 0 := by
  have hw : (m.flags.getLsbD 2 && (s.slice n).openCount != 0) = false := by
    rcases hf with hf | hf
    · rw [hf, Bool.false_and]
    · simp [hf]
  simp only [State.judgeBillet, hlen, h1, ← h2, h3, h4, h5, hw, Option.isNone_iff_eq_none.mp h]
  simp

end Judge

/-- A billet that passes the checks has a free slot if it asks for one (R53 step 14). -/
theorem State.freeSlot_of_checks {s p : State} {n : Nat} {m : BilletMsg} {d : OpDef}
    (h : firstFail (s.checkList p n m d) = none) (hs : d.slot = true) : (s.slice n).freeSlot.isSome = true := by
  have hb := firstFail_eq_none h (c := ⟨14, d.slot && (s.slice n).freeSlot.isNone, 0⟩) (by simp [State.checkList]) (by simp)
  simpa [hs] using hb

/-- An accepted billet is of an opcode of the table, and has a free slot if it asks for one. -/
theorem State.judgeBillet_accept {s : State} {n len : Nat} {m : BilletMsg} {v : Bool} {d : OpDef}
    (h : s.judgeBillet n m len v = .accept d) :
    opOf m.opcode = some d ∧ (d.slot = true → (s.slice n).freeSlot.isSome = true) := by
  unfold State.judgeBillet at h
  dsimp only at h
  repeat' split at h
  all_goals cases h
  all_goals exact ⟨by assumption, State.freeSlot_of_checks (by assumption)⟩

/-! ## Rejection -/

/-- A rejected billet leaves the hand and is answered (R52). -/
theorem State.handle_reject {s : State} {n len st r : Nat} {m : BilletMsg} {v : Bool}
    (h : s.judgeBillet n m len v = .reject st r) :
    s.handle n m len v = (s.modSlice n (fun x => { x with inHand := .none })).putReply n
      ⟨m.seq, m.tag, BitVec.ofNat 12 m.opcode.toNat, false, false, BitVec.ofNat 16 st, BitVec.ofNat 32 r⟩ (m.flags.getLsbD 0) := by
  simp only [State.handle, h]

/-- A repeated billet is answered with its stored reply (R57). -/
theorem State.handle_dup {s : State} {n len : Nat} {m : BilletMsg} {v : Bool} {r : Reply}
    (h : s.judgeBillet n m len v = .dup r) :
    s.handle n m len v = (s.modSlice n (fun x => { x with inHand := .none })).putReply n r (m.flags.getLsbD 0) := by
  simp only [State.handle, h]

/-! ## Acceptance -/

/-- A slice whose journal has taken the entry, and with it the entry's slot (R63, R68). -/
def Slice.journaled (x : Slice) (e : JEntry) : Slice :=
  { x with
    journal := x.journal.filter (fun o => o.seq != e.seq - 256) ++ [e]
    slots := match e.slot with
      | some k => putAt x.slots k { Slot.empty with st := .pending, seq := e.seq }
      | none => x.slots }

/-- A slice whose entry leaves STAGED for OPEN.WAIT, with the SEQ that follows next (R68). -/
def Slice.unstaged (x : Slice) (e : JEntry) : Slice :=
  { x.modEntry e.seq (fun e => { e with st := .openWait }) with nextSeq := e.seq + 1, inHand := .none }

/-- A slice that has accepted the billet of an entry. -/
def Slice.opened (x : Slice) (e : JEntry) : Slice := (x.journaled e).unstaged e

/-- The entries of an opened slice are those of its journal, with the new one OPEN.WAIT. -/
theorem Slice.entry_opened_eq (x : Slice) (e : JEntry) (q : Word) :
    (x.opened e).entry q = ((x.journaled e).entry q).map (fun o => if o.seq == e.seq then { o with st := .openWait } else o) :=
  Slice.entry_modEntry (x.journaled e) e.seq q (fun o => { o with st := .openWait }) (fun _ => rfl)

/-- The entry made for an accepted billet that the journal did not hold. -/
theorem Slice.entry_opened {x : Slice} {e : JEntry} (h : x.entry e.seq = none) :
    (x.opened e).entry e.seq = some { e with st := .openWait } := by
  have hf : (x.journal.filter (fun o => o.seq != e.seq - 256)).find? (fun o => o.seq == e.seq) = none := by
    rw [Slice.entry, List.find?_eq_none] at h
    rw [List.find?_eq_none]
    exact fun o ho => h o (List.mem_filter.mp ho).1
  have hj : (x.journaled e).entry e.seq = some e := by
    simp only [Slice.entry, Slice.journaled, List.find?_append, hf]
    simp
  rw [Slice.entry_opened_eq, hj]
  simp

/-- The entry of SEQ − 256 has left the journal (R68). -/
theorem Slice.entry_opened_window (x : Slice) (e : JEntry) : (x.opened e).entry (e.seq - 256) = none := by
  have hj : (x.journaled e).entry (e.seq - 256) = none := by
    rw [Slice.entry, List.find?_eq_none]
    intro o ho
    rcases List.mem_append.mp ho with ho | ho
    · simpa using (List.mem_filter.mp ho).2
    · have hne : e.seq ≠ e.seq - 256 := by bv_omega
      simpa [List.mem_singleton.mp ho] using hne
  rw [Slice.entry_opened_eq, hj]
  rfl

theorem Slice.slot_opened {x : Slice} {e : JEntry} {k : Nat} (h : e.slot = some k) (hk : k < x.slots.length) :
    (x.opened e).slot k = { Slot.empty with st := .pending, seq := e.seq } := by
  simp only [Slice.opened, Slice.unstaged, Slice.modEntry, Slice.journaled, Slice.slot, h]
  exact modAt_getD_self _ _ _ _ hk

/-- What a billet's reply leaves alone in its slice. -/
theorem Slice.replied_keeps (x : Slice) (r : Reply) :
    (x.replied r).journal = x.journal ∧ (x.replied r).slots = x.slots ∧ (x.replied r).nextSeq = x.nextSeq ∧
    (x.replied r).inHand = x.inHand := by
  cases h : x.binding <;> simp [Slice.replied, h]

/-- The state of an accepted billet before its reply: only its slice, the shown loads and the order of acceptance differ. -/
structure OpenedFrom (s u : State) (n : Nat) (e : JEntry) : Prop where
  rest : u = { s with slices := u.slices, regs := u.regs, order := u.order }
  length : u.slices.length = s.slices.length
  slice : u.slice n = (s.slice n).opened e

/-- STAGED ends for a billet that is not immediate: its entry is OPEN.WAIT, and its SEQ is passed (R68). -/
def State.opensEntry (s : State) (n : Nat) (e : JEntry) : State :=
  (s.markEntry n e.seq .openWait).modSlice n (fun x => { x with nextSeq := e.seq + 1, inHand := .none })

theorem State.slice_opensEntry (s : State) (n : Nat) (e : JEntry) (hn : n < s.slices.length) :
    (s.opensEntry n e).slice n = (s.slice n).unstaged e := by
  rw [State.opensEntry, State.slice_modSlice_self _ _ _ (by simpa [State.markEntry] using hn), State.markEntry,
    State.slice_modSlice_self _ _ _ hn]
  rfl

theorem State.openStaged_open {s : State} {n : Nat} {e f : JEntry} {d : OpDef} (hd : d.imm = false)
    (hf : ((s.opensEntry n e).slice n).entry e.seq = some f) :
    s.openStaged n e d = (s.opensEntry n e).putReply n f.reply (f.body.flags.getLsbD 0) := by
  simp only [State.opensEntry] at hf
  simp only [State.openStaged, hd, Bool.false_and, Bool.false_eq_true, if_false, hf, State.opensEntry]

/-- The loads that an accepted billet shows are registers (R225). -/
theorem State.acceptBillet_eq {s : State} {n : Nat} {m : BilletMsg} {d : OpDef} (hs : s.pair.role = .solo) :
    ∃ regs, s.acceptBillet n m d =
      ({ s.journalIn n (s.newEntry n m d) with regs := regs } : State).openStaged n (s.newEntry n m d) d := by
  have hrole : (s.journalIn n (s.newEntry n m d)).pair.role = .solo := hs
  simp only [State.acceptBillet]
  split
  · exact ⟨_, if_neg (by simp [State.showLoads, hrole])⟩
  · exact ⟨_, if_neg (by simp [hrole])⟩

/-- A SOLO device opens an accepted billet that is not immediate, and answers it with the reply of its entry. -/
theorem State.acceptBillet_solo {s : State} {n : Nat} {m : BilletMsg} {d : OpDef} (hs : s.pair.role = .solo) (hd : d.imm = false)
    (hn : n < s.slices.length) (hnew : (s.slice n).entry m.seq = none) :
    ∃ u, OpenedFrom s u n (s.newEntry n m d) ∧
      s.acceptBillet n m d = u.putReply n (s.newEntry n m d).reply (m.flags.getLsbD 0) := by
  obtain ⟨regs, ha⟩ := State.acceptBillet_eq (n := n) (m := m) (d := d) hs
  have hj : (s.journalIn n (s.newEntry n m d)).slice n = (s.slice n).journaled (s.newEntry n m d) :=
    State.slice_modSlice_self { s with order := s.order + 1 } n _ hn
  have hu : (({ s.journalIn n (s.newEntry n m d) with regs := regs } : State).opensEntry n (s.newEntry n m d)).slice n =
      (s.slice n).opened (s.newEntry n m d) := by
    rw [Slice.opened, ← hj]
    exact State.slice_opensEntry _ _ _ (by simpa [State.journalIn] using hn)
  refine ⟨_, ⟨rfl, by simp [State.opensEntry, State.markEntry, State.journalIn], hu⟩, ?_⟩
  rw [ha, State.openStaged_open hd (f := { s.newEntry n m d with st := .openWait }) (by rw [hu, Slice.entry_opened hnew])]
  rfl

end Sys2Proof.Machine
end

section
/-! SUPPORT. What a SOLO device makes of a billet that it opens, rejects or answers again, and the statement on fetched billets and
on billets held in hand. -/
namespace Sys2Proof.Machine

/-- The entry that a billet gets as it leaves the hand. -/
def State.takenEntry (s : State) (n : Nat) (m : BilletMsg) (d : OpDef) : JEntry :=
  (s.modSlice n (fun x => { x with inHand := .none })).newEntry n m d

/-- The slot of an entry is the lowest free one, where the opcode asks for a slot (R63). -/
theorem State.takenEntry_slot {s : State} {n : Nat} (m : BilletMsg) (d : OpDef) (hn : n < s.slices.length) :
    (s.takenEntry n m d).slot = if d.slot then (s.slice n).freeSlot else none := by
  simp only [State.takenEntry, State.newEntry, State.slice_modSlice_self _ _ _ hn]
  rfl

theorem Slice.freeSlot_lt {x : Slice} {k : Nat} (h : x.freeSlot = some k) : k < 64 := by
  rw [Slice.freeSlot, firstIdx] at h
  exact List.mem_range.mp (List.mem_of_find?_eq_some h)

/-- The reply of a new entry says S_ACCEPTED, and its RESULT the slot if there is one (R59, R63). -/
theorem State.takenEntry_reply (s : State) (n : Nat) (m : BilletMsg) (d : OpDef) :
    let e := s.takenEntry n m d
    e.reply.status = 1 ∧ e.reply.seq = m.seq ∧ e.reply.tag = m.tag ∧ e.reply.slot = e.slot.isSome ∧
    ∀ k ∈ e.slot, e.reply.result = BitVec.ofNat 32 k := by
  refine ⟨rfl, rfl, rfl, rfl, fun k hk => ?_⟩
  have hk' : (if d.slot then ((s.modSlice n (fun x => { x with inHand := .none })).slice n).freeSlot else none) = some k := hk
  simp only [State.takenEntry, State.newEntry, hk']

/-- A billet that the checks pass as one that is not immediate, on a SOLO device: its slice opens the entry and answers. -/
theorem State.handle_opens {s : State} {n len : Nat} {m : BilletMsg} {v : Bool} (hs : s.pair.role = .solo)
    (hn : n < s.slices.length) (hnew : (s.slice n).entry m.seq = none) (hj : (s.judgeBillet n m len v).open = true) :
    ∃ d u, opOf m.opcode = some d ∧ (d.slot = true → (s.slice n).freeSlot.isSome = true) ∧
      OpenedFrom s u n (s.takenEntry n m d) ∧
      s.handle n m len v = u.putReply n (s.takenEntry n m d).reply (m.flags.getLsbD 0) := by
  cases hd : s.judgeBillet n m len v with
  | wait h => simp [hd, Judgement.open] at hj
  | reject st r => simp [hd, Judgement.open] at hj
  | dup r => simp [hd, Judgement.open] at hj
  | accept d =>
    obtain ⟨hop, hfree⟩ := State.judgeBillet_accept hd
    have hx := State.slice_modSlice_self s n (fun x => { x with inHand := .none }) hn
    obtain ⟨u, hu, ha⟩ := State.acceptBillet_solo (s := s.modSlice n (fun x => { x with inHand := .none })) (n := n) (m := m) (d := d)
      hs (by simpa [hd, Judgement.open] using hj) (by simpa using hn) (by rw [hx]; exact hnew)
    refine ⟨d, u, hop, hfree, ⟨hu.rest, by simpa using hu.length, ?_⟩, ?_⟩
    · rw [hu.slice, hx]; rfl
    · simp only [State.handle, hd]; exact ha

section Opened
variable {s u t : State} {n : Nat} {m : BilletMsg} {d : OpDef} {r : Reply}
  (hu : OpenedFrom s u n (s.takenEntry n m d)) (ht : HostOnly (u.modSlice n (fun x => x.replied r)) t)
  (hn : n < s.slices.length)
include hu ht hn

/-- The slice of an accepted and answered billet. -/
theorem slice_of_opened : t.slice n = { ((s.slice n).opened (s.takenEntry n m d)).replied r with dirty := (t.slice n).dirty } := by
  rw [ht.slice n, State.slice_modSlice_self _ _ _ (hu.length ▸ hn), hu.slice]

theorem entry_of_opened (q : Word) : (t.slice n).entry q = ((s.slice n).opened (s.takenEntry n m d)).entry q := by
  obtain ⟨hj, -⟩ := Slice.replied_keeps ((s.slice n).opened (s.takenEntry n m d)) r
  rw [slice_of_opened hu ht hn]
  simp only [Slice.entry, hj]

/-- The window entry of an accepted billet is free (R70). -/
theorem window_free_of_opened : (t.slice n).entry (m.seq - 256) = none := by
  rw [entry_of_opened hu ht hn]
  exact Slice.entry_opened_window _ (s.takenEntry n m d)

theorem newEntry_of_opened (hnew : (s.slice n).entry m.seq = none) :
    (t.slice n).entry m.seq = some { s.takenEntry n m d with st := .openWait } := by
  rw [entry_of_opened hu ht hn]
  exact Slice.entry_opened (e := s.takenEntry n m d) hnew

/-- An opened and answered billet is accepted. -/
theorem accepted_of_opened (hslots : (s.slice n).slots.length = 64) (hnew : (s.slice n).entry m.seq = none)
    (hop : opOf m.opcode = some d) (hfree : d.slot = true → (s.slice n).freeSlot.isSome = true) : Accepted s t n m := by
  have he := newEntry_of_opened hu ht hn hnew
  have hx := slice_of_opened hu ht hn
  obtain ⟨-, hsl, hns, hih⟩ := Slice.replied_keeps ((s.slice n).opened (s.takenEntry n m d)) r
  refine ⟨by rw [State.entrySt, he]; rfl, by rw [he]; rfl, by rw [hx]; exact hns, by rw [hx]; exact hih, ?_⟩
  have hslot := State.takenEntry_slot m d hn
  rw [hop, Option.any_some, he]
  cases hds : d.slot with
  | false => simpa [hds] using hslot
  | true =>
    obtain ⟨k, hk⟩ := Option.isSome_iff_exists.mp (hfree hds)
    rw [hds, if_pos rfl, hk] at hslot
    have hkl : k < (s.slice n).slots.length := by rw [hslots]; exact Slice.freeSlot_lt hk
    have htk : (t.slice n).slot k = { Slot.empty with st := .pending, seq := m.seq } := by
      rw [hx, Slice.slot, hsl]
      exact Slice.slot_opened (e := s.takenEntry n m d) hslot hkl
    simp [hk, hslot, htk]

end Opened

/-! ## Fetched billets (R44, R52) -/

/-- A slice that fetches is bound to a port that holds nothing back, and has nothing in hand. -/
theorem State.Fetches.port_free {s : State} {n : Nat} (h : s.Fetches n) :
    ∃ p id, (s.slice n).binding = .pcie p id ∧ (s.port p).holds = false ∧ (s.port p).held = [] ∧ (s.slice n).inHand = .none := by
  obtain ⟨-, -, -, hm, hq⟩ := h
  simp only [State.mayFetch, Bool.and_eq_true, beq_iff_eq] at hm
  obtain ⟨⟨⟨⟨⟨⟨⟨-, -⟩, hp⟩, -⟩, -⟩, -⟩, hi⟩, -⟩ := hm
  cases hb : (s.slice n).binding with
  | unbound => simp [State.portRuns, hb] at hp
  | eth id => simp [State.portRuns, hb] at hp
  | pcie p id => exact ⟨p, id, rfl, by simpa [State.portRuns, hb] using hp, by simpa [Binding.portId, hb] using hq, hi⟩

/-- A fetched billet that the checks reject is answered with the rejection, and nothing else of its slice changes. -/
theorem rejected_of_fetches {s : State} {n len st r : Nat} {m : BilletMsg} {v : Bool} (h : s.Fetches n)
    (hj : s.judgeBillet n m len v = .reject st r) : Rejected s (s.handle n m len v) n m st r := by
  obtain ⟨p, id, hb, hh, hq, hi⟩ := h.port_free
  obtain ⟨hsafe, hs, hn, -⟩ := h
  have hn := State.safe_slice_lt hsafe hn
  rw [State.handle_reject hj, State.modSlice_eq_self s n _ (by rw [← hi])]
  have hx := (hostOnly_putReply ⟨m.seq, m.tag, BitVec.ofNat 12 m.opcode.toNat, false, false, BitVec.ofNat 16 st, BitVec.ofNat 32 r⟩
    (m.flags.getLsbD 0) hs hn)
  refine ⟨answered_putReply _ _ hs hn hb hh hq rfl rfl rfl rfl rfl rfl, ?_, hx.regs⟩
  have hxs := hx.slice n
  rw [State.slice_modSlice_self _ _ _ hn] at hxs
  rw [hxs]
  simp only [Slice.replied, hb]

/-- A fetched billet that the journal holds already is answered with its stored reply, and the journal stays (R57). -/
theorem answered_dup_of_fetches {s : State} {n len : Nat} {m : BilletMsg} {v : Bool} {r : Reply} (h : s.Fetches n)
    (hj : s.judgeBillet n m len v = .dup r) :
    Answered s (s.handle n m len v) n r ∧ ((s.handle n m len v).slice n).journal = (s.slice n).journal := by
  obtain ⟨p, id, hb, hh, hq, hi⟩ := h.port_free
  obtain ⟨hsafe, hs, hn, -⟩ := h
  have hn := State.safe_slice_lt hsafe hn
  rw [State.handle_dup hj, State.modSlice_eq_self s n _ (by rw [← hi])]
  refine ⟨answered_putReply _ _ hs hn hb hh hq rfl rfl rfl rfl rfl rfl, ?_⟩
  rw [(hostOnly_putReply r (m.flags.getLsbD 0) hs hn).slice n, State.slice_modSlice_self _ _ _ hn]
  exact (Slice.replied_keeps _ r).1

theorem exec_billetFetch {s : State} {n : Fin 16} (raw : List Byte) (h : s.Fetches n.val) :
    exec (.billetFetch n raw) s = .next (s.handle n.val (rawBillet raw) (32 + (rawBillet raw).length.toNat) false) := by
  obtain ⟨-, -, -, hm, -⟩ := h
  change Host.Outcome.next (if s.mayFetch n.val then _ else s) = _
  rw [if_pos hm]

/-- A billet in hand that a SOLO device opens is accepted, and with it goes the entry of SEQ − 256 (R68, R70). -/
theorem accepted_of_open {s : State} {n len : Nat} {m : BilletMsg} {v : Bool} (hsafe : s.safe = true) (hs : s.pair.role = .solo)
    (hn : n < 16) (hnew : (s.slice n).entry m.seq = none) (hj : (s.judgeBillet n m len v).open = true) :
    let t := s.handle n m len v
    Accepted s t n m ∧ ((t.slice n).entry (m.seq - 256)).isNone = true ∧ t.net = s.net := by
  have hn' := State.safe_slice_lt hsafe hn
  obtain ⟨d, u, hop, hfree, hu, ht⟩ := State.handle_opens hs hn' hnew hj
  have hho := hostOnly_putReply (s := u) (n := n) (s.takenEntry n m d).reply (m.flags.getLsbD 0) (by rw [hu.rest]; exact hs)
    (hu.length ▸ hn')
  rw [← ht] at hho
  refine ⟨accepted_of_opened hu hho hn' (State.safe_slots_length hsafe hn) hnew hop hfree, ?_, ?_⟩
  · rw [window_free_of_opened hu hho hn']; rfl
  · rw [hho.net, State.modSlice_net, hu.rest]

/-- The reply of a fetched billet that is opened is that of its new entry. -/
theorem answered_of_open {s : State} {n len : Nat} {m : BilletMsg} {v : Bool} (h : s.Fetches n)
    (hnew : (s.slice n).entry m.seq = none) (hj : (s.judgeBillet n m len v).open = true) :
    let t := s.handle n m len v
    ∃ d, (t.slice n).entry m.seq = some { s.takenEntry n m d with st := .openWait } ∧
      Answered s t n (s.takenEntry n m d).reply ∧ ∀ k ∈ (s.takenEntry n m d).slot, k < 64 := by
  obtain ⟨p, id, hb, hh, hq, hi⟩ := h.port_free
  obtain ⟨hsafe, hs, hn, -⟩ := h
  have hn' := State.safe_slice_lt hsafe hn
  obtain ⟨d, u, hop, hfree, hu, ht⟩ := State.handle_opens hs hn' hnew hj
  have hsu : u.pair.role = .solo := by rw [hu.rest]; exact hs
  have hho := hostOnly_putReply (s := u) (n := n) (s.takenEntry n m d).reply (m.flags.getLsbD 0) hsu (hu.length ▸ hn')
  rw [← ht] at hho
  refine ⟨d, newEntry_of_opened hu hho hn' hnew, ?_, fun k hk => ?_⟩
  · rw [ht]
    refine answered_putReply _ _ hsu (hu.length ▸ hn') hb hh hq ?_ ?_ ?_ ?_ ?_ ?_
    · rw [hu.rest]
    · rw [hu.rest]
    all_goals rw [hu.slice]; rfl
  · rw [State.takenEntry_slot m d hn'] at hk
    split at hk
    · exact Slice.freeSlot_lt hk
    · cases hk

theorem State.pumpNet_of_empty {s : State} (h : s.net.billetQ = []) : s.pumpNet = s := by
  simp [State.pumpNet, foldN, h]

/-- A SOLO device judges a billet in hand again, then takes the datagrams that waited behind it. -/
theorem State.resume_solo {s : State} {n len : Nat} {m : BilletMsg} {v : Bool} (hs : s.pair.role = .solo) (hk : s.knabyRuns = true) :
    s.resume n m len v = (s.handle n m len v).pumpNet := by
  simp [State.resume, hk, State.leads_of_solo hs]

theorem exec_fenceWaitEnd {s : State} {n : Fin 16} {m : BilletMsg} {len : Nat} (h : (s.slice n.val).inHand = .fence m len) :
    exec (.fenceWaitEnd n) s = .next (if (s.slice n.val).openCount = 0 then s.resume n.val m len false else s) := by
  change execFenceWaitEnd n s = _
  simp only [execFenceWaitEnd, h]

theorem exec_windowWaitEnd {s : State} {n : Fin 16} {m : BilletMsg} {len : Nat} (h : (s.slice n.val).inHand = .window m len) :
    exec (.windowWaitEnd n) s = .next (s.resume n.val m len false) := by
  change execWindowWaitEnd n s = _
  simp only [execWindowWaitEnd, h]

/-- Settles O34: a fetched billet by the checks of R53 in their order, then the billets that the checks open, fetched or held at step 5
or 16, through the entry that their slice takes. -/
theorem billetFetched : Obligations.BilletFetched := by
  unfold Obligations.BilletFetched
  refine ⟨fun s n raw hsafe hf => ?_, ?_, ?_, ?_, ?_⟩
  · have hrej := fun st r => rejected_of_fetches (len := 32 + (rawBillet raw).length.toNat) (st := st) (r := r)
      (m := rawBillet raw) (v := false) hf
    refine Ends.of_next (exec_billetFetch raw hf) ?_
    refine ite_of_cases (fun h1 => hrej _ _ (State.judgeBillet_long rfl h1)) fun h1 => ?_
    refine ite_of_cases (fun h2 => hrej _ _ (State.judgeBillet_check rfl h1 h2)) fun h2 => ?_
    have h2 := Decidable.of_not_not h2
    refine formatFault_cases (P := fun o => Rejected s _ n.val (rawBillet raw) 0x8003 o)
      (fun o ho => hrej _ _ (State.judgeBillet_format rfl h1 h2 ho)) fun h3 => ?_
    refine ite_of_cases (fun h4 => hrej _ _ (State.judgeBillet_gap rfl h1 h2 h3 h4)) fun h4 => ?_
    refine ite_of_cases (fun h5 => ?_) fun h5 hfl hop =>
      hrej _ _ (State.judgeBillet_opcode rfl h1 h2 h3 h4 h5 hfl hop)
    refine ⟨fun ho => hrej _ _ (State.judgeBillet_old rfl h1 h2 h3 h5 (Option.isNone_iff_eq_none.mp ho)), fun e he => ?_⟩
    have hj := State.judgeBillet_held (v := false) rfl h1 h2 h3 h5 he
    exact ite_of_cases (fun hc => answered_dup_of_fetches hf (hj.trans (if_pos hc)))
      (fun hc => hrej _ _ (hj.trans (if_neg hc)))
  · intro s n raw hsafe hf hnew hj
    have hnew := Option.isNone_iff_eq_none.mp hnew
    have hs : s.pair.role = .solo := by obtain ⟨-, hs, -⟩ := hf; exact hs
    refine Ends.of_next (exec_billetFetch raw hf) ⟨(accepted_of_open hsafe hs n.isLt hnew hj).1, ?_⟩
    obtain ⟨d, he, ha, hk⟩ := answered_of_open hf hnew hj
    obtain ⟨hst, hseq, htag, hslot, hres⟩ := State.takenEntry_reply s n.val (rawBillet raw) d
    rw [he]
    refine ⟨ha, ?_⟩
    simp only [Option.all_some, hst, hseq, htag, hslot]
    cases hks : (s.takenEntry n.val (rawBillet raw) d).slot with
    | none => simp
    | some k =>
      rw [hks] at hk hres
      have hlt := hk k rfl
      simp [hres k rfl]
      omega
  · intro s n m len hsafe hs hk hq hi ho hnew hj
    obtain ⟨hacc, -, hnet⟩ := accepted_of_open hsafe hs n.isLt (Option.isNone_iff_eq_none.mp hnew) hj
    refine Ends.of_next ((exec_fenceWaitEnd hi).trans (congrArg _ (if_pos ho))) ?_
    rwa [State.resume_solo hs hk, State.pumpNet_of_empty (hnet ▸ hq)]
  · intro s n m len hsafe hs hk hq hi hnew hj
    obtain ⟨hacc, hwin, hnet⟩ := accepted_of_open hsafe hs n.isLt (Option.isNone_iff_eq_none.mp hnew) hj
    refine Ends.of_next (exec_windowWaitEnd hi) ?_
    rw [State.resume_solo hs hk, State.pumpNet_of_empty (hnet ▸ hq)]
    exact ⟨hacc, hwin⟩
  · intro s n m len hsafe hi ho
    exact Ends.of_next ((exec_fenceWaitEnd hi).trans (congrArg _ (if_neg ho))) rfl

end Sys2Proof.Machine
end

section
/-! SUPPORT. Fields of stored registers, the window of a slice, and the datagrams of billets and replies. -/
namespace Sys2Proof.Machine

/-! ## Fields of registers -/

theorem putBits_eq (x lo w v : Nat) : putBits x lo w v = 2 ^ lo * (2 ^ w * (x >>> (lo + w)) + v % 2 ^ w) + x % 2 ^ lo := by
  rw [putBits, Nat.pow_add, Nat.mul_add]
  ac_rfl

/-- A bit of a value with a replaced field: of the field inside it, of the old value outside. -/
theorem testBit_putBits (x lo w v i : Nat) :
    (putBits x lo w v).testBit i = if lo ≤ i ∧ i < lo + w then v.testBit (i - lo) else x.testBit i := by
  rw [putBits_eq, Nat.testBit_two_pow_mul_add _ (Nat.mod_lt _ (Nat.two_pow_pos lo))]
  by_cases h1 : i < lo
  · simp [h1, Nat.not_le.mpr h1]
  · rw [if_neg h1, Nat.testBit_two_pow_mul_add _ (Nat.mod_lt _ (Nat.two_pow_pos w))]
    by_cases h2 : i - lo < w
    · simp [h2, Nat.not_lt.mp h1, show i < lo + w by omega]
    · rw [if_neg h2, if_neg (by omega), Nat.testBit_shiftRight]
      congr 1
      omega

/-- A bit of a register with a stored field. -/
theorem State.flag_setFld (s : State) (off lo w v : Nat) {i : Nat} (hi : i < 32) :
    (s.setFld off lo w v).flag off i = if lo ≤ i ∧ i < lo + w then v.testBit (i - lo) else s.flag off i := by
  rw [State.flag, State.setFld, State.reg_setReg_self, Nat.testBit_mod_two_pow, testBit_putBits]
  simp [hi, State.flag]

/-- A stored field reads back its low bits. -/
theorem State.fld_setFld (s : State) (off lo w v : Nat) (h : lo + w ≤ 32) : (s.setFld off lo w v).fld off lo w = v % 2 ^ w := by
  refine Nat.eq_of_testBit_eq fun i => ?_
  rw [State.fld, bits, Nat.testBit_mod_two_pow, Nat.testBit_mod_two_pow, Nat.testBit_shiftRight]
  by_cases hi : i < w
  · have := State.flag_setFld s off lo w v (i := lo + i) (by omega)
    rw [State.flag] at this
    simp [hi, this]
  · simp [hi]

theorem RegFile.filter_ins (r : RegFile) (key : Nat) (v : Word) (p : Nat × Word → Bool) (hp : p (key, v) = false) :
    (r.ins key v).filter p = r.filter p := by
  induction r with
  | nil => simp [RegFile.ins, hp]
  | cons e t ih =>
    unfold RegFile.ins
    split
    · simp [List.filter_cons, ih]
    · rw [List.filter_cons, hp]
      rfl

/-- Storing a register of the list leaves every other register alone. -/
theorem regsBut_setReg (s : State) {off : Nat} (v : Nat) {ks : List Nat} (h : ks.contains off = true) :
    RegsBut ks s (s.setReg off v) := by
  have hf : (s.regs.filter (fun e => e.1 != off)).filter (fun e => !ks.contains e.1) = s.regs.filter (fun e => !ks.contains e.1) := by
    rw [List.filter_filter]
    refine List.filter_congr fun e _ => ?_
    by_cases he : e.1 = off
    · rw [he, h]; rfl
    · simp [he]
  simp only [RegsBut, State.setReg, RegFile.put]
  split
  · exact hf
  · rw [RegFile.filter_ins _ _ _ _ (by rw [h]; rfl), hf]

/-- A saturating counter counts. -/
theorem counts_incSat (s : State) (off lo w : Nat) (h : lo + w ≤ 32) : Counts off lo w s (s.incSat off lo w) := by
  refine ⟨⟨rfl, regsBut_setReg s _ (by simp)⟩, ?_, fun i hi ho => ?_⟩
  · rw [State.incSat, State.fld_setFld _ _ _ _ _ h, sat, Nat.min_comm]
    exact Nat.mod_eq_of_lt (Nat.lt_of_le_of_lt (Nat.min_le_left _ _) (Nat.sub_lt (Nat.two_pow_pos w) Nat.one_pos))
  · rw [State.incSat, State.flag_setFld _ _ _ _ _ hi, if_neg (by omega)]

end Sys2Proof.Machine
end

section
/-! SUPPORT. The window of a slice: who reaches it, its doorbell and its slots (R45, R63-R65, R170). -/
namespace Sys2Proof.Machine

/-! ## Wakes -/

/-- Nothing changes from `s` to `t` but the ladder, the pair and what is sent. -/
def LadderOnly (s t : State) : Prop := t = { s with power := t.power, pair := t.pair, out := t.out }

theorem LadderOnly.trans {s t u : State} (h : LadderOnly s t) (g : LadderOnly t u) : LadderOnly s u := by
  unfold LadderOnly at *
  rw [g, h]

theorem LadderOnly.slices {s t : State} (h : LadderOnly s t) : t.slices = s.slices := by rw [h]

theorem ladderOnly_modPow (s : State) (f : Power → Power) : LadderOnly s (s.modPow f) := rfl

theorem ladderOnly_ulxSend (s : State) (m : UlxMsg) : LadderOnly s (s.ulxSend m) := by
  unfold State.ulxSend State.ulxPump
  split <;> rfl

theorem ladderOnly_startExit (s : State) (src group : Nat) : LadderOnly s (s.startExit src group) := by
  unfold State.startExit
  dsimp only
  split
  · exact LadderOnly.trans (ladderOnly_modPow s _) (ladderOnly_ulxSend _ _)
  · exact ladderOnly_modPow s _

theorem ladderOnly_wake (s : State) (mask group : Nat) : LadderOnly s (s.wake mask group) := by
  unfold State.wake
  dsimp only
  generalize mask &&& s.power.named &&& wakeWorks s.fuses.pair (if s.power.step = 0 then s.power.st else s.power.target) = fire
  split
  · rfl
  split
  · split <;> exact ladderOnly_modPow s _
  split
  · exact ladderOnly_modPow s _
  · exact LadderOnly.trans (ladderOnly_modPow s _) (ladderOnly_startExit _ _ _)

/-- No source works in RUN (R668). -/
theorem State.wake_run {s : State} (mask group : Nat) (hst : s.power.st = 0) (hstep : s.power.step = 0) :
    s.wake mask group = s := by
  simp [State.wake, hst, hstep, wakeWorks]

/-! ## Writes to the window -/

/-- A full-width write of the window's owner to an assigned register that no ring enable guards and that reserves no bit has its
effect (R170, R615). -/
theorem State.windowWrite_reaches {s : State} {n off : Nat} {a : Access} (h : s.reaches n a) (ha : winAssigned off = true)
    (hc : winClassC off = false) (hr : winRsv off = 0) : s.windowWrite n a off = s.winEffect n off a.data.toNat := by
  obtain ⟨-, hserved, hbe, -, hm⟩ := h
  obtain ⟨m, hm⟩ := Option.isSome_iff_exists.mp hm
  simp [State.windowWrite, State.winGate, hserved, hbe, hm, ha, Judged.run, State.winWrite, hc, hr, State.accFlags]

/-- The register that a window write is refused with SLG_ACC.REACH for a requester that does not reach the window (R618). -/
theorem State.windowWrite_denied {s : State} {n : Nat} {a : Access} (off : Nat) (hs : s.served = true)
    (hm : s.winMaster n a.req = none) (hbe : a.be ≠ 0) :
    ∃ m, s.windowWrite n a off = s.accFlags [4] m (winOff n off) := by
  simp only [State.windowWrite, State.winGate, hs, hbe, hm]
  exact ⟨_, rfl⟩

/-! ## Refused accesses (R618) -/

theorem State.irq_slices (s : State) (n k : Nat) : (s.irq n k).slices = s.slices := by
  unfold State.irq State.request State.issueReq
  split
  · dsimp only
    split
    · rfl
    split
    · rfl
    split
    · rfl
    · rfl
  · rfl

/-- A Slag entry leaves the registers and the slices alone. -/
theorem State.slagEntry_keeps (s : State) (e : SlagEntry) (f : Bool) :
    (s.slagEntry e f).regs = s.regs ∧ (s.slagEntry e f).slices = s.slices := by
  unfold State.slagEntry
  split
  · exact ⟨rfl, rfl⟩
  · exact ⟨(hostOnly_irq _ 0 3).regs, State.irq_slices _ 0 3⟩

theorem State.foldl_slagWarn_keeps (l : List Nat) (s : State) :
    (l.foldl (fun s b => s.slagWarn 23 b 0x14) s).regs = s.regs ∧
    (l.foldl (fun s b => s.slagWarn 23 b 0x14) s).slices = s.slices := by
  induction l generalizing s with
  | nil => exact ⟨rfl, rfl⟩
  | cons b l ih =>
    obtain ⟨hr, hs⟩ := ih (s.slagWarn 23 b 0x14)
    obtain ⟨hr1, hs1⟩ := State.slagEntry_keeps s ⟨23, slagSeverity 23 true, false, b, 0x14, React.code {}, 0⟩ false
    exact ⟨hr.trans hr1, hs.trans hs1⟩

theorem State.flag_congr {s t : State} (h : t.regs = s.regs) (off i : Nat) : t.flag off i = s.flag off i := by
  rw [State.flag, State.reg, h]
  rfl

/-- The bit of a refused access in the value that SLG_ACC takes, whatever its count and first master become. -/
theorem testBit_accFlags (v count m b : Nat) (first : Bool) (hb : b < 5) :
    (if first = true then putBits (putBits (v ||| maskOf [b]) 16 16 count) 8 8 m
      else putBits (v ||| maskOf [b]) 16 16 count).testBit b = true := by
  have hv : (putBits (v ||| maskOf [b]) 16 16 count).testBit b = true := by
    rw [testBit_putBits, if_neg (by omega)]
    simp [maskOf]
  split
  · rw [testBit_putBits, if_neg (by omega), hv]
  · exact hv

/-- A refused access sets its bit of SLG_ACC and leaves the slices alone. -/
theorem State.accFlags_one (s : State) (b m off : Nat) (hb : b < 5) :
    (s.accFlags [b] m off).flag R.SLG_ACC b = true ∧ (s.accFlags [b] m off).slices = s.slices := by
  unfold State.accFlags
  rw [if_neg (List.cons_ne_nil b [])]
  dsimp only
  generalize sat 16 (bits (s.reg R.SLG_ACC) 16 16 + 1) = count
  generalize (bits (s.reg R.SLG_ACC) 0 5 == 0) = first
  have hset : ∀ v : Nat, v.testBit b = true → (s.setReg R.SLG_ACC v).flag R.SLG_ACC b = true := by
    intro v hv
    rw [State.flag, State.reg_setReg_self, Nat.testBit_mod_two_pow, hv]
    simp
    omega
  have hbit := hset _ (testBit_accFlags (s.reg R.SLG_ACC) count m b first hb)
  refine ⟨?_, ?_⟩
  · rw [State.flag_congr (State.foldl_slagWarn_keeps _ _).1]
    cases first with
    | false => exact hbit
    | true =>
      refine Eq.trans ?_ hbit
      rw [if_pos rfl, State.flag, State.reg_setReg_other _ _ _ _ (by decide)]
      rfl
  · rw [(State.foldl_slagWarn_keeps _ _).2]
    split
    · rw [State.setReg_slices, State.setReg_slices]
    · exact State.setReg_slices _ _ _

/-! ## Result slots -/

/-- The release of slot `j` empties it if it is DONE, and leaves every other slot alone (R65). -/
theorem Slice.slot_release (x : Slice) (j k : Nat) :
    (x.release j).slot k = if k = j ∧ (x.slot k).st = .done then Slot.empty else x.slot k := by
  unfold Slice.release
  split
  · rename_i hd
    by_cases hk : k = j
    · subst hk
      have hl : k < x.slots.length := by
        refine Nat.lt_of_not_le fun hge => ?_
        have hempty : x.slot k = Slot.empty := by
          rw [Slice.slot, List.getD_eq_getElem?_getD, List.getElem?_eq_none hge, Option.getD_none]
        rw [hempty] at hd
        cases hd
      rw [if_pos ⟨rfl, hd⟩]
      exact modAt_getD_self _ _ _ _ hl
    · rw [if_neg (fun h => hk h.1)]
      exact modAt_getD_other _ _ _ _ _ hk
  all_goals
    rename_i hd
    have hne : ¬ (k = j ∧ (x.slot k).st = .done) := by
      rintro ⟨rfl, h⟩
      rw [hd] at h
      cases h
    exact (if_neg hne).symm

/-- The release of a PENDING slot is noted. -/
theorem Slice.relPend_release (x : Slice) (j : Nat) :
    (x.release j).relPend = (x.relPend || (x.slot j).st == .pending) := by
  unfold Slice.release
  split <;> rename_i hd <;> simp [hd]

/-- What the release of a list of slots leaves in a slice. -/
theorem Slice.foldl_release (l : List Nat) (x : Slice) :
    (∀ k, (l.foldl Slice.release x).slot k = if k ∈ l ∧ (x.slot k).st = .done then Slot.empty else x.slot k) ∧
    (l.foldl Slice.release x).relPend = (x.relPend || l.any (fun k => (x.slot k).st == .pending)) := by
  induction l generalizing x with
  | nil => simp
  | cons j l ih =>
    obtain ⟨hs, hp⟩ := ih (x.release j)
    refine ⟨fun k => ?_, ?_⟩
    · rw [List.foldl_cons, hs, Slice.slot_release]
      by_cases hk : k = j ∧ (x.slot k).st = .done
      · rw [if_pos hk, ite_self, if_pos ⟨by simp [hk.1], hk.2⟩]
      · have hiff : (k ∈ l ∧ (x.slot k).st = .done) ↔ (k ∈ j :: l ∧ (x.slot k).st = .done) := by
          rw [List.mem_cons]
          exact ⟨fun ⟨hm, hd⟩ => ⟨.inr hm, hd⟩, fun ⟨hm, hd⟩ => ⟨hm.resolve_left fun hj => hk ⟨hj, hd⟩, hd⟩⟩
        rw [if_neg hk]
        exact ite_congr (propext hiff) (fun _ => rfl) (fun _ => rfl)
    · have hst : ∀ k, (((x.release j).slot k).st == .pending) = ((x.slot k).st == .pending) := by
        intro k
        rw [Slice.slot_release]
        split
        · rename_i h
          rw [h.2]
          rfl
        · rfl
      rw [List.foldl_cons, hp, Slice.relPend_release, List.any_cons, Bool.or_assoc]
      simp only [hst]

end Sys2Proof.Machine
end

section
/-! SUPPORT. Datagrams of billets and replies (R50, R51, R574), and the statement on them and on the window of a slice. -/
namespace Sys2Proof.Machine

/-! ## Datagrams -/

/-- The slice of an identity is bound to it (R164). -/
theorem State.binding_of_sliceOf {s : State} {id : NetId} {n : Nat} (h : s.sliceOf id = some n) : (s.slice n).binding = .eth id := by
  rw [State.sliceOf] at h
  simpa using List.find?_some h

/-- The last record that waits for its datagram is the newest reply (R51). -/
theorem State.getLast_udpOut_putReply {s : State} {n : Nat} {id : NetId} (r : Reply) (irq : Bool) (hs : s.pair.role = .solo)
    (hn : n < s.slices.length) (hb : (s.slice n).binding = .eth id) :
    ((s.putReply n r irq).slice n).udpOut.getLast? = some r := by
  rw [State.putReply_eth r irq hs hb, State.slice_modSlice_self _ _ _ hn]
  simp

/-- The cause that drops a datagram at the billet port, in the order of the checks (R50, R574). -/
theorem State.dropCause_billet (s : State) (d : UdpIn) :
    let k := if s.pair.role = .standby then 4 else if d.fragment then 0 else if d.sum = .bad then 1 else if d.payload.length < 32 then 2
      else if (s.sliceOf d.src).isNone then 3 else if 256 ≤ s.net.billetQ.length then 5 else 6
    s.dropCause d s.net.billetQ.length 256 5 = if k = 6 then none else some k := by
  intro k
  have hl : (!s.leads) = true ↔ s.pair.role = .standby := by simp [State.leads]
  simp only [State.dropCause, hl, k]
  by_cases h4 : s.pair.role = .standby
  · simp [h4]
  by_cases h0 : d.fragment = true
  · simp [h4, h0]
  by_cases h1 : d.sum = .bad
  · simp [h4, h0, h1]
  by_cases h2 : d.payload.length < 32
  · simp [h4, h0, h1, h2]
  by_cases h3 : (s.sliceOf d.src).isNone = true
  · simp [h4, h0, h1, h2, h3]
  by_cases h5 : 256 ≤ s.net.billetQ.length
  · simp [h4, h0, h1, h2, h3, h5]
  · simp [h4, h0, h1, h2, h3, h5]

/-- A dropped datagram is counted (R574). -/
theorem State.udpBillet_drop {s : State} {d : UdpIn} {k : Nat} (hup : s.netUp = true)
    (hk : s.dropCause d s.net.billetQ.length 256 5 = some k) : s.udpBillet d = s.netDrop k := by
  simp [State.udpBillet, hup, hk]

/-- One datagram of a slice with nothing in hand, and no other that waits: Knaby takes it. -/
theorem State.pumpNet_one {s : State} {d : Datagram} {n : Nat} (hk : s.knabyRuns = true) (hq : s.net.billetQ = [])
    (hsl : s.sliceOf d.src = some n) (hi : (s.slice n).inHand = .none) :
    State.pumpNet { s with net := { s.net with billetQ := [d] } } = s.takeDatagram n d.payload := by
  have hnet : ({ s.net with billetQ := [] } : Net) = s.net := by rw [← hq]
  have hk' : ({ s with net := { s.net with billetQ := [d] } } : State).knabyRuns = true := hk
  have hsl' : ({ s with net := { s.net with billetQ := [d] } } : State).sliceOf d.src = some n := hsl
  have hi' : (({ s with net := { s.net with billetQ := [d] } } : State).slice n).inHand = .none := hi
  simp only [State.pumpNet, foldN, List.length_singleton, List.range_one, List.foldl_cons, List.foldl_nil, State.pumpOne, hk',
    Bool.not_true, Bool.false_eq_true, if_false, List.find?_cons, hsl', hi', beq_self_eq_true, List.erase_cons_head, hnet, hsl]

/-- A good datagram of a bound identity is judged as a billet at once, when nothing waits before it and no unit sleeps. -/
theorem State.udpBillet_take {s : State} {d : UdpIn} {n : Nat} (hs : s.pair.role = .solo) (hup : s.netUp = true)
    (hk : s.knabyRuns = true) (hq : s.net.billetQ = []) (hf : d.fragment = false) (hsum : d.sum ≠ .bad)
    (hlen : 32 ≤ d.payload.length) (hsl : s.sliceOf d.src = some n) (hdrc : s.drcPhase ≠ 2) (hst : s.power.st = 0)
    (hstep : s.power.step = 0) (hi : (s.slice n).inHand = .none) :
    s.udpBillet d = s.handle n (rawBillet d.payload) d.payload.length false := by
  have hdrop : s.dropCause d s.net.billetQ.length 256 5 = none := by
    simp [State.dropCause, State.leads_of_solo hs, hf, hsum, Nat.not_lt.mpr hlen, hsl, hq]
  have hw : s.welded = false := by simp [State.welded, hs]
  have hqueue : s.udpBillet d = State.pumpNet { s with net := { s.net with billetQ := s.net.billetQ ++ [⟨d.src, d.payload⟩] } } := by
    simp [State.udpBillet, hup, hdrop, hw, State.wake_run 32 0 hst hstep]
  rw [hqueue, hq, List.nil_append]
  refine (State.pumpNet_one (d := ⟨d.src, d.payload⟩) hk hq hsl hi).trans ?_
  rw [State.takeDatagram, State.serviceBegins, if_neg hdrc]

theorem exec_billetDatagram (d : UdpIn) (s : State) : exec (.billetDatagram d) s = .next (s.udpBillet d) := rfl

theorem exec_replyDatagram {s : State} {n : Fin 16} {id : NetId} (hr : s.pair.role ≠ .standby)
    (hb : (s.slice n.val).binding = .eth id) (hu : (s.slice n.val).udpOut ≠ []) :
    exec (.replyDatagram n) s = .next ((s.emit (.udp false id (((s.slice n.val).udpOut.take 64).flatMap Reply.bytes))).modSlice n.val
      (fun x => { x with udpOut := (s.slice n.val).udpOut.drop 64 })) := by
  have hl : s.leads = true := by simpa [State.leads] using hr
  change Host.Outcome.next (if s.leads then s.sendReplies n.val else s) = _
  simp only [hl, if_true, State.sendReplies, hb, if_neg hu]

/-! ## The window's rows -/

theorem exec_slcDbWrite {s : State} {n : Fin 16} {a : Access} (h : s.reaches n.val a) :
    exec (.slcDbWrite n a) s = .next (s.dbWrite n.val a.data) := by
  change Host.Outcome.next (s.windowWrite n.val a 0x000) = _
  rw [State.windowWrite_reaches h (by decide) (by decide) (by decide), State.winEffect, if_pos rfl, BitVec.ofNat_toNat,
    BitVec.setWidth_eq]

theorem exec_slcRqHeadWrite {s : State} {n : Fin 16} {a : Access} (h : s.reaches n.val a) :
    exec (.slcRqHeadWrite n a) s = .next (s.modSlice n.val (fun x => { x with rqHead := a.data })) := by
  change Host.Outcome.next (s.windowWrite n.val a 0x02C) = _
  rw [State.windowWrite_reaches h (by decide) (by decide) (by decide)]
  simp [State.winEffect]

theorem exec_slotReleaseWrite {s : State} {n : Fin 16} {a : Access} (hi : Bool) (h : s.reaches n.val a) :
    exec (.slotReleaseWrite n hi a) s =
      .next (s.slotRelease n.val (if hi then 2 ^ 32 * a.data.toNat else a.data.toNat)).1 := by
  change Host.Outcome.next (s.windowWrite n.val a (if hi then 0xC04 else 0xC00)) = _
  cases hi with
  | false =>
    rw [State.windowWrite_reaches h (by decide) (by decide) (by decide)]
    simp [State.winEffect]
  | true =>
    rw [State.windowWrite_reaches h (by decide) (by decide) (by decide)]
    simp [State.winEffect]

theorem exec_slotValueRead {s : State} {n : Fin 16} {a : Access} (k : Fin 64) (h : s.reaches n.val a) :
    exec (.slotValueRead n k a) s =
      .next ((s.slotRead n.val k.val 2).1.emit (.readData (BitVec.ofNat 32 (s.slotRead n.val k.val 2).2))) := by
  obtain ⟨-, hserved, hbe, -, hm⟩ := h
  change Host.Outcome.next (if a.be = 0 || !s.served || (s.winMaster n.val a.req).isNone then _ else _) = _
  rw [if_neg]
  rw [hbe, hserved, Option.isNone_eq_false_iff.mpr hm]
  decide

/-- The bit of a slot in the mask that a write to SLC_SLOT_REL_LO or _HI names (R65). -/
theorem testBit_slotMask (hi : Bool) (v : Word) (k : Nat) :
    (if hi then 2 ^ 32 * v.toNat else v.toNat).testBit k =
      if hi then 32 ≤ k && v.toNat.testBit (k - 32) else k < 32 && v.toNat.testBit k := by
  cases hi with
  | true => simp only [if_true, Nat.testBit_two_pow_mul, ge_iff_le]
  | false =>
    by_cases hk : k < 32
    · simp [hk]
    · have hlt : v.toNat < 2 ^ k := Nat.lt_of_lt_of_le v.isLt (Nat.pow_le_pow_right (by decide) (Nat.not_lt.mp hk))
      simp [hk, Nat.testBit_lt_two_pow hlt]

theorem State.slice_congr {s t : State} (h : t.slices = s.slices) (k : Nat) : t.slice k = s.slice k := by
  rw [State.slice, h]
  rfl

theorem Slice.doorbell_eq (x : Slice) (v : Word) :
    x.doorbell v = if 256 < (v - x.sqHead).toNat ∨ (v - x.sqHead).toNat < (x.db - x.sqHead).toNat
      then { x with dbErr := true } else { x with db := v } := by
  refine ite_congr (propext ?_) (fun _ => rfl) (fun _ => rfl)
  rw [Bool.or_eq_true, decide_eq_true_eq, decide_eq_true_eq]
  rfl

/-- A released mask empties its DONE slots, and notes that it names a PENDING one (R65). -/
theorem State.slice_slotRelease {s : State} {n mask : Nat} (hn : n < s.slices.length) :
    let x := s.slice n
    let y := (s.slotRelease n mask).1.slice n
    (∀ k < 64, y.slot k = if mask.testBit k = true ∧ (x.slot k).st = .done then Slot.empty else x.slot k) ∧
    y.relPend = (x.relPend || (List.range 64).any (fun k => mask.testBit k && (x.slot k).st == .pending)) := by
  obtain ⟨hslot, hpend⟩ := Slice.foldl_release (maskList 64 mask) (s.slice n)
  have hy : (s.slotRelease n mask).1.slice n = (maskList 64 mask).foldl Slice.release (s.slice n) :=
    State.slice_modSlice_self s n _ hn
  refine ⟨fun k hk => ?_, ?_⟩
  · have hmem : k ∈ maskList 64 mask ↔ mask.testBit k = true := by simp [maskList, hk]
    rw [hy, hslot]
    exact ite_congr (propext (and_congr_left fun _ => hmem)) (fun _ => rfl) (fun _ => rfl)
  · rw [hy, hpend, maskList, List.any_filter]

/-- A read of VALUE_LO counts itself in a DONE slot, up to 255, and shows the low word of its value (R64). -/
theorem State.slotRead_value {s : State} {n k : Nat} (hn : n < s.slices.length) (hk : k < (s.slice n).slots.length) :
    let x := (s.slice n).slot k
    BitVec.ofNat 32 (s.slotRead n k 2).2 = (if x.st = .done then BitVec.ofNat 32 x.value.toNat else 0) ∧
    (s.slotRead n k 2).1 = { s with slices := (s.slotRead n k 2).1.slices } ∧
    ((s.slotRead n k 2).1.slice n).slot k = if x.st = .done then { x with readCount := min 255 (x.readCount + 1) } else x := by
  intro x
  by_cases hd : x.st = .done
  · have hr : s.slotRead n k 2 = (s.modSlice n (fun y => { y with
        slots := modAt y.slots k (fun sl => { sl with readCount := sat 8 (sl.readCount + 1) }) }), x.value.toNat % 2 ^ 32) := by
      simp [State.slotRead, Slot.reg, x, hd]
    rw [hr, if_pos hd, if_pos hd]
    refine ⟨BitVec.eq_of_toNat_eq (by simp), rfl, ?_⟩
    rw [State.slice_modSlice_self _ _ _ hn]
    exact (modAt_getD_self _ _ _ _ hk).trans (by rw [sat, Nat.min_comm]; rfl)
  · have hr : s.slotRead n k 2 = (s, 0) := by simp [State.slotRead, Slot.reg, x, hd]
    rw [hr, if_neg hd, if_neg hd]
    exact ⟨rfl, rfl, rfl⟩

/-- Settles O35: datagrams through the one judgement of a billet and the causes that drop it, the window through the effect of a write
that its owner makes, and the refusal of one that another makes. -/
theorem sliceWindow : Obligations.SliceWindow := by
  unfold Obligations.SliceWindow
  refine ⟨?_, ?_, ?_, ?_, ?_, ?_, ?_, ?_⟩
  · intro s n d hsafe hs hup hk hq hf hsum hlen hsl hdrc hst hstep hi hnew
    have hn := State.safe_slice_lt hsafe n.isLt
    have hb := State.binding_of_sliceOf hsl
    refine Ends.of_next ((exec_billetDatagram d s).trans
      (congrArg _ (State.udpBillet_take hs hup hk hq hf hsum hlen hsl hdrc hst hstep hi))) ⟨fun hne => ?_, fun hj => ⟨?_, ?_⟩⟩
    · rw [State.handle_reject (State.judgeBillet_length hne), State.modSlice_eq_self s n.val _ (by rw [← hi]),
        State.getLast_udpOut_putReply _ _ hs hn hb]
      rfl
    · exact (accepted_of_open hsafe hs n.isLt (Option.isNone_iff_eq_none.mp hnew) hj).1
    · obtain ⟨e, u, -, -, hu, ht⟩ := State.handle_opens hs hn (Option.isNone_iff_eq_none.mp hnew) hj
      rw [ht, State.getLast_udpOut_putReply (id := d.src) _ _ (by rw [hu.rest]; exact hs) (hu.length ▸ hn) (by rw [hu.slice]; exact hb)]
      rfl
  · intro s d hsafe hup k hk6
    have hc := (State.dropCause_billet s d).trans (if_neg hk6)
    refine Ends.of_next ((exec_billetDatagram d s).trans (congrArg _ (State.udpBillet_drop hup hc))) ?_
    exact counts_incSat s _ 0 32 (Nat.le_refl _)
  · intro s n id hsafe hr hb hu
    have hn := State.safe_slice_lt hsafe n.isLt
    exact Ends.of_next (exec_replyDatagram hr hb hu) ⟨rfl, State.slice_modSlice_self _ _ _ hn, rfl⟩
  · intro s n a hsafe h x new
    have hn := State.safe_slice_lt hsafe n.isLt
    have hw := ladderOnly_wake (s.modSlice n.val (fun x => x.doorbell a.data)) 16 0
    refine Ends.of_next (exec_slcDbWrite h) ⟨?_, ?_⟩
    · rw [State.dbWrite, hw]
      rfl
    · rw [State.dbWrite, State.slice_congr hw.slices, State.slice_modSlice_self _ _ _ hn]
      exact Slice.doorbell_eq _ _
  · intro s n a hsafe h
    have hn := State.safe_slice_lt hsafe n.isLt
    exact Ends.of_next (exec_slcRqHeadWrite h) ⟨rfl, State.slice_modSlice_self _ _ _ hn⟩
  · intro s n k a hsafe h x
    have hn := State.safe_slice_lt hsafe n.isLt
    obtain ⟨hval, hrest, hslot⟩ := State.slotRead_value (k := k.val) hn
      (by rw [State.safe_slots_length hsafe n.isLt]; exact k.isLt)
    refine Ends.of_next (exec_slotValueRead k h) ⟨?_, ?_, hslot⟩
    · rw [hrest]; rfl
    · rw [State.emit, hval, hrest]
  · intro s n hi a hsafe h x named
    have hn := State.safe_slice_lt hsafe n.isLt
    obtain ⟨hslot, hpend⟩ := State.slice_slotRelease (mask := if hi then 2 ^ 32 * a.data.toNat else a.data.toNat) hn
    simp only [testBit_slotMask] at hslot hpend
    exact Ends.of_next (exec_slotReleaseWrite hi h) ⟨rfl, hslot, hpend⟩
  · intro s n a hsafe hserved hm hbe i hi
    have href : ∀ off, (s.windowWrite n.val a off).slices = s.slices ∧ (s.windowWrite n.val a off).flag R.SLG_ACC 4 = true := by
      intro off
      obtain ⟨m, hw⟩ := State.windowWrite_denied off hserved (Option.isNone_iff_eq_none.mp hm) hbe
      rw [hw]
      exact (State.accFlags_one s 4 m _ (by decide)).symm
    simp only [List.mem_cons, List.not_mem_nil, or_false] at hi
    obtain rfl | rfl | rfl := hi
    · exact Ends.of_next rfl (href 0x000)
    · exact Ends.of_next rfl (href 0x02C)
    · exact Ends.of_next rfl (href 0xC00)

end Sys2Proof.Machine
end

section
/-! SUPPORT. The statement on EFFECT_ISSUE and EFFECT_COMPLETE asks that a check unit's failed self-test shows in CRC_STAT at the bit of
the unit that the billet in the journal names. Acceptance bounds that number (R151), but the statement ranges over every safe state, and
a safe state bounds nothing in the bodies that its journals hold. -/
namespace Sys2Proof.Machine

/-- A register has 32 bits. -/
theorem State.flag_eq_false_of_ge (s : State) (off : Nat) {i : Nat} (h : 32 ≤ i) : s.flag off i = false :=
  Nat.testBit_lt_two_pow (Nat.lt_of_lt_of_le (BitVec.isLt _) (Nat.pow_le_pow_right (by decide) h))

/-- SELFTEST of check unit 32 (R151), issued: no check of acceptance passes such a billet, but a safe state may hold it. -/
def selftestOfUnit32 : JEntry where
  seq := 9
  check := 5
  st := .openIssued
  slot := some 4
  reply := ⟨9, 0, 0xB03, true, false, 1, 4⟩
  body := ⟨0x0B03, 4, 9, 0, 0, 0, 0, 0, 0, 5, [2, 32, 0, 0]⟩
  bodyOk := true
  order := 0
  applied := none
  here := none

/-- A running device whose slice 0 owes the effect of `selftestOfUnit32`. -/
def selftestState : State :=
  { State.reset with
    boot := { Boot.reset with sealedOnce := true }
    power := { Power.reset with st := 0, step := 0 }
    slices := putAt State.reset.slices 0 { Slice.reset with
      journal := [selftestOfUnit32], nextSeq := 10
      slots := putAt Slice.reset.slots 4 { Slot.empty with st := .pending, seq := 9 } } }

/-- The self-test meets the hypotheses of the clause on completed effects. -/
theorem selftestState_owes : selftestState.Owes 0 9 ∧ selftestState.knabyRuns = true ∧
    (selftestState.slice 0).entry 9 = some selftestOfUnit32 := by
  decide +kernel

/-- Refutes O36: a safe state may hold an issued SELFTEST of check unit 32, for which CRC_STAT has no bit. When hardware reports that
its first row fails, the clause on opcode 0x0B03 asks for bit 32 of a 32-bit register. -/
theorem not_effectsIssueAndEnd : ¬ Obligations.EffectsIssueAndEnd := by
  unfold Obligations.EffectsIssueAndEnd
  rintro ⟨-, -, hdone, -⟩
  obtain ⟨howes, hruns, hentry⟩ := selftestState_owes
  obtain ⟨t, -, ht⟩ := hdone selftestState 0 9 ⟨2, 0, [1]⟩ selftestOfUnit32 howes hruns hentry rfl rfl
  obtain ⟨-, -, -, -, -, -, hself⟩ := ht
  obtain ⟨hflag, -⟩ := (hself rfl rfl).2 (by decide)
  have hbit : t.flag R.CRC_STAT 32 = true := hflag
  rw [t.flag_eq_false_of_ge R.CRC_STAT (Nat.le_refl 32)] at hbit
  cases hbit

end Sys2Proof.Machine
end

section
/-! SUPPORT. The statement on CUT_OFF asks that a frame without a new picture adds one to the repeat count in bits [15:0] of
CMP_OUTn_STAT (R219, R228). The bit that shows why a pass was abandoned stands in the same register. The machine gives only the causes
19 and 20, but a safe state bounds no cause, and one below 16 falls into the count. -/
namespace Sys2Proof.Machine

/-- A command that ends in a state of which `P` holds and in one of which `Q` holds ends in one of which both hold. -/
theorem Ends.and {c : Instr} {s : State} {P Q : State → Prop} (hP : Ends c s P) (hQ : Ends c s Q) :
    Ends c s (fun t => P t ∧ Q t) := by
  obtain ⟨t, ht, hPt⟩ := hP
  obtain ⟨u, hu, hQu⟩ := hQ
  obtain rfl : t = u := Host.Outcome.next.inj (ht.symm.trans hu)
  exact ⟨t, ht, hPt, hQu⟩

/-- OUT1 scans frames, and its pass was abandoned for cause 1: no event of the machine gives that cause, but a safe state may hold it. -/
def abandonedCause1 : State :=
  State.reset.modOu 1 (fun o => { o with gen := .run, pass := .abandoned 1 })

/-- The state meets the hypotheses of the first clause on cut-offs. -/
theorem abandonedCause1_scans : abandonedCause1.safe = true ∧ (1 : Fin 8).val < abandonedCause1.nOut ∧
    abandonedCause1.scanning 1 = true ∧ abandonedCause1.fld (R.CMP_OUT_STAT 1) 0 16 = 0 := by
  decide +kernel

/-- Step 1 of R216 takes the repeat count from 0 to 1, and then sets bit 1 of the same register for the cause. -/
theorem cutOff_abandonedCause1 :
    Ends (.cutOff 1 0) abandonedCause1 (fun t => t.fld (R.CMP_OUT_STAT 1) 0 16 = 3) :=
  Ends.of_next rfl (by decide +kernel)

/-- Refutes O38: a safe state may hold a pass abandoned for cause 1. Its cut-off counts the repeated frame and shows the cause in one
register, so the repeat count goes from 0 to 3, where the first clause on CUT_OFF asks for 1. -/
theorem not_compositionRows : ¬ Obligations.CompositionRows := by
  unfold Obligations.CompositionRows
  rintro ⟨-, -, hcut, -⟩
  obtain ⟨hsafe, hout, hscan, hcount⟩ := abandonedCause1_scans
  have hclause := hcut abandonedCause1 1 0 hsafe rfl hout hscan rfl (.inl (by decide)) rfl
  obtain ⟨t, -, hspec, hthree⟩ := hclause.and cutOff_abandonedCause1
  obtain ⟨-, -, -, -, hrepeat, -⟩ := hspec
  obtain ⟨-, hone⟩ := hrepeat nofun
  have heq : 3 = (abandonedCause1.fld (R.CMP_OUT_STAT 1) 0 16 + 1) % 2 ^ 16 := hthree.symm.trans hone
  rw [hcount] at heq
  exact absurd heq (by decide)

end Sys2Proof.Machine
end

section
/-! SUPPORT. The statement on LINK_START_DONE gives the lanes and the rate of the started link as `linkResult` of the state before the
row. Whether training goes without AUX handshake, at the last trained pair, hangs on what the sink reports in its DPCD (R326). The row
carries that report and stores it in SINK_FAST before it chooses the pair, so a sink whose report changes trains at another pair than
the old SINK_FAST gives. -/
namespace Sys2Proof.Machine

/-- OUT_ENABLE of OUT1 (R114), issued. -/
def enableOfOut1 : JEntry where
  seq := 5
  check := 5
  st := .openIssued
  slot := some 4
  reply := ⟨5, 0, 0x302, true, false, 1, 4⟩
  body := ⟨0x0302, 4, 5, 0, 0, 0, 0, 0, 0, 5, [1, 1, 0, 0]⟩
  bodyOk := true
  order := 0
  applied := none
  here := none

/-- A device that enables OUT1, at its link start: DP with up to four lanes of 8.1 Gbit/s and a depth of 8, 1920 by 1080 at
60 Hz. The sink has last trained fully at four lanes of 1.62 Gbit/s (R327), and did not report training without AUX handshake. -/
def linkStartOfOut1 : State :=
  let enabling : State := { State.reset with
    slices := putAt State.reset.slices 0 { Slice.reset with
      journal := [enableOfOut1], nextSeq := 6
      slots := putAt Slice.reset.slots 4 { Slot.empty with st := .pending, seq := 5 } } }
  ((enabling.modOu 1 (fun o => { o with
      gen := .link, enabled := true, linkCfg := true, set := some 0, seq := some 5
      link := { o.link with trained := true, lanes := 4, rate := 0 } })).setReg (R.SCN_OUT_LNK_CFG 1)
    (8 * 4 + 2 ^ 8 * 8 + 2 ^ 16 * 3)).loadTiming 1 0 ⟨148500, 1920, 88, 44, 148, 1080, 4, 5, 36, 0⟩

/-- The device owes the enable, and no commit, Hardy set or set select waits for the first cut-off. -/
theorem linkStartOfOut1_owes : linkStartOfOut1.Owes 0 5 ∧ (linkStartOfOut1.ou 1).gen = .link ∧ (linkStartOfOut1.ou 1).seq = some 5 ∧
    linkStartOfOut1.pair.give = [] ∧ linkStartOfOut1.disp.commits = [] ∧ (linkStartOfOut1.hd 1).commit = none ∧
    (linkStartOfOut1.ou 1).select = false := by
  decide +kernel

/-- By the old SINK_FAST, training is full and its first candidate succeeds. -/
theorem linkResult_linkStartOfOut1 : linkStartOfOut1.linkResult 1 [] = some (4, 8100) ∧
    cfgLink (linkStartOfOut1.linkCfg 1) < 2 := by
  decide +kernel

/-- The sink reports training without AUX handshake, and the link starts at the last trained rate, code 0. -/
theorem linkStartDone_linkStartOfOut1 :
    Ends (.linkStartDone 1 [] true false false 1) linkStartOfOut1 (fun t => (t.ou 1).link.rate = 0) :=
  Ends.of_next rfl (by decide +kernel)

/-- Refutes O40: where the sink first reports training without AUX handshake at this link start, the link trains at the last trained
pair, four lanes of 1.62 Gbit/s (R326). The clause on LINK_START_DONE asks for the pair of the state before the report, four lanes of
8.1 Gbit/s with rate code 3. -/
theorem not_panelAndAnvilRows : ¬ Obligations.PanelAndAnvilRows := by
  unfold Obligations.PanelAndAnvilRows
  rintro ⟨-, -, -, hstart, -⟩
  obtain ⟨howes, hgen, hseq, hgive, hcommits, hcommit, hselect⟩ := linkStartOfOut1_owes
  obtain ⟨hresult, hdp⟩ := linkResult_linkStartOfOut1
  have hclause := hstart linkStartOfOut1 1 [] true false false 1 5 howes hgen (.inl (by decide)) hseq hgive hcommits hcommit
    (.inl (by decide)) hselect
  obtain ⟨t, -, hspec, hlow⟩ := hclause.and linkStartDone_linkStartOfOut1
  obtain ⟨-, -, -, -, hpair, -⟩ := hspec
  obtain ⟨-, hrate⟩ := hpair (4, 8100) hresult
  have heq : 0 = rateCode 8100 := hlow.symm.trans (hrate.trans (if_pos hdp))
  exact absurd heq (by decide)

end Sys2Proof.Machine
end

section
/-! SUPPORT. The statement on QUANTUM_BOUNDARY asks that each job of the outgoing slice counts one quantum more than it had (R393). The
machine finds a job by its slice and SEQ. The journal keeps the SEQs of OPEN jobs apart, but a safe state bounds nothing in the list of
jobs, and of two with one SEQ each takes the counts meant for the other. -/
namespace Sys2Proof.Machine

/-- A compute job of slice 0 with SEQ 5 and no QUANTA_LIMIT (R126) that has used `k` quanta. -/
def unlimitedJob (k : Nat) : CruJob where
  slice := 0
  seq := 5
  pl := List.replicate 32 0
  next := 0
  quanta := k
  ras := none

/-- A running device whose slice 0 owns the quantum, with two jobs of one SEQ: the machine starts no such pair, but a safe state may
hold it. -/
def twinJobs : State :=
  { State.reset with
    boot := { Boot.reset with sealedOnce := true }
    power := { Power.reset with st := 0, step := 0 }
    cru := { Cluster.reset with jobs := [unlimitedJob 0, unlimitedJob 1] } }

/-- The state meets the hypotheses of the first clause on quantum boundaries. -/
theorem twinJobs_runs : twinJobs.safe = true ∧ twinJobs.cruRuns = true ∧ twinJobs.cru.turn < twinJobs.nSlices ∧
    twinJobs.cru.jobs.all (fun j => j.slice != twinJobs.cru.turn || u32 j.pl (if j.ras.isSome then 0x1C else 0x14) == 0 ||
      decide (j.quanta + 1 < u32 j.pl (if j.ras.isSome then 0x1C else 0x14))) = true := by
  decide +kernel

/-- The count of the first job goes to both, and then the count of the second. -/
theorem quantumBoundary_twinJobs :
    Ends (.quantumBoundary 0 0) twinJobs (fun t => t.cru.jobs.map (·.quanta) = [2, 2]) :=
  Ends.of_next rfl (by decide +kernel)

/-- Refutes O44: a safe state may hold two jobs of one slice and SEQ, which have used 0 quanta and 1. The boundary leaves both at 2,
where the first clause on QUANTUM_BOUNDARY asks for 1 and 2. -/
theorem not_dispatchAndQuanta : ¬ Obligations.DispatchAndQuanta := by
  unfold Obligations.DispatchAndQuanta
  rintro ⟨hboundary, -⟩
  obtain ⟨hsafe, hruns, hturn, hlimits⟩ := twinJobs_runs
  obtain ⟨t, -, hspec, hboth⟩ := (hboundary twinJobs hsafe hruns hturn hlimits).and quantumBoundary_twinJobs
  obtain ⟨hnext, -⟩ := hspec
  have heach : t.cru.jobs.map (·.quanta) = [1, 2] := congrArg (fun u => u.cru.jobs.map (·.quanta)) hnext
  exact absurd (hboth.symm.trans heach) (by decide)

end Sys2Proof.Machine
end
